-- ==== Sys2Proof/Word.lean ====
section
/-! DEFINITION. The two word types of the TL6210's frames: a byte and a two-byte field (11.1). -/

namespace Sys2Proof

/-- One byte of a frame, of a monitor line or of the EEPROM. -/
abbrev Byte := BitVec 8

/-- A two-byte field, or one expander word of 16 lines (R6). -/
abbrev Half := BitVec 16

end Sys2Proof
end

