-- ==== Sys2Proof/Machine/Bytes.lean ====
section
/-! DEFINITION. Byte order and the encodings by kind of R191: multi-byte fields high byte first, signed fields two's
complement, absent one-byte items 0xFF and absent two-byte items 0. -/

namespace Sys2Proof.Machine

/-- The high byte of a two-byte field. -/
def hiByte (h : Half) : Byte := h.extractLsb' 8 8

/-- The low byte of a two-byte field. -/
def loByte (h : Half) : Byte := h.extractLsb' 0 8

/-- The two-byte field of a high and a low byte (R191). -/
def halfOf (hi lo : Byte) : Half := hi ++ lo

/-- A two-byte field as it is sent, high byte first (R191). -/
def halfBytes (h : Half) : List Byte := [hiByte h, loByte h]

/-- An index, a code or a small count in one byte (R191). -/
def u8 (n : Nat) : List Byte := [BitVec.ofNat 8 n]

/-- An unsigned two-byte item (R191). -/
def u16 (n : Nat) : List Byte := halfBytes (BitVec.ofNat 16 n)

/-- A signed two-byte item (R191). -/
def i16 (z : Int) : List Byte := halfBytes (BitVec.ofInt 16 z)

/-- A flag in one byte: no 0, yes 1 (11.1). -/
def flag8 (b : Bool) : List Byte := u8 b.toNat

/-- An optional one-byte item, 0xFF when absent (R191). -/
def opt8 (o : Option Nat) : List Byte := u8 (o.getD 0xFF)

/-- An optional unsigned two-byte item, 0 when absent (R191). -/
def opt16 (o : Option Nat) : List Byte := u16 (o.getD 0)

/-- An optional signed two-byte item, 0 when absent (R191). -/
def optI16 (o : Option Int) : List Byte := i16 (o.getD 0)

/-- Bit `n` of an expander word: the level of line `n` (R6). -/
def lineBit (w : Half) (n : Fin 16) : Bool := w.getLsbD n.val

end Sys2Proof.Machine
end

