-- ==== Sys2Proof/Syntax.lean ====
section
/-! DEFINITION. The commands of the TL6210: one constructor of `Instr` for each row of the table of operations and
events, in the table's order, with the row's operands. A request's operands are the raw fields of its frame (11.1), so
that a field out of range is an operand like any other and the request's own checks judge it (R172). -/

namespace Sys2Proof

/-- A service, A or B. -/
inductive Svc where
  | a
  | b
  deriving DecidableEq, Repr

/-- The port a window closes on: station port A, station port B or the site port. -/
inductive PortId where
  | a
  | b
  | site
  deriving DecidableEq, Repr

/-- A tower entry as a frame or the image carries it: a flags byte and four two-byte fields (11.4). -/
structure TowerFrame where
  flags    : Byte
  ratio    : Half
  phase    : Half
  ratioTol : Half
  phaseTol : Half
  deriving DecidableEq, Repr

/-- The long form of WRITE_PATTERN after its present byte (11.1). -/
structure PatternFrame where
  label       : Vector Byte 8
  power       : Half
  cutback     : Byte
  refTower    : Byte
  window      : Byte
  persistence : Byte
  fallback    : Byte
  towers      : Vector TowerFrame 12
  pairs       : List (Byte × Byte)
  deriving DecidableEq, Repr

/-- One tower item of TUNE_PATTERN (11.1). -/
structure TuneItem where
  tower    : Byte
  ratioTol : Half
  phaseTol : Half
  ratioEnf : Byte
  phaseEnf : Byte
  deriving DecidableEq, Repr

/-- The long form of WRITE_POINT after its present byte (11.1). -/
structure PointFrame where
  driveExp   : Byte
  driveLine  : Byte
  sense1Exp  : Byte
  sense1Line : Byte
  sense2Exp  : Byte
  sense2Line : Byte
  hot        : Byte
  stage      : Byte
  transit    : Half
  deriving DecidableEq, Repr

/-- The five settings of WRITE_INTERLOCK (11.1). -/
structure InterlockFrame where
  present       : Byte
  mask          : Byte
  motionInhibit : Byte
  clearing      : Byte
  active        : Byte
  deriving DecidableEq, Repr

/-- The seven settings of WRITE_SERVICE_SETTINGS (11.1). -/
structure SettingsFrame where
  initialMode : Byte
  muteConfirm : Byte
  settle      : Half
  muteTimeout : Half
  stale       : Byte
  baud        : Byte
  minRef      : Half
  deriving DecidableEq, Repr

/-- The date and time of SET_CLOCK's long form (11.1). -/
structure DateFrame where
  year   : Half
  month  : Byte
  day    : Byte
  hour   : Byte
  minute : Byte
  second : Byte
  deriving DecidableEq, Repr

/-- The commands the part takes from outside: resets, closing port windows, bus transactions that end, pin levels that
are accepted, monitor bytes, and the moments its timers run out. -/
inductive Instr where
  /-- POWER_ON_RESET (R181). `svcs`: the SVCS pin's level at the capture, true for high. -/
  | powerOnReset (svcs : Bool)
  /-- RESET_N_ASSERTED (R185). -/
  | resetNAsserted
  /-- RESET_N_RELEASED (R185). `svcs` as for POWER_ON_RESET. -/
  | resetNReleased (svcs : Bool)
  /-- PORT_POLL (R166). `clocked`: how many bytes the master clocked, the length byte 0 among them. -/
  | portPoll (port : PortId) (clocked : Nat)
  /-- BAD_LENGTH_WINDOW (R166, R168). `clocked`: the bytes of the window. -/
  | badLengthWindow (port : PortId) (clocked : List Byte)
  /-- UNKNOWN_REQUEST (R168). `params`: the bytes after the tag. -/
  | unknownRequest (port : PortId) (code tag : Byte) (params : List Byte)
  /-- READ_STATUS (R173). -/
  | readStatus (port : PortId) (tag : Byte)
  /-- READ_SERVICE (R62). -/
  | readService (port : PortId) (tag svc : Byte)
  /-- READ_CONFORMANCE_TABLE (R126): READ_CONFORMANCE with any view code but RAW's. -/
  | readConformanceTable (port : PortId) (tag svc view : Byte)
  /-- READ_CONFORMANCE_RAW (R127). -/
  | readConformanceRaw (port : PortId) (tag svc : Byte)
  /-- READ_POINTS (R18). -/
  | readPoints (port : PortId) (tag first : Byte)
  /-- READ_INTERLOCKS (R24). -/
  | readInterlocks (port : PortId) (tag : Byte)
  /-- READ_EVENTS (R178). -/
  | readEvents (port : PortId) (tag : Byte)
  /-- READ_CLOCK (R153). -/
  | readClock (port : PortId) (tag : Byte)
  /-- READ_PATTERN (R40). -/
  | readPattern (port : PortId) (tag svc slot : Byte)
  /-- READ_SCHEDULE (R156). -/
  | readSchedule (port : PortId) (tag svc : Byte)
  /-- REQUEST_PATTERN (R65). -/
  | requestPattern (port : PortId) (tag svc slot : Byte)
  /-- ABORT_CHANGE (R68, R95). -/
  | abortChange (port : PortId) (tag svc : Byte)
  /-- RESUME_SERVICE (R59). -/
  | resumeService (port : PortId) (tag svc : Byte)
  /-- SET_MODE (R60). -/
  | setMode (port : PortId) (tag svc mode : Byte)
  /-- ACK_INTERLOCK (R23). -/
  | ackInterlock (port : PortId) (tag index : Byte)
  /-- WRITE_PATTERN (R33). `body`: none for the empty marker. -/
  | writePattern (port : PortId) (tag svc slot : Byte) (body : Option PatternFrame)
  /-- TUNE_PATTERN (R36). -/
  | tunePattern (port : PortId) (tag svc slot cutback window persistence : Byte) (items : List TuneItem)
  /-- WRITE_SCHEDULE_ROW (R155). `entries`: minute of day and slot. -/
  | writeScheduleRow (port : PortId) (tag svc month : Byte) (entries : List (Half × Byte))
  /-- WRITE_POINT (R3). `body`: none for the absent marker. -/
  | writePoint (port : PortId) (tag index : Byte) (body : Option PointFrame)
  /-- WRITE_SITE_BUS_RECORD (R5): WRITE_POINT with index 32. `debounce`: a time in milliseconds, two bytes (R191). -/
  | writeSiteBusRecord (port : PortId) (tag base speed : Byte) (debounce : Half)
  /-- WRITE_INTERLOCK (R19, R22). `pin`: the fresh sample of the pin, true for the high level. -/
  | writeInterlock (port : PortId) (tag index : Byte) (body : InterlockFrame) (pin : Bool)
  /-- WRITE_SERVICE_SETTINGS (R61). -/
  | writeServiceSettings (port : PortId) (tag svc : Byte) (body : SettingsFrame)
  /-- WRITE_ROUTE (R176). -/
  | writeRoute (port : PortId) (tag kind ports : Byte)
  /-- SET_CLOCK (R152). `date`: none for the keep marker. -/
  | setClock (port : PortId) (tag timebase : Byte) (date : Option DateFrame)
  /-- SAVE_CONFIG (R189). -/
  | saveConfig (port : PortId) (tag : Byte)
  /-- RESET_PART (R185). `svcs`: the SVCS pin's level, captured in the event. -/
  | resetPart (port : PortId) (tag : Byte) (svcs : Bool)
  /-- EXPANDER_INIT_TRANSACTION_COMPLETE (R8). `word`: the word read, for a transaction that reads. -/
  | expanderInitTransactionComplete (word : Half)
  /-- CONFIRMATION_READ_DUE (R183). -/
  | confirmationReadDue (exp : Fin 8)
  /-- CONFIRMATION_READ_COMPLETE (R183). -/
  | confirmationReadComplete (word : Half)
  /-- SCAN_READ_COMPLETE (R13). -/
  | scanReadComplete (word : Half)
  /-- FAST_SCAN_TIMER (R12). -/
  | fastScanTimer
  /-- PERIODIC_SCAN_TIMER (R12). -/
  | periodicScanTimer
  /-- EXP_ATTN_ASSERTED (R12). -/
  | expAttnAsserted
  /-- RETRY_READ_COMPLETE (R16). `word`: the word read, which the part does not use. -/
  | retryReadComplete (word : Half)
  /-- RESTORE_TRANSACTION_COMPLETE (R16). `word`: the word read, for a step that reads. -/
  | restoreTransactionComplete (word : Half)
  /-- DRIVE_WRITE_COMPLETE (R87). -/
  | driveWriteComplete
  /-- EXPANDER_TRANSACTION_FAILED (R15). -/
  | expanderTransactionFailed
  /-- BUS_TRANSACTION_TIMEOUT (R6). -/
  | busTransactionTimeout
  /-- EEPROM_PAGE_READ_COMPLETE (R181, R190). -/
  | eepromPageReadComplete (data : Vector Byte 32)
  /-- EEPROM_PAGE_WRITE_COMPLETE (R17). -/
  | eepromPageWriteComplete
  /-- EEPROM_POLL_INTERVAL (R17). -/
  | eepromPollInterval
  /-- EEPROM_ACK_POLL_END (R17). `acked`: whether the EEPROM acknowledged its address. -/
  | eepromAckPollEnd (acked : Bool)
  /-- EEPROM_POLL_TIMEOUT (R17). -/
  | eepromPollTimeout
  /-- EEPROM_TRANSACTION_FAILED (R190). -/
  | eepromTransactionFailed
  /-- INTERLOCK_FIRST_SAMPLE (R20). `high`: the pin's level. -/
  | interlockFirstSample (ilk : Fin 4) (high : Bool)
  /-- INTERLOCK_LEVEL_ACCEPTED (R21). `high`: the level accepted. -/
  | interlockLevelAccepted (ilk : Fin 4) (high : Bool)
  /-- SETTLE_DELAY_EXPIRY (R82). -/
  | settleDelayExpiry (svc : Svc)
  /-- RFDOWN_ACCEPTED (R83). -/
  | rfdownAccepted (svc : Svc)
  /-- MUTE_TIMEOUT (R85). -/
  | muteTimeout (svc : Svc)
  /-- TRANSIT_LIMIT_EXPIRY (R89). -/
  | transitLimitExpiry (point : Fin 32)
  /-- MONITOR_BYTE_RECEIVED (R108). -/
  | monitorByteReceived (svc : Svc) (byte : Byte)
  /-- MONITOR_FRAMING_ERROR (R108). -/
  | monitorFramingError (svc : Svc)
  /-- GAP_TIMER_EXPIRY (R110). -/
  | gapTimerExpiry (svc : Svc)
  /-- STALENESS_TIMER_EXPIRY (R112). -/
  | stalenessTimerExpiry (svc : Svc)
  /-- VERIFY_WINDOW_EXPIRY (R133). -/
  | verifyWindowExpiry (svc : Svc)
  /-- SECOND_DIVIDER_STEP (R149). -/
  | secondDividerStep
  /-- TICK_IN_EDGE_ACCEPTED (R150). -/
  | tickInEdgeAccepted
  /-- TICK_LOSS_TIMEOUT (R151). -/
  | tickLossTimeout
  /-- EXP_ATTN_NEGATED (R12). -/
  | expAttnNegated
  /-- RFDOWN_NEGATED (R83). -/
  | rfdownNegated (svc : Svc)
  /-- DIRECTION_OUTPUT_REWRITE_COMPLETE (R4). -/
  | directionOutputRewriteComplete
  /-- INTERLOCK_PIN_LEVEL_CHANGE (R20). `high`: the level sampled. -/
  | interlockPinLevelChange (ilk : Fin 4) (high : Bool)
  deriving DecidableEq, Repr

end Sys2Proof
end

