-- ==== Sys2Proof/Decode.lean ====
section
/-! DEFINITION. From the bytes of a closed port window to the command it is (R166, R168, 11.1), the frame of a request,
and `decodeTableWord`. -/

namespace Sys2Proof

open Machine (halfOf halfBytes)

/-! ## Frames -/

/-- A request frame: its length byte, its request code, its tag and its parameters (11.1). -/
def frameOf (code tag : Byte) (params : List Byte) : List Byte :=
  BitVec.ofNat 8 (3 + params.length) :: code :: tag :: params

/-- The nine bytes of a tower entry (11.4). -/
def towerBytes (t : TowerFrame) : List Byte :=
  t.flags :: (halfBytes t.ratio ++ halfBytes t.phase ++ halfBytes t.ratioTol ++ halfBytes t.phaseTol)

/-- A switch map pair as WRITE_PATTERN carries it. -/
def pairBytes (q : Byte × Byte) : List Byte := [q.1, q.2]

/-- WRITE_PATTERN's long form after its present byte (11.1). -/
def patternBytes (f : PatternFrame) : List Byte :=
  f.label.toList ++ (halfBytes f.power ++ ([f.cutback, f.refTower, f.window, f.persistence, f.fallback] ++
    (f.towers.toList.flatMap towerBytes ++ (BitVec.ofNat 8 f.pairs.length :: f.pairs.flatMap pairBytes))))

/-- A tower item of TUNE_PATTERN (11.1). -/
def tuneItemBytes (t : TuneItem) : List Byte :=
  t.tower :: (halfBytes t.ratioTol ++ (halfBytes t.phaseTol ++ [t.ratioEnf, t.phaseEnf]))

/-- An entry of WRITE_SCHEDULE_ROW (11.1). -/
def rowEntryBytes (e : Half × Byte) : List Byte := halfBytes e.1 ++ [e.2]

/-- WRITE_POINT's long form after its present byte (11.1). -/
def pointBytes (f : PointFrame) : List Byte :=
  [f.driveExp, f.driveLine, f.sense1Exp, f.sense1Line, f.sense2Exp, f.sense2Line, f.hot, f.stage] ++
    halfBytes f.transit

/-- WRITE_SERVICE_SETTINGS after its service byte (11.1). -/
def settingsBytes (f : SettingsFrame) : List Byte :=
  [f.initialMode, f.muteConfirm] ++ (halfBytes f.settle ++ (halfBytes f.muteTimeout ++
    ([f.stale, f.baud] ++ halfBytes f.minRef)))

/-- SET_CLOCK's long form after its date-given byte (11.1). -/
def dateBytes (d : DateFrame) : List Byte :=
  halfBytes d.year ++ [d.month, d.day, d.hour, d.minute, d.second]

/-- The request frame of a command that is a request (11.1); empty for a command that is none. -/
def requestFrame : Instr → List Byte
  | .unknownRequest _ code tag params => frameOf code tag params
  | .readStatus _ tag => frameOf 0x01 tag []
  | .readService _ tag svc => frameOf 0x02 tag [svc]
  | .readConformanceTable _ tag svc view => frameOf 0x03 tag [svc, view]
  | .readConformanceRaw _ tag svc => frameOf 0x03 tag [svc, 1]
  | .readPoints _ tag first => frameOf 0x04 tag [first]
  | .readInterlocks _ tag => frameOf 0x05 tag []
  | .readEvents _ tag => frameOf 0x06 tag []
  | .readClock _ tag => frameOf 0x07 tag []
  | .readPattern _ tag svc slot => frameOf 0x08 tag [svc, slot]
  | .readSchedule _ tag svc => frameOf 0x09 tag [svc]
  | .requestPattern _ tag svc slot => frameOf 0x10 tag [svc, slot]
  | .abortChange _ tag svc => frameOf 0x11 tag [svc]
  | .resumeService _ tag svc => frameOf 0x12 tag [svc]
  | .setMode _ tag svc mode => frameOf 0x13 tag [svc, mode]
  | .ackInterlock _ tag index => frameOf 0x14 tag [index]
  | .writePattern _ tag svc slot none => frameOf 0x20 tag [svc, slot, 0]
  | .writePattern _ tag svc slot (some f) => frameOf 0x20 tag (svc :: slot :: 1 :: patternBytes f)
  | .tunePattern _ tag svc slot cutback window persistence items =>
      frameOf 0x21 tag (svc :: slot :: cutback :: window :: persistence :: BitVec.ofNat 8 items.length ::
        items.flatMap tuneItemBytes)
  | .writeScheduleRow _ tag svc month entries =>
      frameOf 0x22 tag (svc :: month :: BitVec.ofNat 8 entries.length :: entries.flatMap rowEntryBytes)
  | .writePoint _ tag index none => frameOf 0x23 tag [index, 0]
  | .writePoint _ tag index (some f) => frameOf 0x23 tag (index :: 1 :: pointBytes f)
  | .writeSiteBusRecord _ tag base speed debounce => frameOf 0x23 tag ([32, base, speed] ++ halfBytes debounce)
  | .writeInterlock _ tag index f _ =>
      frameOf 0x24 tag [index, f.present, f.mask, f.motionInhibit, f.clearing, f.active]
  | .writeServiceSettings _ tag svc f => frameOf 0x25 tag (svc :: settingsBytes f)
  | .writeRoute _ tag kind ports => frameOf 0x26 tag [kind, ports]
  | .setClock _ tag timebase none => frameOf 0x27 tag [timebase, 0]
  | .setClock _ tag timebase (some d) => frameOf 0x27 tag (timebase :: 1 :: dateBytes d)
  | .saveConfig _ tag => frameOf 0x28 tag []
  | .resetPart _ tag _ => frameOf 0x29 tag []
  | _ => []

/-! ## Reading the parameters (R168, step 2) -/

/-- `n` tower entries from the front of the bytes, and the bytes left. -/
def takeTowers : Nat → List Byte → Option (List TowerFrame × List Byte)
  | 0, rest => some ([], rest)
  | n + 1, f :: a :: b :: c :: d :: e :: g :: h :: i :: rest =>
      match takeTowers n rest with
      | some (ts, rest') => some (⟨f, halfOf a b, halfOf c d, halfOf e g, halfOf h i⟩ :: ts, rest')
      | none => none
  | _ + 1, _ => none

/-- Switch map pairs to the end of the bytes. -/
def takePairs : List Byte → Option (List (Byte × Byte))
  | [] => some []
  | p :: q :: rest => (takePairs rest).map ((p, q) :: ·)
  | [_] => none

/-- Tower items to the end of the bytes. -/
def takeItems : List Byte → Option (List TuneItem)
  | [] => some []
  | t :: a :: b :: c :: d :: e :: f :: rest =>
      (takeItems rest).map (⟨t, halfOf a b, halfOf c d, e, f⟩ :: ·)
  | _ => none

/-- Row entries to the end of the bytes. -/
def takeEntries : List Byte → Option (List (Half × Byte))
  | [] => some []
  | a :: b :: c :: rest => (takeEntries rest).map ((halfOf a b, c) :: ·)
  | _ => none

/-- A list whose count byte agrees with the members that follow it (R168). -/
def counted {α : Type} (count : Byte) (l : Option (List α)) : Option (List α) :=
  match l with
  | some l => if l.length = count.toNat then some l else none
  | none => none

/-- WRITE_PATTERN's long form after its present byte. -/
def takePattern : List Byte → Option PatternFrame
  | l0 :: l1 :: l2 :: l3 :: l4 :: l5 :: l6 :: l7 :: p1 :: p0 :: cut :: ref :: win :: per :: fb :: rest =>
      match takeTowers 12 rest with
      | some (ts, m :: rest') =>
          match counted m (takePairs rest') with
          | some pairs =>
              if h : ts.length = 12 then
                some
                  { label := #v[l0, l1, l2, l3, l4, l5, l6, l7], power := halfOf p1 p0, cutback := cut,
                    refTower := ref, window := win, persistence := per, fallback := fb,
                    towers := Vector.mk ts.toArray (by simpa using h), pairs := pairs }
              else none
          | none => none
      | _ => none
  | _ => none

/-- A request without parameters. -/
def takeNone (i : Instr) : List Byte → Option Instr
  | [] => some i
  | _ => none

/-- A request with one parameter. -/
def takeOne (f : Byte → Instr) : List Byte → Option Instr
  | [a] => some (f a)
  | _ => none

/-- A request with two parameters. -/
def takeTwo (f : Byte → Byte → Instr) : List Byte → Option Instr
  | [a, b] => some (f a b)
  | _ => none

/-- READ_CONFORMANCE: view code 1 is RAW, any other is judged as the table view (R126, R127). -/
def takeConformance (port : PortId) (tag svc view : Byte) : Instr :=
  if view = 1 then .readConformanceRaw port tag svc else .readConformanceTable port tag svc view

/-- WRITE_PATTERN, in its two forms (11.1). -/
def takeWritePattern (port : PortId) (tag : Byte) : List Byte → Option Instr
  | svc :: slot :: present :: rest =>
      if present = 0 then takeNone (.writePattern port tag svc slot none) rest
      else if present = 1 then (takePattern rest).map fun f => .writePattern port tag svc slot (some f)
      else none
  | _ => none

/-- TUNE_PATTERN. -/
def takeTunePattern (port : PortId) (tag : Byte) : List Byte → Option Instr
  | svc :: slot :: cut :: win :: per :: t :: rest =>
      (counted t (takeItems rest)).map fun items => .tunePattern port tag svc slot cut win per items
  | _ => none

/-- WRITE_SCHEDULE_ROW. -/
def takeScheduleRow (port : PortId) (tag : Byte) : List Byte → Option Instr
  | svc :: month :: e :: rest =>
      (counted e (takeEntries rest)).map fun entries => .writeScheduleRow port tag svc month entries
  | _ => none

/-- WRITE_POINT past its index, in its two forms. -/
def takePoint (port : PortId) (tag index : Byte) : List Byte → Option Instr
  | [present] => if present = 0 then some (.writePoint port tag index none) else none
  | [present, de, dl, ae, al, be, bl, hot, stage, t1, t0] =>
      if present = 1 then
        some (.writePoint port tag index (some ⟨de, dl, ae, al, be, bl, hot, stage, halfOf t1 t0⟩))
      else none
  | _ => none

/-- The site bus record past its index: the debounce interval, a time in milliseconds, takes two bytes (R191). -/
def takeSiteBus (port : PortId) (tag : Byte) : List Byte → Option Instr
  | [base, speed, d1, d0] => some (.writeSiteBusRecord port tag base speed (halfOf d1 d0))
  | _ => none

/-- WRITE_POINT, and the site bus record at index 32 (R3, R5). -/
def takeWritePoint (port : PortId) (tag : Byte) : List Byte → Option Instr
  | index :: rest => if index = 32 then takeSiteBus port tag rest else takePoint port tag index rest
  | [] => none

/-- WRITE_INTERLOCK. -/
def takeInterlock (port : PortId) (pin : Bool) (tag : Byte) : List Byte → Option Instr
  | [index, present, mask, motion, clearing, active] =>
      some (.writeInterlock port tag index ⟨present, mask, motion, clearing, active⟩ pin)
  | _ => none

/-- WRITE_SERVICE_SETTINGS. -/
def takeSettings (port : PortId) (tag : Byte) : List Byte → Option Instr
  | [svc, mode, conf, s1, s0, m1, m0, stale, baud, r1, r0] =>
      some (.writeServiceSettings port tag svc ⟨mode, conf, halfOf s1 s0, halfOf m1 m0, stale, baud, halfOf r1 r0⟩)
  | _ => none

/-- SET_CLOCK, in its two forms. -/
def takeClock (port : PortId) (tag : Byte) : List Byte → Option Instr
  | [timebase, given] => if given = 0 then some (.setClock port tag timebase none) else none
  | [timebase, given, y1, y0, mo, d, h, mi, se] =>
      if given = 1 then some (.setClock port tag timebase (some ⟨halfOf y1 y0, mo, d, h, mi, se⟩)) else none
  | _ => none

/-- A request from its code, tag and parameters; none where the parameters have not the form the code calls for. `pin`
is the level the part samples in the event of WRITE_INTERLOCK (the interlock's pin) or RESET_PART (SVCS). -/
def decodeRequest (port : PortId) (pin : Bool) (code tag : Byte) (params : List Byte) : Option Instr :=
  if code = 0x01 then takeNone (.readStatus port tag) params
  else if code = 0x02 then takeOne (.readService port tag) params
  else if code = 0x03 then takeTwo (takeConformance port tag) params
  else if code = 0x04 then takeOne (.readPoints port tag) params
  else if code = 0x05 then takeNone (.readInterlocks port tag) params
  else if code = 0x06 then takeNone (.readEvents port tag) params
  else if code = 0x07 then takeNone (.readClock port tag) params
  else if code = 0x08 then takeTwo (.readPattern port tag) params
  else if code = 0x09 then takeOne (.readSchedule port tag) params
  else if code = 0x10 then takeTwo (.requestPattern port tag) params
  else if code = 0x11 then takeOne (.abortChange port tag) params
  else if code = 0x12 then takeOne (.resumeService port tag) params
  else if code = 0x13 then takeTwo (.setMode port tag) params
  else if code = 0x14 then takeOne (.ackInterlock port tag) params
  else if code = 0x20 then takeWritePattern port tag params
  else if code = 0x21 then takeTunePattern port tag params
  else if code = 0x22 then takeScheduleRow port tag params
  else if code = 0x23 then takeWritePoint port tag params
  else if code = 0x24 then takeInterlock port pin tag params
  else if code = 0x25 then takeSettings port tag params
  else if code = 0x26 then takeTwo (.writeRoute port tag) params
  else if code = 0x27 then takeClock port tag params
  else if code = 0x28 then takeNone (.saveConfig port tag) params
  else if code = 0x29 then takeNone (.resetPart port tag pin) params
  else some (.unknownRequest port code tag params)

/-- The command a closed window is (R166): the bytes clocked in, the length byte first. -/
def decodeWindow (port : PortId) (pin : Bool) (clocked : List Byte) : Instr :=
  match clocked with
  | [] => .portPoll port 0
  | len :: rest =>
      if len = 0 then .portPoll port clocked.length
      else if len.toNat = clocked.length then
        match rest with
        | code :: tag :: params => (decodeRequest port pin code tag params).getD (.badLengthWindow port clocked)
        | _ => .badLengthWindow port clocked
      else .badLengthWindow port clocked

/-- The port a command's window closed on; the site port for a command that is no window. -/
def portOf : Instr → PortId
  | .portPoll p _ | .badLengthWindow p _ | .unknownRequest p _ _ _ | .readStatus p _ | .readService p _ _
  | .readConformanceTable p _ _ _ | .readConformanceRaw p _ _ | .readPoints p _ _ | .readInterlocks p _
  | .readEvents p _ | .readClock p _ | .readPattern p _ _ _ | .readSchedule p _ _ | .requestPattern p _ _ _
  | .abortChange p _ _ | .resumeService p _ _ | .setMode p _ _ _ | .ackInterlock p _ _ | .writePattern p _ _ _ _
  | .tunePattern p _ _ _ _ _ _ _ | .writeScheduleRow p _ _ _ _ | .writePoint p _ _ _ | .writeSiteBusRecord p _ _ _ _
  | .writeInterlock p _ _ _ _ | .writeServiceSettings p _ _ _ | .writeRoute p _ _ _ | .setClock p _ _ _
  | .saveConfig p _ | .resetPart p _ _ => p
  | _ => .site

/-- The pin level a request samples in its event; low for a command that samples none. -/
def pinOf : Instr → Bool
  | .writeInterlock _ _ _ _ pin => pin
  | .resetPart _ _ svcs => svcs
  | _ => false

/-- The command the table's bits of a word spell. No row of spec/opcode_table.json gives bits, so no word spells one. -/
def decodeTableWord (_nbits _w : Nat) : Option Instr := none

end Sys2Proof
end

