-- ==== Sys2Proof/Config.lean ====
section
/-! DEFINITION. The values the reference leaves open, as constants without a body: nothing can be proved of
their value, so every claim holds whatever they are. -/

namespace Sys2Proof.Config

/-- A service's part in the current job, as READ_SERVICE reports it (R62). -/
inductive JobPart where
  | changing
  | collateral
  | none
  deriving DecidableEq, Repr

/-- FREE VALUE (log entry 20): the byte READ_SERVICE sends for a service's part in the current job. R62 lists the
item and 11.1 gives it no code. -/
opaque jobPartCode : JobPart → Byte

/-- FREE VALUE (log entry 21): the byte READ_SCHEDULE sends in place of the scheduled slot while the clock-set flag is
clear. R156 calls the item "not computed" and 11.1 gives that no code. -/
opaque notComputedSlot : Byte

end Sys2Proof.Config
end

