-- ==== Sys2Proof/Machine/State.lean ====
section
/-! DEFINITION. The state of the TL6210, as plain data: one structure for each block of the reference, the record
each block holds, and the state right after a power-on reset. Times are absolute: `State.now` counts milliseconds, and
a running timer is the moment it runs out. -/

namespace Sys2Proof.Machine

/-! ## Pairs and triples of like things -/

/-- One value for each service. -/
structure Per (α : Type) where
  a : α
  b : α
  deriving DecidableEq, Repr

/-- One value for each port. -/
structure PerPort (α : Type) where
  a    : α
  b    : α
  site : α
  deriving DecidableEq, Repr

/-! ## Configuration RAM (R1, R5, R19, R25, R61, R154, R175) -/

/-- The two positions of a switch point; the coil is energised for position 2. -/
inductive Pos where
  | one
  | two
  deriving DecidableEq, Repr

/-- A set of services: a hot mask or an interlock's service mask (R1, R19). -/
inductive Mask where
  | a
  | b
  | ab
  deriving DecidableEq, Repr

/-- One line of one expander. -/
structure Line where
  exp  : Fin 8
  line : Fin 16
  deriving DecidableEq, Repr

/-- A present switch point record (R1). `transit` is in milliseconds. -/
structure PointRec where
  drive   : Line
  sense1  : Line
  sense2  : Line
  hot     : Mask
  stage   : Fin 4
  transit : Nat
  deriving DecidableEq, Repr

/-- The bus speed setting (R5). -/
inductive BusSpeed where
  | khz100
  | khz400
  deriving DecidableEq, Repr

/-- The settings of a present interlock (R19). `latched`: clearing mode LATCHED; `activeHigh`: the high level means
open. -/
structure InterlockSettings where
  mask          : Mask
  motionInhibit : Bool
  latched       : Bool
  activeHigh    : Bool
  deriving DecidableEq, Repr

/-- A service's mode (R42). -/
inductive Mode where
  | manual
  | auto
  deriving DecidableEq, Repr

/-- A service's mute confirm mode (R61). -/
inductive MuteConfirm where
  | fixed
  | confirm
  deriving DecidableEq, Repr

/-- A monitor baud rate (R61). -/
inductive Baud where
  | b9600
  | b19200
  | b38400
  deriving DecidableEq, Repr

/-- A service's settings record (R61). Settle delay and mute timeout in milliseconds, stale timeout in seconds. -/
structure ServiceSettings where
  initialMode : Mode
  muteConfirm : MuteConfirm
  settle      : Nat
  muteTimeout : Nat
  stale       : Nat
  baud        : Baud
  minRef      : Nat
  deriving DecidableEq, Repr

/-- The consequence of a parameter going OUT (R27). -/
inductive Enforcement where
  | advisory
  | cutback
  | withdraw
  deriving DecidableEq, Repr

/-- A pattern's fallback policy (R26). -/
inductive Policy where
  | revert
  | holdCutback
  | withdraw
  deriving DecidableEq, Repr

/-- A tower entry of a pattern (R27). -/
structure TowerEntry where
  ratio    : Nat
  phase    : Int
  ratioTol : Nat
  phaseTol : Nat
  ratioEnf : Enforcement
  phaseEnf : Enforcement
  deriving DecidableEq, Repr

/-- A pattern record (R26, R27, R30). The switch map gives each switch point its listed position, or none where the
point is not listed, so that no point is listed twice. -/
structure Pattern where
  label       : Vector Byte 8
  power       : Nat
  cutback     : Nat
  refTower    : Fin 12
  window      : Nat
  persistence : Nat
  policy      : Policy
  towers      : Vector (Option TowerEntry) 12
  map         : Vector (Option Pos) 32
  deriving DecidableEq, Repr

/-- One entry of a month row (R154). -/
structure RowEntry where
  minute : Nat
  slot   : Fin 4
  deriving DecidableEq, Repr

/-- A set of ports: one entry of the routing table (R175). -/
structure PortSet where
  a    : Bool
  b    : Bool
  site : Bool
  deriving DecidableEq, Repr

/-- The clock's timebase: the selection (R147) or the active source. -/
inductive Timebase where
  | internal
  | tickIn
  deriving DecidableEq, Repr

/-- Configuration RAM: the whole of what the configuration image holds (10.2). The debounce interval is in
milliseconds. `rows` holds the month rows, January first; `routes` the routing entries, kind 1 first. -/
structure ConfigRam where
  points     : Vector (Option PointRec) 32
  base       : Nat
  speed      : BusSpeed
  debounce   : Nat
  interlocks : Vector (Option InterlockSettings) 4
  settings   : Per ServiceSettings
  patterns   : Per (Vector (Option Pattern) 4)
  rows       : Per (Vector (List RowEntry) 12)
  routes     : Vector PortSet 32
  timebase   : Timebase
  deriving DecidableEq, Repr

/-! ## Contactor Bus Controller -/

/-- The sensed state of a switch point (R14). -/
inductive Sensed where
  | at1
  | at2
  | moving
  | conflict
  | unknown
  deriving DecidableEq, Repr

/-- The runtime state of a switch point (R9, R10, R14). -/
structure PointState where
  commanded  : Option Pos
  sensed     : Sensed
  underDrive : Bool
  deriving DecidableEq, Repr

/-- A pending debounce record (R13, R20): the candidate, when it was first sampled, and the interval it runs for. -/
structure Debounce where
  candidate : Bool
  start     : Nat
  interval  : Nat
  deriving DecidableEq, Repr

/-- One line of an expander as the scanner keeps it (R13). The accepted value is the bit read: 0 for a made contact. -/
structure LineRec where
  accepted : Option Bool
  debounce : Option Debounce
  deriving DecidableEq, Repr

/-- An expander's health (R8). -/
inductive Health where
  | unused
  | init
  | ok
  | faulted
  deriving DecidableEq, Repr

/-- The confirmation read of an expander's start-up (R183): not called for, due at a moment, waiting or on the bus, or
completed. -/
inductive Confirm where
  | none
  | due (moment : Nat)
  | queued
  | done
  deriving DecidableEq, Repr

/-- One expander (R8, R13, R183). -/
structure Expander where
  health  : Health
  lines   : Vector LineRec 16
  confirm : Confirm
  deriving DecidableEq, Repr

/-- What a transaction does on the bus (R6). -/
inductive BusOp where
  | writeDirection (word : Half)
  | writeOutput (word : Half)
  | readInput
  | readOutput
  | pageRead (page : Nat)
  | pageWrite (page : Nat) (data : List Byte)
  | ackPoll
  deriving DecidableEq, Repr

/-- The steps that wait in the drive-write queue beside the drive writes: initialisation (R8), restore (R16),
confirmation read (R183), and the rewrites of a WRITE_POINT (R4). -/
inductive SeqStep where
  | initDirection
  | initReadback
  | initInput
  | restoreDirection
  | restoreOutput
  | restoreInput
  | confirmInput
  | rewriteDirection
  | rewriteOutput
  deriving DecidableEq, Repr

/-- A claim in the drive-write queue (R9, R11). `r4`: an accepted WRITE_POINT queued it under R4. -/
inductive Claim where
  | drive (exp : Fin 8) (targets : List (Fin 32 × Pos))
  | seq (step : SeqStep) (exp : Fin 8) (r4 : Bool)
  deriving DecidableEq, Repr

/-- What the controller puts on the bus, item by item (R6): a start or a repeated start, an address with write or read,
a byte sent, bytes received, a stop, and clock pulses with the data line released. -/
inductive BusItem where
  | start
  | repeatedStart
  | address (target : Nat) (read : Bool)
  | send (byte : Byte)
  | receive (count : Nat)
  | stop
  | clocks (count : Nat)
  deriving DecidableEq, Repr

/-- What the transaction on the bus was granted for. `live`: the job that asked for the drive write still stands. -/
inductive Txn where
  | drive (exp : Fin 8) (targets : List (Fin 32 × Pos)) (live : Bool)
  | seq (step : SeqStep) (exp : Fin 8) (r4 : Bool)
  | scan (exp : Fin 8)
  | retry (exp : Fin 8)
  | eeprom
  deriving DecidableEq, Repr

/-- The transaction on the bus (R6). `discarded`: a warm reset, or the end of the expander's use, discards its result
(R184, R4). -/
structure Current where
  txn       : Txn
  op        : BusOp
  address   : Nat
  speed     : BusSpeed
  grantedAt : Nat
  discarded : Bool
  deriving DecidableEq, Repr

/-- One read of a scan pass (R12): a scan read of an OK expander, or a retry read of a FAULTED one. -/
inductive ScanItem where
  | read (exp : Fin 8)
  | retry (exp : Fin 8)
  deriving DecidableEq, Repr

/-- The scanner (R12). `pass`: the reads still to be granted, while a pass is in progress; `held`: a request that waits
for the pass to end, true when a periodic expiry is among them; `attnHeld`: an EXP_ATTN assertion that waits for the
scanner to start; `fastArmed`: the fast timer has not yet requested a pass since the last pass began. -/
structure Scanner where
  on          : Bool
  pass        : Option (List ScanItem)
  held        : Option Bool
  attnHeld    : Bool
  lastStart   : Option Nat
  fastArmed   : Bool
  periodicDue : Option Nat
  deriving DecidableEq, Repr

/-- The bus arbiter (R11): the drive-write queue, the next EEPROM transaction waiting, the transaction on the bus, and
the scanner. `recovered`: what the controller sent to recover the bus after the last transaction that failed (R6), the
model's own record (log entry 45). -/
structure Bus where
  queue     : List Claim
  eeprom    : Option BusOp
  current   : Option Current
  recovered : List BusItem
  scanner   : Scanner
  deriving DecidableEq, Repr

/-! ## Interlock Inputs -/

/-- An interlock's state (R21); `opened` is OPEN. -/
inductive InterlockState where
  | closed
  | opened
  | latched
  deriving DecidableEq, Repr

/-- One interlock pin (R20, R21). The accepted level is the pin's, true for high; none before the first sample. -/
structure Interlock where
  state    : InterlockState
  accepted : Option Bool
  debounce : Option Debounce
  deriving DecidableEq, Repr

/-! ## Service Controller and Request Arbiter -/

/-- A service's state (R42). -/
inductive SvcState where
  | undetermined
  | verifying
  | onAir
  | changing
  | standby
  | held
  deriving DecidableEq, Repr

/-- A hold cause (R42). -/
inductive HoldCause where
  | interlock
  | deviation
  | verifyFail
  | pointDisturbed
  | transferFault
  deriving DecidableEq, Repr

/-- A cutback cause set (R42). -/
structure Causes where
  verify     : Bool
  deviation  : Bool
  stale      : Bool
  verifyFail : Bool
  deriving DecidableEq, Repr

/-- A request's source (R63). -/
inductive Source where
  | portA
  | portB
  | portSite
  | schedule
  | fallback
  deriving DecidableEq, Repr

/-- A pending request record (R64); its place in the arrival order is `State.arrival`. -/
structure Request where
  target : Fin 4
  source : Source
  tag    : Byte
  revert : Bool
  deriving DecidableEq, Repr

/-- A change of level of one of a service's two outputs (R52, R55). -/
inductive OutputEdge where
  | permit (level : Bool)
  | cut (level : Bool)
  deriving DecidableEq, Repr

/-- A service record (R42) with the levels of the service's two outputs (R52, R55). `edges`: the changes of level of
PERMIT_x and CUT_x in the order in which the last transition that moved either of them made them (R55; log entry 26). -/
structure Service where
  state      : SvcState
  inForce    : Option (Fin 4)
  previous   : Option (Fin 4)
  revertMark : Bool
  hold       : Option HoldCause
  causes     : Causes
  mode       : Mode
  request    : Option Request
  ceiling    : Nat
  permit     : Bool
  cut        : Bool
  edges      : List OutputEdge
  deriving DecidableEq, Repr

/-! ## Transfer Engine -/

/-- A changing service of the job (R77). -/
structure Changing where
  svc      : Svc
  target   : Fin 4
  source   : Source
  revert   : Bool
  reassert : Bool
  deriving DecidableEq, Repr

/-- A point timer (R87, R89): not started, running to a moment, or spent. -/
inductive PointTimer where
  | off
  | running (due : Nat)
  | spent
  deriving DecidableEq, Repr

/-- A move list entry (R75) with its point timer (R79). -/
structure Move where
  point  : Fin 32
  fromPos : Option Pos
  toPos  : Pos
  stage  : Fin 4
  driven : Bool
  timer  : PointTimer
  deriving DecidableEq, Repr

/-- A muted service's settle state (R81), with the moment its timer runs out. -/
inductive Settle where
  | notNeeded
  | delay (due : Nat)
  | confirm (due : Nat)
  | settled
  deriving DecidableEq, Repr

/-- What a PAUSED engine resumes to (R79). -/
inductive Direction where
  | transfer
  | rollback
  deriving DecidableEq, Repr

/-- The engine phase while a job exists; the engine is IDLE when there is no job (R79). -/
inductive JobPhase where
  | muting
  | transfer
  | paused (resumesTo : Direction)
  | rollback
  deriving DecidableEq, Repr

/-- A rollback cause (R79). -/
inductive RollbackCause where
  | fault
  | aborted
  deriving DecidableEq, Repr

/-- The job record (R79). `awaiting`: rollback waits for the drive write on the bus before its first stage (R97). -/
structure Job where
  changing      : List Changing
  collateral    : Option Svc
  moves         : List Move
  stage         : Option (Fin 4)
  phase         : JobPhase
  rollbackCause : Option RollbackCause
  awaiting      : Bool
  settle        : Per (Option Settle)
  deriving DecidableEq, Repr

/-! ## Monitor Receivers and Conformance Unit -/

/-- The frame state of a monitor receiver (R106). -/
inductive FrameState where
  | hunt
  | count
  | data
  | check
  deriving DecidableEq, Repr

/-- The partial frame (R106): the tower count, the data bytes received so far, and the running sum. -/
structure PartFrame where
  count : Nat
  bytes : List Byte
  sum   : Byte
  deriving DecidableEq, Repr

/-- One tower of a good frame, as received (R108). -/
structure MonitorEntry where
  magnitude : Nat
  phase     : Int
  deriving DecidableEq, Repr

/-- One monitor receiver (R106). `started`: the receiver takes bytes; `stale`: the line state is STALE; the last good
frame is the list of its entries, tower 0 first. -/
structure Receiver where
  started    : Bool
  frame      : FrameState
  part       : PartFrame
  gapDue     : Option Nat
  frameError : Bool
  stale      : Bool
  staleDue   : Option Nat
  lastGood   : Option (List MonitorEntry)
  goodCount  : BitVec 16
  deriving DecidableEq, Repr

/-- The result of the last evaluated reading (R115). -/
inductive LastOutcome where
  | none
  | valid
  | refBeyondCount
  | refPhaseRange
  | refBelowFloor
  deriving DecidableEq, Repr

/-- A parameter's state (R115). -/
inductive ParamState where
  | pending
  | in_
  | out
  deriving DecidableEq, Repr

/-- A run's direction (R123). -/
inductive RunDir where
  | none
  | in_
  | out
  deriving DecidableEq, Repr

/-- A parameter's run (R123). -/
structure Run where
  dir   : RunDir
  count : Nat
  deriving DecidableEq, Repr

/-- A tower row of a conformance table (R115). -/
structure TowerRow where
  noReading  : Bool
  ratio      : Option Nat
  saturated  : Bool
  phase      : Option Int
  ratioErr   : Option Int
  phaseErr   : Option Int
  ratioState : ParamState
  phaseState : ParamState
  ratioRun   : Run
  phaseRun   : Run
  deriving DecidableEq, Repr

/-- An open verify window (R128): its length in seconds and the moment it runs out. -/
structure VerifyWindow where
  length : Nat
  expiry : Nat
  deriving DecidableEq, Repr

/-- A service's conformance table (R115) with its verify window (R128), none while the window is CLOSED. -/
structure ConfTable where
  slot    : Option (Fin 4)
  valid   : Nat
  invalid : Nat
  outcome : LastOutcome
  rows    : Vector TowerRow 12
  window  : Option VerifyWindow
  deriving DecidableEq, Repr

/-! ## Calendar Clock -/

/-- A date and time (R147). -/
structure DateTime where
  year   : Nat
  month  : Nat
  day    : Nat
  hour   : Nat
  minute : Nat
  second : Nat
  deriving DecidableEq, Repr

/-- The Calendar Clock (R147); the selection is in configuration RAM. `dividerStart`: the moment the second divider last
started from 0; `lossDue`: the tick-loss timer; `lastEdge`: the last accepted TICK_IN edge (R150). -/
structure Clock where
  time         : DateTime
  isSet        : Bool
  active       : Timebase
  dividerStart : Nat
  lossDue      : Option Nat
  lastEdge     : Option Nat
  deriving DecidableEq, Repr

/-! ## Port Logic -/

/-- Why a request left the pending state, or a job was cancelled (R69). -/
inductive DropReason where
  | patternEmpty
  | patternInvalid
  | alreadyInForce
  | incompatible
  | aborted
  | muteTimeout (expired : Svc)
  deriving DecidableEq, Repr

/-- The reason of a transfer fault or of a rollback failure (R89, R99). -/
inductive FaultReason where
  | noArrival
  | conflict
  | expander
  deriving DecidableEq, Repr

/-- The action at the end of a verify window without success (R132). -/
inductive VerifyAction where
  | revert
  | noRevert
  | holdCutback
  | withdraw
  deriving DecidableEq, Repr

/-- A parameter of a tower: its ratio or its phase (R27). -/
inductive ParamKind where
  | ratio
  | phase
  deriving DecidableEq, Repr

/-- A tower's parameter. -/
structure Param where
  tower : Fin 12
  kind  : ParamKind
  deriving DecidableEq, Repr

/-- The expander transaction an EXPANDER_FAULT names (R15). -/
inductive FailedOp where
  | directionWrite
  | outputWrite
  | inputRead
  | outputReadback
  | driveWrite
  deriving DecidableEq, Repr

/-- What a firing or a derivation did (R158, R161). -/
inductive FiredDetail where
  | requested
  | noChange
  | derived
  deriving DecidableEq, Repr

/-- How a save failed (R190). -/
inductive SaveFailure where
  | writeFailed
  | readFailed
  | mismatch
  deriving DecidableEq, Repr

/-- How a pattern was adopted (R187). -/
inductive AdoptDetail where
  | single
  | scheduled
  deriving DecidableEq, Repr

/-- Why nothing was adopted (R187, R181). -/
inductive AdoptFailure where
  | ambiguous
  | noMatch
  | imageInvalid
  deriving DecidableEq, Repr

/-- The events a block posts, one constructor for each of the 32 kinds of 11.2, in their order. -/
inductive Event where
  | requestQueued (svc : Svc) (slot : Fin 4) (source : Source)
  | requestSuperseded (svc : Svc) (slot : Fin 4) (displaced : Source)
  | requestDropped (svc : Svc) (slot : Fin 4) (reason : DropReason)
  | changeStarted (svc : Svc) (slot : Fin 4) (entries : Nat)
  | standbyEntered (svc : Svc) (slot : Option (Fin 4))
  | transferDone (svc : Svc) (slot : Option (Fin 4)) (driven : Nat)
  | transferPaused (svc : Svc) (ilk : Fin 4) (stage : Fin 4)
  | transferResumed (svc : Svc) (stage : Fin 4)
  | transferFault (svc : Svc) (slot : Option (Fin 4)) (point : Fin 32) (reason : FaultReason)
  | rollbackDone (svc : Svc) (slot : Option (Fin 4)) (cause : RollbackCause)
  | rollbackFailed (svc : Svc) (point : Fin 32) (reason : FaultReason)
  | verified (svc : Svc) (slot : Option (Fin 4)) (readings : Nat)
  | verifyFailed (svc : Svc) (slot : Option (Fin 4)) (param : Option Param) (action : VerifyAction)
  | paramOut (svc : Svc) (slot : Option (Fin 4)) (param : Param) (error : Int)
  | paramIn (svc : Svc) (slot : Option (Fin 4)) (param : Param) (error : Int)
  | ceilingChanged (svc : Svc) (slot : Option (Fin 4)) (ceiling : Nat)
  | serviceHeld (svc : Svc) (slot : Option (Fin 4)) (cause : HoldCause)
  | interlockOpened (ilk : Fin 4) (left : InterlockState)
  | interlockCleared (ilk : Fin 4) (left : InterlockState)
  | monitorStale (svc : Svc) (slot : Option (Fin 4)) (timeout : Nat)
  | monitorResumed (svc : Svc) (slot : Option (Fin 4))
  | pointDisturbed (point : Fin 32) (sensed : Sensed)
  | expanderFault (exp : Fin 8) (op : FailedOp)
  | expanderRestored (exp : Fin 8)
  | scheduleFired (svc : Svc) (slot : Fin 4) (detail : FiredDetail)
  | clockSet (timebase : Timebase)
  | timebaseLost
  | configSaved
  | configSaveFailed (failure : SaveFailure)
  | patternAdopted (svc : Svc) (slot : Fin 4) (detail : AdoptDetail)
  | adoptionFailed (svc : Option Svc) (failure : AdoptFailure)
  | modeChanged (svc : Svc) (mode : Mode)
  deriving DecidableEq, Repr

/-- An event record as a queue holds it (R174): the event, and the clock in the event that posted it. -/
structure EventRecord where
  event : Event
  stamp : DateTime
  deriving DecidableEq, Repr

/-- One port (R164). `response`: the response buffer; `window`: the bytes of a window in progress; `shifted`: the bytes
DOUT carried in the last window that closed (R165), which is the model's own record of the port's output. -/
structure Port where
  response : Option (List Byte)
  queue    : List EventRecord
  overflow : Bool
  attn     : Bool
  window   : Option (List Byte)
  shifted  : List Byte
  deriving DecidableEq, Repr

/-! ## Configuration Store and start-up -/

/-- Where a save stands within its page (R190): the page write waits or is on the bus; the EEPROM is polled since the
write completed; or the readback waits or is on the bus. -/
inductive SaveStep where
  | writing
  | polling (writtenAt nextPoll : Nat)
  | reading
  deriving DecidableEq, Repr

/-- The Configuration Store (R181, R190): idle, loading the image into its buffer, or saving the image it built. -/
inductive Store where
  | idle
  | loading (page : Nat) (buffer : List Byte)
  | saving (page : Nat) (image : List Byte) (step : SaveStep)
  deriving DecidableEq, Repr

/-- Where the part stands since the last reset: RESET_N held low (R185), the power-on load running (R181), the load end
past and adoption not yet decided (R183, R186), or adoption finished (R188). -/
inductive Phase where
  | resetHeld
  | loading
  | starting
  | running
  deriving DecidableEq, Repr

/-! ## The state -/

/-- The TL6210. `coldLoaded`: the power-on image load has ended (R185); `rfdown`: the accepted levels of RFDOWN_A and
RFDOWN_B, true for asserted (R83); `expAttn`: the accepted level of EXP_ATTN, true for asserted (R12); `now` and
`pending` are the model's own: the milliseconds that have passed, and the commands that wait. -/
structure State where
  now         : Nat
  phase       : Phase
  coldLoaded  : Bool
  imageValid  : Bool
  twoServices : Bool
  cfg         : ConfigRam
  dirty       : Bool
  store       : Store
  bus         : Bus
  exps        : Vector Expander 8
  points      : Vector PointState 32
  expAttn     : Bool
  interlocks  : Vector Interlock 4
  rfdown      : Per Bool
  svcs        : Per Service
  arrival     : List Svc
  job         : Option Job
  receivers   : Per Receiver
  tables      : Per ConfTable
  clock       : Clock
  ports       : PerPort Port
  pending     : List Instr
  deriving DecidableEq, Repr

/-- Why the part stops: it never does. The reference gives every command its effect, so no meaning ends in a fault and
the type has no constructor (log entry 1). -/
inductive Fault where
  deriving DecidableEq, Repr

/-- Why a command has no meaning. -/
inductive Refusal where
  /-- Raised by `exec` alone, for a row whose meaning is not written. Safe: nothing is claimed of that row. -/
  | notModelled (mnemonic : String)
  deriving DecidableEq, Repr

/-! ## Reset values -/

/-- The blank service settings (R182). -/
def ServiceSettings.blank : ServiceSettings :=
  { initialMode := .manual, muteConfirm := .fixed, settle := 200, muteTimeout := 2000, stale := 10,
    baud := .b19200, minRef := 500 }

/-- The blank configuration (R182), with the default routing table (R175). -/
def ConfigRam.blank : ConfigRam :=
  { points := Vector.replicate 32 none
    base := 0x30
    speed := .khz100
    debounce := 16
    interlocks := Vector.replicate 4 none
    settings := ⟨ServiceSettings.blank, ServiceSettings.blank⟩
    patterns := ⟨Vector.replicate 4 none, Vector.replicate 4 none⟩
    rows := ⟨Vector.replicate 12 [], Vector.replicate 12 []⟩
    routes := Vector.replicate 32 ⟨true, true, true⟩
    timebase := .internal }

/-- A switch point after either reset: no commanded position (R9), UNKNOWN (R13, R14), not under drive (R10). -/
def PointState.reset : PointState := { commanded := none, sensed := .unknown, underDrive := false }

/-- A line with no accepted value (R13). -/
def LineRec.empty : LineRec := { accepted := none, debounce := none }

/-- An expander after either reset: UNUSED (R8), no accepted value on any line (R13). -/
def Expander.reset : Expander :=
  { health := .unused, lines := Vector.replicate 16 LineRec.empty, confirm := .none }

/-- The scanner before it starts (R12). -/
def Scanner.reset : Scanner :=
  { on := false, pass := none, held := none, attnHeld := false, lastStart := none, fastArmed := false,
    periodicDue := none }

/-- An interlock after a power-on reset, before its first sample (R20). -/
def Interlock.reset : Interlock := { state := .closed, accepted := none, debounce := none }

/-- The empty cutback cause set. -/
def Causes.empty : Causes := { verify := false, deviation := false, stale := false, verifyFail := false }

/-- A service record after either reset (R42), with the mode the reset takes from the configuration. -/
def Service.reset (mode : Mode) : Service :=
  { state := .undetermined, inForce := none, previous := none, revertMark := false, hold := none,
    causes := Causes.empty, mode := mode, request := none, ceiling := 0, permit := false, cut := false, edges := [] }

/-- No partial frame (R106). -/
def PartFrame.empty : PartFrame := { count := 0, bytes := [], sum := 0 }

/-- A monitor receiver after either reset, not yet started (R106). -/
def Receiver.reset : Receiver :=
  { started := false, frame := .hunt, part := PartFrame.empty, gapDue := none, frameError := false, stale := false,
    staleDue := none, lastGood := none, goodCount := 0 }

/-- A run of no readings (R115). -/
def Run.empty : Run := { dir := .none, count := 0 }

/-- A tower row as an entry to VERIFYING and either reset leave it (R115). -/
def TowerRow.reset : TowerRow :=
  { noReading := true, ratio := none, saturated := false, phase := none, ratioErr := none, phaseErr := none,
    ratioState := .pending, phaseState := .pending, ratioRun := Run.empty, phaseRun := Run.empty }

/-- A conformance table after either reset (R115), its verify window CLOSED (R128). -/
def ConfTable.reset : ConfTable :=
  { slot := none, valid := 0, invalid := 0, outcome := .none, rows := Vector.replicate 12 TowerRow.reset,
    window := none }

/-- The Calendar Clock after a power-on reset (R147). -/
def Clock.reset : Clock :=
  { time := ⟨2000, 1, 1, 0, 0, 0⟩, isSet := false, active := .internal, dividerStart := 0, lossDue := none,
    lastEdge := none }

/-- A port after a power-on reset (R164). -/
def Port.reset : Port :=
  { response := none, queue := [], overflow := false, attn := false, window := none, shifted := [] }

/-- The part when the supply has risen and SVCS has been captured (R181): every block at its power-on value, the blank
configuration in RAM, and the first page read of the image load on the bus. -/
def State.powerOn (twoServices : Bool) : State :=
  { now := 0
    phase := .loading
    coldLoaded := false
    imageValid := false
    twoServices := twoServices
    cfg := ConfigRam.blank
    dirty := false
    store := .loading 0 []
    bus :=
      { queue := []
        eeprom := none
        current := some
          { txn := .eeprom, op := .pageRead 0, address := 0x57, speed := .khz100, grantedAt := 0, discarded := false }
        recovered := []
        scanner := Scanner.reset }
    exps := Vector.replicate 8 Expander.reset
    points := Vector.replicate 32 PointState.reset
    expAttn := false
    interlocks := Vector.replicate 4 Interlock.reset
    rfdown := ⟨false, false⟩
    svcs := ⟨Service.reset .manual, Service.reset .manual⟩
    arrival := []
    job := none
    receivers := ⟨Receiver.reset, Receiver.reset⟩
    tables := ⟨ConfTable.reset, ConfTable.reset⟩
    clock := Clock.reset
    ports := ⟨Port.reset, Port.reset, Port.reset⟩
    pending := [] }

/-- The machine right after a power-on reset, on a board whose SVCS strap selects two-service operation (log entry 2). -/
def State.reset : State := State.powerOn true

end Sys2Proof.Machine
end

