-- ==== Sys2Proof/Machine/Codes.lean ====
section
/-! DEFINITION. The code values of 11.1 and 11.2 (R191): what the part sends for each value of an enumeration, and what
it reads from a request's code byte. -/

namespace Sys2Proof.Machine

/-! ## Status codes (R170) -/

/-- The status codes of a response (R170); NOT_READY is never the status of a request. -/
inductive Status where
  | ok
  | okClamped
  | queued
  | badLength
  | unknownRequest
  | notPermitted
  | noService
  | badField
  | patternEmpty
  | alreadyInForce
  | inUse
  | siteLive
  | lineConflict
  | state
  | notAbortable
  | saveBusy
  deriving DecidableEq, Repr

/-- The status values of 11.1. -/
def statusCode : Status → Byte
  | .ok => 0
  | .okClamped => 2
  | .queued => 3
  | .badLength => 4
  | .unknownRequest => 5
  | .notPermitted => 6
  | .noService => 7
  | .badField => 8
  | .patternEmpty => 9
  | .alreadyInForce => 10
  | .inUse => 11
  | .siteLive => 12
  | .lineConflict => 13
  | .state => 14
  | .notAbortable => 15
  | .saveBusy => 16

/-- The NOT_READY byte (R191). -/
def notReadyByte : Byte := 1

/-- The fill byte (R165). -/
def fillByte : Byte := 0xFF

/-! ## What the part sends -/

def svcCode : Svc → Nat
  | .a => 1
  | .b => 2

/-- An optional service as an event record sends it: none is 0 (11.1). -/
def optSvcCode : Option Svc → Nat
  | some x => svcCode x
  | none => 0

def svcStateCode : SvcState → Nat
  | .undetermined => 0
  | .verifying => 1
  | .onAir => 2
  | .changing => 3
  | .standby => 4
  | .held => 5

def holdCode : HoldCause → Nat
  | .interlock => 1
  | .deviation => 2
  | .verifyFail => 3
  | .pointDisturbed => 4
  | .transferFault => 5

def causesCode (c : Causes) : Nat :=
  c.verify.toNat + 2 * c.deviation.toNat + 4 * c.stale.toNat + 8 * c.verifyFail.toNat

def modeCode : Mode → Nat
  | .manual => 0
  | .auto => 1

def sourceCode : Source → Nat
  | .portA => 1
  | .portB => 2
  | .portSite => 3
  | .schedule => 4
  | .fallback => 5

def settleCode : Settle → Nat
  | .notNeeded => 0
  | .delay _ => 1
  | .confirm _ => 2
  | .settled => 3

def sensedCode : Sensed → Nat
  | .at1 => 1
  | .at2 => 2
  | .moving => 3
  | .conflict => 4
  | .unknown => 5

def healthCode : Health → Nat
  | .unused => 0
  | .init => 1
  | .ok => 2
  | .faulted => 3

def interlockStateCode : InterlockState → Nat
  | .closed => 0
  | .opened => 1
  | .latched => 2

def maskCode : Mask → Nat
  | .a => 1
  | .b => 2
  | .ab => 3

def paramStateCode : ParamState → Nat
  | .pending => 0
  | .in_ => 1
  | .out => 2

def runDirCode : RunDir → Nat
  | .none => 0
  | .in_ => 1
  | .out => 2

def enforcementCode : Enforcement → Nat
  | .advisory => 0
  | .cutback => 1
  | .withdraw => 2

def policyCode : Policy → Nat
  | .revert => 0
  | .holdCutback => 1
  | .withdraw => 2

def outcomeCode : LastOutcome → Nat
  | .none => 0
  | .valid => 1
  | .refBeyondCount => 2
  | .refPhaseRange => 3
  | .refBelowFloor => 4

def frameStateCode : FrameState → Nat
  | .hunt => 0
  | .count => 1
  | .data => 2
  | .check => 3

def timebaseCode : Timebase → Nat
  | .internal => 0
  | .tickIn => 1

def posCode : Pos → Nat
  | .one => 1
  | .two => 2

def portSetCode (p : PortSet) : Nat := p.a.toNat + 2 * p.b.toNat + 4 * p.site.toNat

def causeCode : RollbackCause → Nat
  | .fault => 1
  | .aborted => 2

def faultReasonCode : FaultReason → Nat
  | .noArrival => 1
  | .conflict => 2
  | .expander => 3

def dropCode : DropReason → Nat
  | .patternEmpty => 1
  | .patternInvalid => 2
  | .alreadyInForce => 3
  | .incompatible => 4
  | .aborted => 5
  | .muteTimeout _ => 6

def actionCode : VerifyAction → Nat
  | .revert => 1
  | .noRevert => 2
  | .holdCutback => 3
  | .withdraw => 4

def failedOpCode : FailedOp → Nat
  | .directionWrite => 1
  | .outputWrite => 2
  | .inputRead => 3
  | .outputReadback => 4
  | .driveWrite => 5

def firedCode : FiredDetail → Nat
  | .requested => 1
  | .noChange => 2
  | .derived => 3

def saveFailureCode : SaveFailure → Nat
  | .writeFailed => 1
  | .readFailed => 2
  | .mismatch => 3

def adoptCode : AdoptDetail → Nat
  | .single => 1
  | .scheduled => 2

def adoptFailureCode : AdoptFailure → Nat
  | .ambiguous => 1
  | .noMatch => 2
  | .imageInvalid => 3

/-- A parameter in an event's subject: the tower index for the ratio, plus 16 for the phase (R192). -/
def paramCode (q : Param) : Nat :=
  match q.kind with
  | .ratio => q.tower.val
  | .phase => q.tower.val + 16

/-! ## What the part reads -/

def svcOfCode (c : Byte) : Option Svc :=
  if c = 1 then some .a else if c = 2 then some .b else none

def flagOfCode (c : Byte) : Option Bool :=
  if c = 0 then some false else if c = 1 then some true else none

def modeOfCode (c : Byte) : Option Mode :=
  if c = 0 then some .manual else if c = 1 then some .auto else none

def muteConfirmOfCode (c : Byte) : Option MuteConfirm :=
  if c = 0 then some .fixed else if c = 1 then some .confirm else none

def baudOfCode (c : Byte) : Option Baud :=
  if c = 0 then some .b9600 else if c = 1 then some .b19200 else if c = 2 then some .b38400 else none

def speedOfCode (c : Byte) : Option BusSpeed :=
  if c = 0 then some .khz100 else if c = 1 then some .khz400 else none

def timebaseOfCode (c : Byte) : Option Timebase :=
  if c = 0 then some .internal else if c = 1 then some .tickIn else none

def maskOfCode (c : Byte) : Option Mask :=
  if c = 1 then some .a else if c = 2 then some .b else if c = 3 then some .ab else none

def enforcementOfCode (c : Byte) : Option Enforcement :=
  if c = 0 then some .advisory else if c = 1 then some .cutback else if c = 2 then some .withdraw else none

def policyOfCode (c : Byte) : Option Policy :=
  if c = 0 then some .revert else if c = 1 then some .holdCutback else if c = 2 then some .withdraw else none

def posOfCode (c : Byte) : Option Pos :=
  if c = 1 then some .one else if c = 2 then some .two else none

def portSetOfCode (c : Byte) : Option PortSet :=
  if c.toNat ≤ 7 then some ⟨c.getLsbD 0, c.getLsbD 1, c.getLsbD 2⟩ else none

/-- An index byte read against its bound (R172). -/
def indexOf (n : Nat) (c : Byte) : Option (Fin n) :=
  if h : c.toNat < n then some ⟨c.toNat, h⟩ else none

/-- A code of an enumeration in a few bits of an image or flags byte. -/
def bits (b : Byte) (start len : Nat) : Byte := (b >>> start) &&& BitVec.ofNat 8 (2 ^ len - 1)

/-! ## Image codes that differ in width only -/

def speedCode : BusSpeed → Nat
  | .khz100 => 0
  | .khz400 => 1

def baudCode : Baud → Nat
  | .b9600 => 0
  | .b19200 => 1
  | .b38400 => 2

def muteConfirmCode : MuteConfirm → Nat
  | .fixed => 0
  | .confirm => 1

end Sys2Proof.Machine
end

