-- ==== Sys2Proof/Machine/Events.lean ====
section
/-! DEFINITION. Event records: their fields by kind (11.2), the 13 bytes the router encodes (R192), and the router
(R174, R175, R177). -/

namespace Sys2Proof.Machine

/-! ## The fields of a record (11.2) -/

/-- The kind code, 1-32 (11.2). -/
def eventKind : Event → Nat
  | .requestQueued .. => 1
  | .requestSuperseded .. => 2
  | .requestDropped .. => 3
  | .changeStarted .. => 4
  | .standbyEntered .. => 5
  | .transferDone .. => 6
  | .transferPaused .. => 7
  | .transferResumed .. => 8
  | .transferFault .. => 9
  | .rollbackDone .. => 10
  | .rollbackFailed .. => 11
  | .verified .. => 12
  | .verifyFailed .. => 13
  | .paramOut .. => 14
  | .paramIn .. => 15
  | .ceilingChanged .. => 16
  | .serviceHeld .. => 17
  | .interlockOpened .. => 18
  | .interlockCleared .. => 19
  | .monitorStale .. => 20
  | .monitorResumed .. => 21
  | .pointDisturbed .. => 22
  | .expanderFault .. => 23
  | .expanderRestored .. => 24
  | .scheduleFired .. => 25
  | .clockSet .. => 26
  | .timebaseLost => 27
  | .configSaved => 28
  | .configSaveFailed .. => 29
  | .patternAdopted .. => 30
  | .adoptionFailed .. => 31
  | .modeChanged .. => 32

/-- The service of a record, none for the site-wide kinds (R174). -/
def eventService : Event → Option Svc
  | .requestQueued x .. | .requestSuperseded x .. | .requestDropped x .. | .changeStarted x ..
  | .standbyEntered x .. | .transferDone x .. | .transferPaused x .. | .transferResumed x ..
  | .transferFault x .. | .rollbackDone x .. | .rollbackFailed x .. | .verified x .. | .verifyFailed x ..
  | .paramOut x .. | .paramIn x .. | .ceilingChanged x .. | .serviceHeld x .. | .monitorStale x ..
  | .monitorResumed x .. | .scheduleFired x .. | .patternAdopted x .. | .modeChanged x .. => some x
  | .adoptionFailed x _ => x
  | .interlockOpened .. | .interlockCleared .. | .pointDisturbed .. | .expanderFault .. | .expanderRestored ..
  | .clockSet .. | .timebaseLost | .configSaved | .configSaveFailed .. => none

/-- The slot of a record, where its kind carries one. -/
def eventSlot : Event → Option (Fin 4)
  | .requestQueued _ k _ | .requestSuperseded _ k _ | .requestDropped _ k _ | .changeStarted _ k _
  | .scheduleFired _ k _ | .patternAdopted _ k _ => some k
  | .standbyEntered _ k | .transferDone _ k _ | .transferFault _ k _ _ | .rollbackDone _ k _ | .verified _ k _
  | .verifyFailed _ k _ _ | .paramOut _ k _ _ | .paramIn _ k _ _ | .ceilingChanged _ k _ | .serviceHeld _ k _
  | .monitorStale _ k _ | .monitorResumed _ k => k
  | .transferPaused .. | .transferResumed .. | .rollbackFailed .. | .interlockOpened .. | .interlockCleared ..
  | .pointDisturbed .. | .expanderFault .. | .expanderRestored .. | .clockSet .. | .timebaseLost | .configSaved
  | .configSaveFailed .. | .adoptionFailed .. | .modeChanged .. => none

/-- The subject of a record as a plain number (R192). -/
def eventSubject : Event → Option Nat
  | .requestDropped _ _ (.muteTimeout x) => some (svcCode x)
  | .transferPaused _ k _ => some k.val
  | .transferFault _ _ p _ | .rollbackFailed _ p _ | .pointDisturbed p _ => some p.val
  | .verifyFailed _ _ q _ => q.map paramCode
  | .paramOut _ _ q _ | .paramIn _ _ q _ => some (paramCode q)
  | .interlockOpened k _ | .interlockCleared k _ => some k.val
  | .expanderFault e _ | .expanderRestored e => some e.val
  | _ => none

/-- The detail of a record; signed for PARAM_OUT and PARAM_IN (R192). -/
def eventDetail : Event → Option Int
  | .requestQueued _ _ s | .requestSuperseded _ _ s => some (sourceCode s)
  | .requestDropped _ _ r => some (dropCode r)
  | .changeStarted _ _ n | .transferDone _ _ n | .verified _ _ n | .ceilingChanged _ _ n
  | .monitorStale _ _ n => some n
  | .transferPaused _ _ k | .transferResumed _ k => some k.val
  | .transferFault _ _ _ r | .rollbackFailed _ _ r => some (faultReasonCode r)
  | .rollbackDone _ _ c => some (causeCode c)
  | .verifyFailed _ _ _ a => some (actionCode a)
  | .paramOut _ _ _ e | .paramIn _ _ _ e => some e
  | .serviceHeld _ _ c => some (holdCode c)
  | .interlockOpened _ st | .interlockCleared _ st => some (interlockStateCode st)
  | .pointDisturbed _ st => some (sensedCode st)
  | .expanderFault _ o => some (failedOpCode o)
  | .scheduleFired _ _ d => some (firedCode d)
  | .clockSet t => some (timebaseCode t)
  | .configSaveFailed f => some (saveFailureCode f)
  | .patternAdopted _ _ d => some (adoptCode d)
  | .adoptionFailed _ f => some (adoptFailureCode f)
  | .modeChanged _ m => some (modeCode m)
  | .standbyEntered .. | .monitorResumed .. | .expanderRestored _ | .timebaseLost | .configSaved => none

/-- The time stamp's six bytes (11.2). -/
def stampBytes (d : DateTime) : List Byte :=
  u8 (d.year - 2000) ++ u8 d.month ++ u8 d.day ++ u8 d.hour ++ u8 d.minute ++ u8 d.second

/-- A record's 13 bytes (11.2, R192). -/
def recordBytes (r : EventRecord) : List Byte :=
  let slot := eventSlot r.event
  let subject := eventSubject r.event
  let detail := eventDetail r.event
  u8 (eventKind r.event) ++ u8 (optSvcCode (eventService r.event)) ++
    u8 (slot.isSome.toNat + 2 * subject.isSome.toNat + 4 * detail.isSome.toNat) ++
    u8 ((slot.map Fin.val).getD 0) ++ u8 (subject.getD 0) ++ i16 (detail.getD 0) ++ stampBytes r.stamp

/-! ## The router -/

/-- A port of the three. -/
def PerPort.get {α : Type} (p : PerPort α) : PortId → α
  | .a => p.a
  | .b => p.b
  | .site => p.site

/-- The three ports with one replaced. -/
def PerPort.set {α : Type} (p : PerPort α) (i : PortId) (v : α) : PerPort α :=
  match i with
  | .a => { p with a := v }
  | .b => { p with b := v }
  | .site => { p with site := v }

/-- The routing entry of an event's kind (R175). -/
def routeOf (routes : Vector PortSet 32) (e : Event) : PortSet :=
  routes[eventKind e - 1]?.getD ⟨false, false, false⟩

/-- Whether a record is delivered to a port (R175). -/
def delivered (routes : Vector PortSet 32) (e : Event) : PortId → Bool
  | .site => (routeOf routes e).site
  | .a => (routeOf routes e).a && (eventService e != some .b)
  | .b => (routeOf routes e).b && (eventService e != some .a)

/-- A record delivered to a port (R177): it joins the end of the queue and ATTN is asserted, or at a full queue it is
dropped and the overflow marker set. -/
def deliver (r : EventRecord) (p : Port) : Port :=
  if p.queue.length < 32 then { p with queue := p.queue ++ [r], attn := true } else { p with overflow := true }

/-- A port once a record has been offered to it: delivered where the routing table selects the port (R175). -/
def offer (s : State) (e : Event) (i : PortId) (r : EventRecord) : Port :=
  if delivered s.cfg.routes e i then deliver r (s.ports.get i) else s.ports.get i

/-- Posting an event (R174): its record is stamped from the clock and copied to the queues the routing table selects.
While RESET_N is held low the ports are held at their reset values and take none (R164, R185; log entry 24). -/
def post (e : Event) (s : State) : State :=
  if s.phase = .resetHeld then s else
    let r : EventRecord := { event := e, stamp := s.clock.time }
    { s with ports := ⟨offer s e .a r, offer s e .b r, offer s e .site r⟩ }

end Sys2Proof.Machine
end

