-- ==== Sys2Proof/Machine/Access.lean ====
section
/-! DEFINITION. Reading and writing the parts of the state that are held once for each service, switch point, expander
or interlock. -/

namespace Sys2Proof.Machine

/-- The value of one service. -/
def Per.get {α : Type} (p : Per α) : Svc → α
  | .a => p.a
  | .b => p.b

/-- The pair with one service's value replaced. -/
def Per.set {α : Type} (p : Per α) (x : Svc) (v : α) : Per α :=
  match x with
  | .a => { p with a := v }
  | .b => { p with b := v }

/-- The other service. -/
def otherSvc : Svc → Svc
  | .a => .b
  | .b => .a

/-- A service's record. -/
def State.svc (s : State) (x : Svc) : Service := s.svcs.get x

/-- The state with a service's record replaced. -/
def State.setSvc (s : State) (x : Svc) (v : Service) : State := { s with svcs := s.svcs.set x v }

/-- A service's conformance table. -/
def State.table (s : State) (x : Svc) : ConfTable := s.tables.get x

/-- The state with a service's conformance table replaced. -/
def State.setTable (s : State) (x : Svc) (v : ConfTable) : State := { s with tables := s.tables.set x v }

/-- A service's monitor receiver. -/
def State.receiver (s : State) (x : Svc) : Receiver := s.receivers.get x

/-- The state with a service's monitor receiver replaced. -/
def State.setReceiver (s : State) (x : Svc) (v : Receiver) : State := { s with receivers := s.receivers.set x v }

/-- A service's settings record. -/
def State.settings (s : State) (x : Svc) : ServiceSettings := s.cfg.settings.get x

/-- A switch point's runtime state. -/
def State.point (s : State) (i : Fin 32) : PointState := s.points[i]

/-- The state with a switch point's runtime state replaced. -/
def State.setPoint (s : State) (i : Fin 32) (v : PointState) : State := { s with points := s.points.set i v }

/-- A switch point's record, none where the point is absent. -/
def State.pointRec (s : State) (i : Fin 32) : Option PointRec := s.cfg.points[i]

/-- An expander. -/
def State.exp (s : State) (e : Fin 8) : Expander := s.exps[e]

/-- The state with an expander replaced. -/
def State.setExp (s : State) (e : Fin 8) (v : Expander) : State := { s with exps := s.exps.set e v }

/-- An interlock. -/
def State.interlock (s : State) (k : Fin 4) : Interlock := s.interlocks[k]

/-- The state with an interlock replaced. -/
def State.setInterlock (s : State) (k : Fin 4) (v : Interlock) : State :=
  { s with interlocks := s.interlocks.set k v }

/-- An interlock's settings, none where the interlock is absent. -/
def State.interlockRec (s : State) (k : Fin 4) : Option InterlockSettings := s.cfg.interlocks[k]

/-- What a pattern slot holds; none for an empty slot. -/
def State.pattern (s : State) (x : Svc) (k : Fin 4) : Option Pattern := (s.cfg.patterns.get x)[k]

/-- The state with the bus changed. -/
def State.setBus (s : State) (b : Bus) : State := { s with bus := b }

/-- The state with the scanner changed. -/
def State.setScanner (s : State) (c : Scanner) : State := { s with bus := { s.bus with scanner := c } }

/-- The time carried forward to a moment that has come (log entry 5). -/
def State.reach (s : State) (t : Nat) : State := { s with now := max s.now t }

/-- A function over the 32 switch points. -/
def State.mapPoints (s : State) (f : Fin 32 → PointState → PointState) : State :=
  { s with points := Vector.ofFn fun i => f i s.points[i] }

end Sys2Proof.Machine
end

