-- ==== Sys2Proof/Machine/Flags.lean ====
section
/-! DEFINITION. What the part judges from its state without changing it: sensed states, positions in place, the entry
check, the permit and the ceiling, expander words, slots in use, calendar arithmetic and the scheduled pattern. -/

namespace Sys2Proof.Machine

/-! ## Services and masks -/

/-- Whether a service is present: B is absent in single-service operation (R43). -/
def present (s : State) (x : Svc) : Bool := x == .a || s.twoServices

/-- The present services, A before B. -/
def presentSvcs (s : State) : List Svc := if s.twoServices then [.a, .b] else [.a]

/-- Whether a mask as written names a service. -/
def maskHas : Mask → Svc → Bool
  | .a, .a => true
  | .b, .b => true
  | .ab, _ => true
  | _, _ => false

/-- Whether a service is in a mask's effective form, in which an absent service B is ignored (R1, R19). -/
def effHas (s : State) (m : Mask) (x : Svc) : Bool := maskHas m x && present s x

/-- Whether a switch point is present and a service is in its effective hot mask (R1). -/
def hotHas (s : State) (i : Fin 32) (x : Svc) : Bool :=
  match s.pointRec i with
  | some r => effHas s r.hot x
  | none => false

/-! ## Interlocks (R21) -/

/-- Whether a present interlock is effective-open: OPEN or LATCHED (R21). -/
def effectiveOpen (s : State) (k : Fin 4) : Bool :=
  (s.interlockRec k).isSome && (s.interlock k).state != .closed

/-- Whether a present interlock's effective mask includes a service (R19). -/
def interlockCovers (s : State) (k : Fin 4) (x : Svc) : Bool :=
  match s.interlockRec k with
  | some c => effHas s c.mask x
  | none => false

/-- Whether an interlock whose effective mask includes the service is effective-open (R46, R52). -/
def interlockHolds (s : State) (x : Svc) : Bool :=
  (List.finRange 4).any fun k => effectiveOpen s k && interlockCovers s k x

/-- The level a pin sample means for an interlock: open, against its active level (R20). -/
def pinOpen (c : InterlockSettings) (high : Bool) : Bool := high == c.activeHigh

/-! ## Sensed states (R14) -/

/-- The sensed state two accepted sense values give; a bit of 0 is a made contact (R7, R14). -/
def sensedOf : Option Bool → Option Bool → Sensed
  | some false, some true => .at1
  | some true, some false => .at2
  | some true, some true => .moving
  | some false, some false => .conflict
  | _, _ => .unknown

/-- The accepted value of a line. -/
def lineValue (s : State) (l : Line) : Option Bool := (s.exp l.exp).lines[l.line].accepted

/-- The sensed state of a present point, derived from its two sense lines (R14). -/
def deriveSensed (s : State) (r : PointRec) : Sensed := sensedOf (lineValue s r.sense1) (lineValue s r.sense2)

/-- Whether a sensed state stands at a position (R30, R88). -/
def sensedAt : Sensed → Pos → Bool
  | .at1, .one => true
  | .at2, .two => true
  | _, _ => false

/-- Whether a point agrees: its sensed state stands at its commanded position (R14). -/
def agrees (p : PointState) : Bool :=
  match p.commanded with
  | some c => sensedAt p.sensed c
  | none => false

/-- A sensed state that fails the points part of the entry check for a hot-mask point (R46). -/
def unsettledSensed : Sensed → Bool
  | .moving | .conflict | .unknown => true
  | .at1 | .at2 => false

/-- A point's pending debounce flag: either of its sense lines is pending (R13). -/
def pointPending (s : State) (r : PointRec) : Bool :=
  (s.exp r.sense1.exp).lines[r.sense1.line].debounce.isSome ||
    (s.exp r.sense2.exp).lines[r.sense2.line].debounce.isSome

/-- Whether any line of any expander is pending debounce (R12). -/
def anyPending (s : State) : Bool :=
  (List.finRange 8).any fun e => (List.finRange 16).any fun n => (s.exp e).lines[n].debounce.isSome

/-! ## Pairs of a switch map (R30) -/

/-- Commanded in place (R30). -/
def commandedInPlace (s : State) (i : Fin 32) (pos : Pos) : Bool :=
  (s.pointRec i).isSome && (s.point i).commanded == some pos

/-- Sensed in place (R30). -/
def sensedInPlace (s : State) (i : Fin 32) (pos : Pos) : Bool :=
  (s.pointRec i).isSome && sensedAt (s.point i).sensed pos

/-- Whether every pair of a map is commanded and sensed in place. -/
def mapInPlace (s : State) (p : Pattern) : Bool :=
  (List.finRange 32).all fun i =>
    match p.map[i] with
    | some pos => commandedInPlace s i pos && sensedInPlace s i pos
    | none => true

/-- The lowest listed point that is absent from the site map (R40). -/
def firstAbsent (s : State) (p : Pattern) : Option (Fin 32) :=
  (List.finRange 32).find? fun i => p.map[i].isSome && (s.pointRec i).isNone

/-- Whether a pattern is valid: every listed point is present (R31). -/
def patternValid (s : State) (p : Pattern) : Bool := (firstAbsent s p).isNone

/-- Whether two patterns are compatible: no point is listed in both with different positions (R41). -/
def compatible (p q : Pattern) : Bool :=
  (List.finRange 32).all fun i =>
    match p.map[i], q.map[i] with
    | some a, some b => a == b
    | _, _ => true

/-- The in-force pattern of a service. -/
def inForcePattern (s : State) (x : Svc) : Option Pattern := (s.svc x).inForce.bind (s.pattern x)

/-- Whether a state is one in which the service may radiate (R52). -/
def onOrNearAir : SvcState → Bool
  | .verifying | .onAir => true
  | _ => false

/-! ## Transactions of a WRITE_POINT (R4, R46) -/

/-- Whether a claim was queued by an accepted WRITE_POINT under R4. -/
def claimR4 : Claim → Bool
  | .seq _ _ r4 => r4
  | .drive .. => false

/-- Whether a granted transaction was queued by an accepted WRITE_POINT under R4. -/
def txnR4 : Txn → Bool
  | .seq _ _ r4 => r4
  | _ => false

/-- Whether a transaction that a WRITE_POINT queued under R4 is waiting or on the bus (R46). -/
def r4Pending (s : State) : Bool :=
  s.bus.queue.any claimR4 ||
    match s.bus.current with
    | some c => txnR4 c.txn
    | none => false

/-! ## The entry check (R46) -/

/-- The outcome of the entry check: the first part that fails, or none. -/
inductive EntryResult where
  | pass
  | noPattern
  | points
  | interlocks
  deriving DecidableEq, Repr

/-- Whether a present point in the service's effective hot mask bars the entry (R46). -/
def hotPointBars (s : State) (x : Svc) (i : Fin 32) : Bool :=
  match s.pointRec i with
  | some r =>
      effHas s r.hot x && (unsettledSensed (s.point i).sensed || (s.exp r.drive.exp).health == .faulted)
  | none => false

/-- The points part of the entry check (R46). -/
def pointsPass (s : State) (x : Svc) (p : Pattern) : Bool :=
  mapInPlace s p && (List.finRange 32).all (fun i => !hotPointBars s x i) && !r4Pending s

/-- The entry check (R46), its parts in order. -/
def entryCheck (s : State) (x : Svc) : EntryResult :=
  match inForcePattern s x with
  | none => .noPattern
  | some p =>
      if pointsPass s x p then
        if interlockHolds s x then .interlocks else .pass
      else .points

/-- Whether the entry check of a service reads a point: a listed point, or one in its effective hot mask (R57). -/
def checkReads (s : State) (x : Svc) (i : Fin 32) : Bool :=
  hotHas s i x ||
    match inForcePattern s x with
    | some p => p.map[i].isSome
    | none => false

/-! ## Permit, ceiling and cutback (R52, R53, R55) -/

/-- The level PERMIT_x has (R52). -/
def permitLevel (s : State) (x : Svc) : Bool := onOrNearAir (s.svc x).state && !interlockHolds s x

/-- Whether a cutback cause set holds any cause. -/
def anyCause (c : Causes) : Bool := c.verify || c.deviation || c.stale || c.verifyFail

/-- The cutback level of a pattern: floor(P_auth × c / 100) (R53). -/
def cutbackLevel (p : Pattern) : Nat := p.power * p.cutback / 100

/-- The power ceiling of a service under a permit level (R53). -/
def ceilingUnder (s : State) (x : Svc) (permit : Bool) : Nat :=
  match permit, inForcePattern s x with
  | true, some p => if anyCause (s.svc x).causes then cutbackLevel p else p.power
  | _, _ => 0

/-- The level CUT_x has under a permit level and a ceiling: high while the permit is high and the ceiling is below the
authorised power (R55). -/
def cutLevel (s : State) (x : Svc) (permit : Bool) (ceiling : Nat) : Bool :=
  match inForcePattern s x with
  | some p => permit && decide (ceiling < p.power)
  | none => false

/-! ## Expanders -/

/-- Whether a record names a line of an expander. -/
def recUses (r : PointRec) (e : Fin 8) : Bool := r.drive.exp == e || r.sense1.exp == e || r.sense2.exp == e

/-- Whether a point is present and one of its three lines lies on an expander. -/
def liesOn (points : Vector (Option PointRec) 32) (e : Fin 8) (i : Fin 32) : Bool :=
  match points[i] with
  | some r => recUses r e
  | none => false

/-- Whether an expander is in use under a site map (R1). -/
def inUse (points : Vector (Option PointRec) 32) (e : Fin 8) : Bool := (List.finRange 32).any (liesOn points e)

/-- Whether a point is present and its drive line lies on an expander. -/
def drivenFrom (points : Vector (Option PointRec) 32) (e : Fin 8) (i : Fin 32) : Bool :=
  match points[i] with
  | some r => r.drive.exp == e
  | none => false

/-- Whether line `n` of an expander is the drive line of a present point (R7). -/
def isDriveLine (points : Vector (Option PointRec) 32) (e : Fin 8) (n : Fin 16) : Bool :=
  (List.finRange 32).any fun i =>
    match points[i] with
    | some r => r.drive == ⟨e, n⟩
    | none => false

/-- The direction word of an expander (R7). -/
def directionWord (s : State) (e : Fin 8) : Half := BitVec.ofFnLE fun n => isDriveLine s.cfg.points e n

/-- The output word of an expander, built from the commanded positions (R7). -/
def outputWord (s : State) (e : Fin 8) : Half :=
  BitVec.ofFnLE fun n => (List.finRange 32).any fun i =>
    match s.pointRec i with
    | some r => r.drive == ⟨e, n⟩ && (s.point i).commanded == some .two
    | none => false

/-- Whether every drive line on an expander belongs to a point with a commanded position (R16). -/
def allCommanded (s : State) (e : Fin 8) : Bool :=
  (List.finRange 32).all fun i => !drivenFrom s.cfg.points e i || (s.point i).commanded.isSome

/-- Whether an expander is settled for start-up (R183). -/
def expSettled (x : Expander) : Bool := x.health == .faulted || x.confirm == .done

/-- Whether an expander's start-up sequence has ended, OK or FAULTED (R12, R183). -/
def sequenceEnded (x : Expander) : Bool := x.health == .ok || x.health == .faulted

/-- Whether every in-use expander meets a condition. -/
def allInUse (s : State) (f : Expander → Bool) : Bool :=
  (List.finRange 8).all fun e => !inUse s.cfg.points e || f (s.exp e)

/-- Whether the ports judge windows and the sampled pins are read: the load end is past and RESET_N is high (R167,
R182). -/
def loadEnded (s : State) : Bool := s.phase == .starting || s.phase == .running

/-- Whether adoption decides (R186): every in-use expander settled and each present interlock sampled, by its
first sample or by the fresh sample of a WRITE_INTERLOCK (log entry 50). -/
def adoptionReady (s : State) : Bool :=
  s.phase == .starting && allInUse s expSettled &&
    (List.finRange 4).all fun k => (s.interlockRec k).isNone || (s.interlock k).accepted.isSome

/-- Whether a save of the configuration is in flight (R189). -/
def saveInFlight (s : State) : Bool :=
  match s.store with
  | .saving .. => true
  | _ => false

/-! ## Guards of configuration writes -/

/-- The SITE_LIVE condition of R3. -/
def siteLive (s : State) : Bool :=
  s.job.isSome || (presentSvcs s).any fun x =>
    match (s.svc x).state with
    | .verifying | .onAir | .changing | .standby => true
    | .undetermined | .held => false

/-- The changing service entry of a service in the current job. -/
def changingOf (s : State) (x : Svc) : Option Changing :=
  match s.job with
  | some j => j.changing.find? fun c => c.svc == x
  | none => none

/-- Whether a slot is the target of its service's pending request. -/
def isPendingTarget (s : State) (x : Svc) (k : Fin 4) : Bool :=
  match (s.svc x).request with
  | some r => r.target == k
  | none => false

/-- Whether a slot is the target of its service in the current job. -/
def isJobTarget (s : State) (x : Svc) (k : Fin 4) : Bool :=
  match changingOf s x with
  | some c => c.target == k
  | none => false

/-- Whether a slot is in use (R32): also, before adoption, the target of a request that waits for it (log entry 49). -/
def slotInUse (s : State) (x : Svc) (k : Fin 4) : Bool :=
  (s.svc x).inForce == some k || isPendingTarget s x k || isJobTarget s x k

/-- Whether a slot is in force while its service is ON_AIR or VERIFYING (R65, R71). -/
def inForceOnAir (s : State) (x : Svc) (k : Fin 4) : Bool :=
  (s.svc x).inForce == some k && onOrNearAir (s.svc x).state

/-- The line rule of R2 over a whole map: the lines a record names, in order. -/
def recLines (r : PointRec) : List Line := [r.drive, r.sense1, r.sense2]

/-- Every line the present records of a map name. -/
def mapLines (points : Vector (Option PointRec) 32) : List Line :=
  (List.finRange 32).flatMap fun i =>
    match points[i] with
    | some r => recLines r
    | none => []

/-- A list that holds no element twice. -/
def noRepeats {α : Type} [DecidableEq α] : List α → Bool
  | [] => true
  | x :: rest => !rest.contains x && noRepeats rest

/-- A valid site map: no expander line is named twice (R2). -/
def siteMapValid (points : Vector (Option PointRec) 32) : Bool := noRepeats (mapLines points)

/-! ## Calendar (R148) -/

/-- The length of a month (R148). -/
def daysInMonth (year month : Nat) : Nat :=
  if month = 2 then (if year % 4 = 0 then 29 else 28)
  else if month = 4 ∨ month = 6 ∨ month = 9 ∨ month = 11 then 30
  else 31

/-- A date and time of the clock's range (R147, R152). -/
def dateValid (d : DateTime) : Bool :=
  decide (2000 ≤ d.year ∧ d.year ≤ 2099 ∧ 1 ≤ d.month ∧ d.month ≤ 12 ∧ 1 ≤ d.day ∧
    d.day ≤ daysInMonth d.year d.month ∧ d.hour ≤ 23 ∧ d.minute ≤ 59 ∧ d.second ≤ 59)

/-- The end of the clock's range, where it holds (R148). -/
def atRangeEnd (d : DateTime) : Bool := d == ⟨2099, 12, 31, 23, 59, 59⟩

/-- One second later, with the calendar's carries (R148). -/
def nextSecond (d : DateTime) : DateTime :=
  if d.second < 59 then { d with second := d.second + 1 }
  else if d.minute < 59 then { d with second := 0, minute := d.minute + 1 }
  else if d.hour < 23 then { d with second := 0, minute := 0, hour := d.hour + 1 }
  else if d.day < daysInMonth d.year d.month then { d with second := 0, minute := 0, hour := 0, day := d.day + 1 }
  else if d.month < 12 then { d with second := 0, minute := 0, hour := 0, day := 1, month := d.month + 1 }
  else { year := d.year + 1, month := 1, day := 1, hour := 0, minute := 0, second := 0 }

/-- The minute of the day. -/
def minuteOfDay (d : DateTime) : Nat := d.hour * 60 + d.minute

/-- The second divider's count of oscillator cycles: 32768 in 1000 ms (R149). -/
def dividerCycles (s : State) : Nat := (s.now - s.clock.dividerStart) * 32768 / 1000

/-! ## The scheduled pattern (R160) -/

/-- A service's month row, January being month 1. -/
def monthRow (s : State) (x : Svc) (month : Nat) : List RowEntry := (s.cfg.rows.get x)[month - 1]?.getD []

/-- The month `k` months before a month, over the year's start (R160). -/
def monthsBefore (month k : Nat) : Nat := (month + 11 - k) % 12 + 1

/-- The scheduled pattern of a service with the month of the row it is taken from (R160). -/
def scheduledPattern (s : State) (x : Svc) : Option (Fin 4 × Nat) :=
  let month := s.clock.time.month
  match ((monthRow s x month).filter fun e => e.minute ≤ minuteOfDay s.clock.time).getLast? with
  | some e => some (e.slot, month)
  | none =>
      ((List.range 11).map fun k => monthsBefore month (k + 1)).findSome? fun m =>
        (monthRow s x m).getLast?.map fun e => (e.slot, m)

end Sys2Proof.Machine
end

