-- ==== Sys2Proof/Machine/Services.lean ====
section
/-! DEFINITION. The Service Controller's shared operations: the outputs of a service, entry to HELD and to VERIFYING,
job start and release, the automatic exit from HELD, and the effects of interlocks and disturbed points. -/

namespace Sys2Proof.Machine

/-- PERMIT_x brought to a level: one edge where the level changes. -/
def movePermit (level : Bool) (v : Service) : Service :=
  if v.permit = level then v else { v with permit := level, edges := v.edges ++ [.permit level] }

/-- CUT_x brought to a level: one edge where the level changes. -/
def moveCut (level : Bool) (v : Service) : Service :=
  if v.cut = level then v else { v with cut := level, edges := v.edges ++ [.cut level] }

/-- The two outputs of a service brought to their levels in the order of R55: CUT_x before a PERMIT_x that rises or
stands high, and after one that falls or stands low. A transition that moves neither leaves the record of edges. -/
def moveOutputs (permit cut : Bool) (v : Service) : Service :=
  if v.permit = permit ∧ v.cut = cut then v
  else if permit then movePermit true (moveCut cut { v with edges := [] })
  else moveCut cut (movePermit false { v with edges := [] })

/-- The outputs of a service computed again (R52, R53, R55): permit and cutback in their order, then the ceiling, with
CEILING_CHANGED when the ceiling moved. -/
def outputs (x : Svc) (s : State) : State :=
  let v := s.svc x
  let permit := permitLevel s x
  let ceiling := ceilingUnder s x permit
  let s' := s.setSvc x { moveOutputs permit (cutLevel s x permit ceiling) v with ceiling := ceiling }
  if ceiling = v.ceiling then s' else post (.ceilingChanged x v.inForce ceiling) s'

/-- A service's verify window closed (R128). -/
def closeWindow (x : Svc) (s : State) : State := s.setTable x { s.table x with window := none }

/-- Entry to HELD (R50): the cause recorded, SERVICE_HELD, the cause set empty, the permit and the ceiling down, the
window closed. -/
def toHeld (x : Svc) (cause : HoldCause) (s : State) : State :=
  let v := s.svc x
  let s' := closeWindow x (s.setSvc x { v with state := .held, hold := some cause, causes := Causes.empty })
  outputs x (post (.serviceHeld x v.inForce cause) s')

/-- The table reset and the window opened at an entry to VERIFYING (R115, R128). -/
def freshTable (s : State) (x : Svc) (p : Pattern) : ConfTable :=
  { ConfTable.reset with
    slot := (s.svc x).inForce
    window := some { length := p.window, expiry := s.now + p.window * 1000 } }

/-- Entry to VERIFYING of a service that passed the entry check (R46). -/
def enterVerifying (x : Svc) (s : State) : State :=
  match inForcePattern s x with
  | none => s
  | some p =>
      let v := s.svc x
      let s' := s.setSvc x
        { v with state := .verifying, hold := none, causes := { Causes.empty with verify := true } }
      outputs x (s'.setTable x (freshTable s x p))

/-- A service taken by a job (R49): CHANGING or STANDBY, no cause, permit low, ceiling 0, window closed. -/
def takeForJob (x : Svc) (state : SvcState) (s : State) : State :=
  let v := s.svc x
  outputs x (closeWindow x (s.setSvc x { v with state := state, hold := none, causes := Causes.empty }))

/-- A service that leaves for UNDETERMINED with what its record then holds (R45, R46). -/
def toUndetermined (x : Svc) (s : State) : State :=
  let v := s.svc x
  outputs x (s.setSvc x { v with state := .undetermined, hold := none, causes := Causes.empty })

/-- A service through the entry check, at release (R102) or adoption (R188). -/
def throughEntryCheck (x : Svc) (s : State) : State :=
  match entryCheck s x with
  | .noPattern => toUndetermined x s
  | .points => toHeld x .pointDisturbed s
  | .interlocks => toHeld x .interlock s
  | .pass => enterVerifying x s

/-- The automatic exit of a service HELD with cause INTERLOCK, when its entry check passes (R57). -/
def autoExit (x : Svc) (s : State) : State :=
  if present s x && (s.svc x).state == .held && (s.svc x).hold == some .interlock && entryCheck s x == .pass then
    enterVerifying x s
  else s

/-- The automatic exit tried for both services (R57). DESIGN CHOICE (log entry 59): A before B. R57 gives no order for an
accepted WRITE_POINT, the end of its last transaction, or a restore's end. -/
def autoExitAll (s : State) : State := autoExit .b (autoExit .a s)

/-- The automatic exit tried for a service whose entry check reads one of the points (R57). -/
def autoExitReading (x : Svc) (changed : List (Fin 32)) (s : State) : State :=
  if changed.any (checkReads s x) then autoExit x s else s

/-- An interlock that became effective-open, for one service (R56). -/
def interlockHold (k : Fin 4) (x : Svc) (s : State) : State :=
  if interlockCovers s k x && onOrNearAir (s.svc x).state then toHeld x .interlock s else s

/-- A disturbed point, for one service (R58). -/
def disturbService (i : Fin 32) (x : Svc) (s : State) : State :=
  let listed := match inForcePattern s x with
    | some p => p.map[i].isSome
    | none => false
  if present s x && onOrNearAir (s.svc x).state && (listed || hotHas s i x) then toHeld x .pointDisturbed s else s

/-- A point posted as disturbed and reported to the Service Controller (R14, R15, R58). DESIGN CHOICE (log entry 59): A
before B. R58 gives no order. -/
def disturb (i : Fin 32) (s : State) : State :=
  disturbService i .b (disturbService i .a (post (.pointDisturbed i (s.point i).sensed) s))

/-- Whether a point whose sensed state changed is judged as disturbed: not under drive, and it does not agree (R14). -/
def isDisturbed (s : State) (i : Fin 32) : Bool := !(s.point i).underDrive && !agrees (s.point i)

/-- A point whose sensed state changed, judged when it is not under drive (R14). -/
def judgePoint (s : State) (i : Fin 32) : State := if isDisturbed s i then disturb i s else s

/-- The changed points judged, in the order of the list (R14; log entry 10 for the ascending order). -/
def judgePoints (changed : List (Fin 32)) (s : State) : State := changed.foldl judgePoint s

/-- Every sensed state derived again (R14), and the points whose sensed state changed, in ascending order. -/
def rederive (s : State) : State × List (Fin 32) :=
  let sensed (i : Fin 32) : Sensed :=
    match s.pointRec i with
    | some r => deriveSensed s r
    | none => (s.point i).sensed
  (s.mapPoints fun i p => { p with sensed := sensed i },
    (List.finRange 32).filter fun i => sensed i != (s.point i).sensed)

end Sys2Proof.Machine
end

