-- ==== Sys2Proof/Machine/Arbiter.lean ====
section
/-! DEFINITION. The Request Arbiter's pending requests (R64, R66, R69) and the tests of a formation (R71-R76). -/

namespace Sys2Proof.Machine

/-- A service's pending request removed and the service taken from the arrival order (R64). -/
def removeRequest (x : Svc) (s : State) : State :=
  { s.setSvc x { s.svc x with request := none } with arrival := s.arrival.filter (· != x) }

/-- A request stored as the service's pending request, displacing the one it finds (R66). -/
def storeRequest (x : Svc) (r : Request) (s : State) : State :=
  let s1 := match (s.svc x).request with
    | some o => removeRequest x (post (.requestSuperseded x o.target o.source) s)
    | none => s
  let s2 : State := { s1.setSvc x { s1.svc x with request := some r } with arrival := s1.arrival ++ [x] }
  post (.requestQueued x r.target r.source) s2

/-- A pending request dropped or withdrawn with a reason (R68, R69). -/
def dropRequest (x : Svc) (reason : DropReason) (s : State) : State :=
  match (s.svc x).request with
  | some r => post (.requestDropped x r.target reason) (removeRequest x s)
  | none => s

/-- The screen of a pending request (R71): the reason of the first test that fails. -/
def screen (s : State) (x : Svc) (r : Request) : Option DropReason :=
  match s.pattern x r.target with
  | none => some .patternEmpty
  | some p =>
      if !patternValid s p then some .patternInvalid
      else if inForceOnAir s x r.target then some .alreadyInForce
      else none

/-- Whether a slot's pattern is compatible with the other service's in-force pattern (R73). -/
def fitsOther (s : State) (x : Svc) (k : Fin 4) : Bool :=
  match s.pattern x k, inForcePattern s (otherSvc x) with
  | some p, some q => compatible p q
  | _, _ => true

/-- Whether two services' targets are compatible with each other (R72). -/
def targetsFit (s : State) (x : Svc) (k : Fin 4) (y : Svc) (l : Fin 4) : Bool :=
  match s.pattern x k, s.pattern y l with
  | some p, some q => compatible p q
  | _, _ => false

/-- The changing service entry formation writes for a pending request (R74, R77). -/
def changingFor (s : State) (x : Svc) (r : Request) : Changing :=
  { svc := x, target := r.target, source := r.source, revert := r.revert,
    reassert := (s.svc x).inForce == some r.target }

/-- The position a changing service's target lists for a point. -/
def listedBy (s : State) (c : Changing) (i : Fin 32) : Option Pos :=
  match s.pattern c.svc c.target with
  | some p => p.map[i]
  | none => none

/-- Whether a changing service gives a point a move list entry (R75). -/
def calledFor (s : State) (c : Changing) (i : Fin 32) : Bool :=
  match listedBy s c i with
  | some pos => (s.point i).commanded != some pos || (c.reassert && !sensedInPlace s i pos)
  | none => false

/-- The move list entry of a point, when the job has one (R75). -/
def moveFor (s : State) (cs : List Changing) (i : Fin 32) : Option Move :=
  match s.pointRec i, cs.findSome? (fun c => listedBy s c i) with
  | some r, some pos =>
      if cs.any fun c => calledFor s c i then
        some { point := i, fromPos := (s.point i).commanded, toPos := pos, stage := r.stage, driven := false,
               timer := .off }
      else none
  | _, _ => none

/-- The move list (R75), in ascending stage and within a stage in ascending point index. -/
def moveList (s : State) (cs : List Changing) : List Move :=
  let entries := (List.finRange 32).filterMap (moveFor s cs)
  (List.finRange 4).flatMap fun k => entries.filter fun m => m.stage == k

/-- The collateral service of a job (R76). -/
def collateralOf (s : State) (cs : List Changing) (moves : List Move) : Option Svc :=
  (presentSvcs s).find? fun y =>
    !(cs.any fun c => c.svc == y) && onOrNearAir (s.svc y).state && moves.any fun m => hotHas s m.point y

end Sys2Proof.Machine
end

