-- ==== Sys2Proof/Machine/Engine.lean ====
section
/-! DEFINITION. The Transfer Engine (05): stages, faults, pause, rollback and release, and the formation and start of a
job (R70-R78). No operation here runs formation or grants the bus: both follow at the end of the event, in Settle.lean. -/

namespace Sys2Proof.Machine

/-! ## The job record -/

/-- The state with the job record replaced. -/
def State.setJob (s : State) (j : Job) : State := { s with job := some j }

/-- Whether a service is a changing service of the job. -/
def isChanging (j : Job) (x : Svc) : Bool := j.changing.any fun c => c.svc == x

/-- The muted services of a job, A before B (R79). -/
def mutedSvcs (j : Job) : List Svc := [Svc.a, Svc.b].filter fun x => isChanging j x || j.collateral == some x

/-- An event posted once for each service of a list, in order. -/
def postEach (xs : List Svc) (f : Svc → Event) (s : State) : State := xs.foldl (fun t x => post (f x) t) s

/-- The entries of one stage, in ascending point index. -/
def stageMoves (j : Job) (k : Fin 4) : List Move := j.moves.filter fun m => m.stage == k

/-- The entries of one rollback stage (R96). -/
def rollbackMoves (j : Job) (k : Fin 4) : List Move :=
  j.moves.filter fun m => m.stage == k && m.driven && m.fromPos.isSome

/-- The position rollback drives an entry to. -/
def backPos (m : Move) : Pos := m.fromPos.getD m.toPos

/-- The lowest stage from a bound upward that has entries (R84, R88). -/
def nextStage (j : Job) (least : Nat) : Option (Fin 4) :=
  (List.finRange 4).find? fun k => decide (least ≤ k.val) && !(stageMoves j k).isEmpty

/-- The highest rollback stage below a bound (R96). -/
def nextRollback (j : Job) (below : Nat) : Option (Fin 4) :=
  (List.finRange 4).reverse.find? fun k => decide (k.val < below) && !(rollbackMoves j k).isEmpty

/-- The lowest-numbered blocking interlock of a job (R93). -/
def blocking (s : State) (j : Job) : Option (Fin 4) :=
  (List.finRange 4).find? fun k =>
    effectiveOpen s k && (mutedSvcs j).any (interlockCovers s k) &&
      match s.interlockRec k with
      | some c => c.motionInhibit
      | none => false

/-- Every under-drive mark cleared (R10). -/
def clearMarks (s : State) : State := s.mapPoints fun _ p => { p with underDrive := false }

/-- The points of a list marked under drive (R10). -/
def markPoints (ps : List (Fin 32)) (s : State) : State :=
  s.mapPoints fun i p => { p with underDrive := p.underDrive || ps.contains i }

/-- Every point timer of a job stopped. -/
def stopTimers (j : Job) : Job := { j with moves := j.moves.map fun m => { m with timer := .off } }

/-- The waiting drive writes withdrawn, unanswered (R90). -/
def withdrawWrites (s : State) : State :=
  s.setBus { s.bus with queue := s.bus.queue.filter fun c => match c with
    | .drive .. => false
    | .seq .. => true }

/-- Whether a drive write of the current job is on the bus (R97). -/
def driveOnBus (s : State) : Bool :=
  match s.bus.current with
  | some c => match c.txn with
    | .drive _ _ live => live && !c.discarded
    | _ => false
  | none => false

/-- The targets among a list whose drive line lies on an expander. -/
def targetsOn (s : State) (ts : List (Fin 32 × Pos)) (e : Fin 8) : List (Fin 32 × Pos) :=
  ts.filter fun t => drivenFrom s.cfg.points e t.1

/-- One drive write requested for each expander concerned, in ascending expander index, and the points marked under
drive (R86, R97). -/
def requestWrites (ts : List (Fin 32 × Pos)) (s : State) : State :=
  let claims := (List.finRange 8).filterMap fun e =>
    match targetsOn s ts e with
    | [] => none
    | l => some (Claim.drive e l)
  markPoints (ts.map Prod.fst) (s.setBus { s.bus with queue := s.bus.queue ++ claims })

/-! ## Release (R102, R103) -/

/-- Each muted service released through the entry check, A before B, and the job record emptied (R102, R103). -/
def releaseAll (j : Job) (s : State) : State :=
  let s' := (mutedSvcs j).foldl (fun t x => throughEntryCheck x t) s
  { clearMarks s' with job := none }

/-- R44 for a changing service of a successful change. -/
def applyChange (c : Changing) (s : State) : State :=
  let v := s.svc c.svc
  s.setSvc c.svc
    (if v.inForce = some c.target then { v with revertMark := c.revert }
     else { v with inForce := some c.target, previous := v.inForce, revertMark := c.revert })

/-- How many move list entries have their driven flag set. -/
def drivenCount (j : Job) : Nat := (j.moves.filter fun m => m.driven).length

/-- A successful change (R102): R44 and TRANSFER_DONE for each changing service, then the release. -/
def succeed (j : Job) (s : State) : State :=
  let s' := j.changing.foldl
    (fun t c => let t' := applyChange c t
      post (.transferDone c.svc (t'.svc c.svc).inForce (drivenCount j)) t') s
  releaseAll j s'

/-- A job cancelled in MUTING (R85, R95): REQUEST_DROPPED for each changing service, then the release. -/
def cancelJob (j : Job) (reason : DropReason) (s : State) : State :=
  releaseAll j (j.changing.foldl (fun t c => post (.requestDropped c.svc c.target reason) t) s)

/-- Rollback done (R100). -/
def rollbackDone (j : Job) (s : State) : State :=
  releaseAll j (postEach (mutedSvcs j)
    (fun x => .rollbackDone x (s.svc x).inForce (j.rollbackCause.getD .fault)) s)

/-! ## Rollback (R96-R101) -/

/-- A rollback stage begun: its writes requested, its points marked, their timers not yet started (R97). -/
def runRollbackStage (j : Job) (k : Fin 4) (s : State) : State :=
  let j' := { stopTimers j with phase := .rollback, stage := some k, awaiting := false }
  requestWrites ((rollbackMoves j k).map fun m => (m.point, backPos m)) (s.setJob j')

/-- The next rollback stage below a bound: none, and rollback is done; or the pause test, and the stage begins or the
engine is PAUSED (R93, R97). `quiet`: an abort in a pause posts no second TRANSFER_PAUSED (R95). -/
def rollbackNext (j : Job) (below : Nat) (quiet : Bool) (s : State) : State :=
  match nextRollback j below with
  | none => rollbackDone j s
  | some k =>
      match blocking s j with
      | some i =>
          let s' := s.setJob { j with phase := .paused .rollback, stage := some k, awaiting := false }
          if quiet then s' else postEach (mutedSvcs j) (fun x => .transferPaused x i k) s'
      | none => runRollbackStage j k s

/-- The end of the forward transfer at a fault or an abort (R90 steps 2 to 4, R95): writes withdrawn, timers and marks
cleared, rollback started or waiting for the drive write on the bus (R97). -/
def startRollback (j : Job) (cause : RollbackCause) (quiet : Bool) (s : State) : State :=
  let j' := { stopTimers j with phase := .rollback, rollbackCause := some cause }
  let s' := clearMarks (withdrawWrites s)
  if driveOnBus s' then s'.setJob { j' with awaiting := true } else rollbackNext j' 4 quiet (s'.setJob j')

/-- The slot of a service's TRANSFER_FAULT: its target, or the collateral service's in-force slot (R90). -/
def faultSlot (j : Job) (s : State) (x : Svc) : Option (Fin 4) :=
  match j.changing.find? fun c => c.svc == x with
  | some c => some c.target
  | none => (s.svc x).inForce

/-- A transfer fault (R90). -/
def transferFault (j : Job) (i : Fin 32) (reason : FaultReason) (s : State) : State :=
  startRollback j .fault false
    (postEach (mutedSvcs j) (fun x => .transferFault x (faultSlot j s x) i reason) s)

/-- The drive write on the bus no longer belongs to a job: its answer will be discarded (R101). -/
def disownWrite (s : State) : State :=
  match s.bus.current with
  | some c => match c.txn with
    | .drive e ts _ => s.setBus { s.bus with current := some { c with txn := .drive e ts false } }
    | _ => s
  | none => s

/-- The rollback failure outcome of one service (R49, R101). -/
def failService (j : Job) (x : Svc) (s : State) : State :=
  if isChanging j x then
    toUndetermined x (s.setSvc x { s.svc x with inForce := none, revertMark := false })
  else toHeld x .transferFault s

/-- A rollback failure (R101). -/
def rollbackFailed (j : Job) (i : Fin 32) (reason : FaultReason) (s : State) : State :=
  let s1 := disownWrite (withdrawWrites s)
  let s2 := postEach (mutedSvcs j) (fun x => .rollbackFailed x i reason) s1
  let s3 := (mutedSvcs j).foldl (fun t x => failService j x t) s2
  { clearMarks s3 with job := none }

/-! ## Stages (R86, R88) -/

/-- Why a point bars the beginning of its stage (R86). -/
def beginReason (s : State) (m : Move) : Option FaultReason :=
  match (s.point m.point).sensed with
  | .conflict => some .conflict
  | .unknown => some .expander
  | _ => none

/-- The first entry of a list that a reason applies to, with the reason. -/
def firstReason (f : Move → Option FaultReason) (ms : List Move) : Option (Fin 32 × FaultReason) :=
  ms.findSome? fun m => (f m).map fun r => (m.point, r)

/-- A stage about to begin (R86): the pause test, the judgement of its points, and its drive writes. -/
def beginStage (j : Job) (k : Fin 4) (s : State) : State :=
  let j1 := { j with stage := some k }
  match blocking s j with
  | some i =>
      postEach (mutedSvcs j) (fun x => .transferPaused x i k) (s.setJob { j1 with phase := .paused .transfer })
  | none =>
      match firstReason (beginReason s) (stageMoves j k) with
      | some (i, reason) => transferFault j1 i reason (s.setJob j1)
      | none =>
          requestWrites ((stageMoves j k).map fun m => (m.point, m.toPos))
            (s.setJob { j1 with phase := .transfer })

/-- Whether an entry is confirmed: its write has completed, so that its timer has started, and the point is at a
position (R88, R97). -/
def confirmedAt (s : State) (m : Move) (pos : Pos) : Bool :=
  m.timer != .off && sensedAt (s.point m.point).sensed pos

/-- The stage tested for completion, and what follows it (R88). -/
def testStage (j : Job) (s : State) : State :=
  match j.stage with
  | none => s
  | some k =>
      if (stageMoves j k).all fun m => confirmedAt s m m.toPos then
        let j' := stopTimers j
        let s' := clearMarks (s.setJob j')
        match nextStage j' (k.val + 1) with
        | some l => beginStage j' l s'
        | none => succeed j' s'
      else s

/-- The rollback stage tested for completion, and what follows it (R97). -/
def testRollback (j : Job) (s : State) : State :=
  match j.stage with
  | none => s
  | some k =>
      if (rollbackMoves j k).all fun m => confirmedAt s m (backPos m) then
        let j' := stopTimers j
        rollbackNext j' k.val false (clearMarks (s.setJob j'))
      else s

/-! ## Muting (R81-R84) -/

/-- Whether a settle state counts as settled (R81). -/
def isSettled : Option Settle → Bool
  | none | some .notNeeded | some .settled => true
  | some (.delay _) | some (.confirm _) => false

/-- MUTING tested for its end (R84). -/
def testSettled (j : Job) (s : State) : State :=
  if isSettled j.settle.a && isSettled j.settle.b then
    match nextStage j 0 with
    | none => succeed j s
    | some k => beginStage j k s
  else s

/-- A service settled (R82, R83), and MUTING tested. -/
def settleSvc (j : Job) (x : Svc) (s : State) : State :=
  let j' := { j with settle := j.settle.set x (some .settled) }
  testSettled j' (s.setJob j')

/-! ## Answers and reports -/

/-- The entries of a write changed. -/
def onTargets (j : Job) (ts : List (Fin 32 × Pos)) (f : Move → Move) : Job :=
  { j with moves := j.moves.map fun m => if (ts.map Prod.fst).contains m.point then f m else m }

/-- The transit limit of a point, read from the site map (R87). -/
def transitOf (s : State) (i : Fin 32) : Nat :=
  match s.pointRec i with
  | some r => r.transit
  | none => 0

/-- An entry whose write has completed: driven, its transit limit running (R87, R97). -/
def startTimer (s : State) (m : Move) : Move :=
  { m with driven := true, timer := .running (s.now + transitOf s m.point) }

/-- A drive write of the job answered completed (R87, R90, R97). -/
def answerCompleted (ts : List (Fin 32 × Pos)) (s : State) : State :=
  match s.job with
  | none => s
  | some j =>
      match j.phase with
      | .transfer =>
          let j' := onTargets j ts (startTimer s)
          testStage j' (s.setJob j')
      | .rollback =>
          if j.awaiting then
            let j' := { onTargets j ts (fun m => { m with driven := true }) with awaiting := false }
            rollbackNext j' 4 false (s.setJob j')
          else
            let j' := onTargets j ts (startTimer s)
            testRollback j' (s.setJob j')
      | _ => s

/-- The lower of a point and the first of a list in ascending order. -/
def lowestOf (i : Fin 32) (rest : List (Fin 32)) : Fin 32 := rest.foldl min i

/-- The first point of a write. -/
def firstTarget (ts : List (Fin 32 × Pos)) : Fin 32 :=
  match ts with
  | t :: _ => t.1
  | [] => 0

/-- The points of the current stage, or of the current rollback stage, among a list, that are sensed UNKNOWN and that
the engine then takes as failed (R89, R99). -/
def unknownAmong (j : Job) (changed : List (Fin 32)) (s : State) : List (Fin 32) :=
  match j.stage with
  | none => []
  | some k =>
      let ms : List Move := match j.phase with
        | .rollback => (rollbackMoves j k).filter fun m => m.timer != .off
        | _ => stageMoves j k
      (ms.map Move.point).filter fun i => changed.contains i && (s.point i).sensed == .unknown

/-- A drive write of the job answered failed after its word was sent (R87, R90, R99). `changed`: the points whose
sensed state changed in the same event, of which the lowest-numbered failing one is named. -/
def answerFailedSent (ts : List (Fin 32 × Pos)) (changed : List (Fin 32)) (s : State) : State :=
  match s.job with
  | none => s
  | some j =>
      let i := lowestOf (firstTarget ts) (unknownAmong j changed s)
      match j.phase with
      | .transfer =>
          let j' := onTargets j ts fun m => { m with driven := true }
          transferFault j' i .expander (s.setJob j')
      | .rollback =>
          if j.awaiting then
            let j' := { onTargets j ts (fun m => { m with driven := true }) with awaiting := false }
            rollbackNext j' 4 false (s.setJob j')
          else rollbackFailed j i .expander s
      | _ => s

/-- A drive write refused at its grant (R9, R87, R92, R99). -/
def answerNotSent (ts : List (Fin 32 × Pos)) (s : State) : State :=
  match s.job with
  | none => s
  | some j =>
      match j.phase with
      | .transfer => transferFault j (firstTarget ts) .expander s
      | .rollback => rollbackFailed j (firstTarget ts) .expander s
      | _ => s

/-- Why a reported sensed state is a transfer fault (R89). -/
def forwardReason (s : State) (m : Move) : Option FaultReason :=
  match (s.point m.point).sensed with
  | .unknown => some .expander
  | .conflict => some .conflict
  | st => if m.timer == .spent && !sensedAt st m.toPos then some .noArrival else none

/-- Why a reported sensed state fails a rollback point (R99). -/
def backwardReason (s : State) (m : Move) : Option FaultReason :=
  match (s.point m.point).sensed with
  | .unknown => if m.timer != .off then some .expander else none
  | st => if m.timer == .spent && !sensedAt st (backPos m) then some .noArrival else none

/-- The reports of an event's sensed-state changes to the engine (R88, R89, R97, R99). -/
def engineSensed (changed : List (Fin 32)) (s : State) : State :=
  match s.job with
  | none => s
  | some j =>
      match j.stage, j.phase with
      | some k, .transfer =>
          let ms := (stageMoves j k).filter fun m => changed.contains m.point
          match firstReason (forwardReason s) ms with
          | some (i, reason) => transferFault j i reason s
          | none => if ms.isEmpty then s else testStage j s
      | some k, .rollback =>
          if j.awaiting then s else
            let ms := (rollbackMoves j k).filter fun m => changed.contains m.point
            match firstReason (backwardReason s) ms with
            | some (i, reason) => rollbackFailed j i reason s
            | none => if ms.isEmpty then s else testRollback j s
      | _, _ => s

/-- A change of an interlock handed to the engine (R94): a PAUSED engine whose last blocking interlock has gone
resumes. -/
def engineInterlock (k : Fin 4) (s : State) : State :=
  match s.job with
  | none => s
  | some j =>
      match j.phase, j.stage with
      | .paused dir, some l =>
          if (mutedSvcs j).any (interlockCovers s k) && (blocking s j).isNone then
            let s' := postEach (mutedSvcs j) (fun x => .transferResumed x l) s
            match dir with
            | .transfer => beginStage { j with phase := .transfer } l s'
            | .rollback => runRollbackStage j l s'
          else s
      | _, _ => s

/-- ABORT_CHANGE at the engine, by phase (R95). None: not abortable. -/
def abortJob (j : Job) (s : State) : Option State :=
  let dropped := j.changing.foldl (fun t c => post (.requestDropped c.svc c.target .aborted) t)
  match j.phase with
  | .muting => some (cancelJob j .aborted s)
  | .transfer => some (startRollback j .aborted false (dropped s))
  | .paused .transfer => some (startRollback j .aborted true (dropped s))
  | .paused .rollback => none
  | .rollback => none

/-! ## Formation and start (R70-R78) -/

/-- The settle state of a muted service at job start (R81, R83). `wasHigh`: its permit was high. -/
def settleAtStart (s : State) (x : Svc) (wasHigh : Bool) : Settle :=
  if wasHigh then
    match (s.settings x).muteConfirm with
    | .fixed => .delay (s.now + (s.settings x).settle)
    | .confirm => if s.rfdown.get x then .settled else .confirm (s.now + (s.settings x).muteTimeout)
  else .notNeeded

/-- The settle state of either service at job start: none for a service that is not muted. -/
def settleEntry (s : State) (j : Job) (x : Svc) : Option Settle :=
  if (mutedSvcs j).contains x then some (settleAtStart s x (s.svc x).permit) else none

/-- A muted service taken as the job has it: changing or collateral (R49). -/
def takeMuted (j : Job) (s : State) (x : Svc) : State :=
  takeForJob x (if isChanging j x then .changing else .standby) s

/-- The job record formation writes (R77). -/
def formedJob (s : State) (cs : List Changing) : Job :=
  let moves := moveList s cs
  let j : Job :=
    { changing := cs, collateral := collateralOf s cs moves, moves := moves, stage := none, phase := .muting,
      rollbackCause := none, awaiting := false, settle := ⟨none, none⟩ }
  { j with stage := nextStage j 0, settle := ⟨settleEntry s j .a, settleEntry s j .b⟩ }

/-- A formed job started (R78): its requests taken, its events posted, its services taken under R49, and MUTING
entered and tested (R84). -/
def startJob (cs : List Changing) (s : State) : State :=
  let j := formedJob s cs
  let s1 := cs.foldl (fun t c => removeRequest c.svc t) s
  let s2 := cs.foldl (fun t c => post (.changeStarted c.svc c.target j.moves.length) t) (s1.setJob j)
  let s3 := match j.collateral with
    | some y => post (.standbyEntered y (s2.svc y).inForce) s2
    | none => s2
  testSettled j ((mutedSvcs j).foldl (takeMuted j) s3)

/-- Whether formation runs (R70): the engine IDLE, a request pending, adoption finished. -/
def formationReady (s : State) : Bool := s.job.isNone && s.phase == .running && !s.arrival.isEmpty

/-- A head taken alone (R73). -/
def formSingle (x : Svc) (r : Request) (s : State) : State :=
  if fitsOther s x r.target then startJob [changingFor s x r] s else dropRequest x .incompatible s

/-- Two screened requests, tested against each other (R72). The record of a joint job lists A first, whichever service is
the head (R77; log entry 53). -/
def formPair (x : Svc) (r : Request) (q : Request) (s : State) : State :=
  if targetsFit s x r.target (otherSvc x) q.target then
    match x with
    | .a => startJob [changingFor s .a r, changingFor s .b q] s
    | .b => startJob [changingFor s .a q, changingFor s .b r] s
  else formSingle x r s

/-- One pass of formation (R70, R72): it forms a job or removes at least one pending request. -/
def formationPass (s : State) : State :=
  match s.arrival with
  | [] => s
  | x :: _ =>
      match (s.svc x).request with
      | none => removeRequest x s
      | some r =>
          match screen s x r with
          | some reason => dropRequest x reason s
          | none =>
              match (s.svc (otherSvc x)).request with
              | none => formSingle x r s
              | some q =>
                  match screen s (otherSvc x) q with
                  | some reason => formSingle x r (dropRequest (otherSvc x) reason s)
                  | none => formPair x r q s

end Sys2Proof.Machine
end

