-- ==== Sys2Proof/Machine/Bus.lean ====
section
/-! DEFINITION. The Contactor Bus Controller: claims and grants (R9, R11), sequences (R8, R16, R4, R183), scan passes
and debounce (R12, R13), sensed-state changes (R14) and expander failures (R15). -/

namespace Sys2Proof.Machine

/-! ## Claims -/

/-- The expander a claim is addressed to. -/
def claimExp : Claim → Fin 8
  | .drive e _ => e
  | .seq _ e _ => e

/-- The expander a transaction is addressed to, none for an EEPROM transaction. -/
def txnExp : Txn → Option (Fin 8)
  | .drive e _ _ | .seq _ e _ | .scan e | .retry e => some e
  | .eeprom => none

/-- Whether a step belongs to an initialisation sequence (R8). -/
def isInitStep : SeqStep → Bool
  | .initDirection | .initReadback | .initInput => true
  | _ => false

/-- Whether a step belongs to a restore sequence (R16). -/
def isRestoreStep : SeqStep → Bool
  | .restoreDirection | .restoreOutput | .restoreInput => true
  | _ => false

/-- Whether a claim is a step of a kind for an expander. -/
def isStepOf (kind : SeqStep → Bool) (e : Fin 8) : Claim → Bool
  | .seq step e' _ => kind step && e' == e
  | .drive .. => false

/-- A bus transaction that is a sequence step of a kind. -/
def isSeq (kind : SeqStep → Bool) (c : Current) : Bool :=
  match c.txn with
  | .seq step _ _ => kind step
  | _ => false

/-- Claims added to the end of the drive-write queue. -/
def enqueue (cs : List Claim) (s : State) : State := s.setBus { s.bus with queue := s.bus.queue ++ cs }

/-- The claims that meet a condition taken from the drive-write queue, unsent. -/
def dropClaims (p : Claim → Bool) (s : State) : State :=
  s.setBus { s.bus with queue := s.bus.queue.filter fun c => !p c }

/-- The transaction on the bus marked so that its result is discarded, when it meets a condition. -/
def discardCurrent (p : Txn → Bool) (s : State) : State :=
  match s.bus.current with
  | some c => if p c.txn then s.setBus { s.bus with current := some { c with discarded := true } } else s
  | none => s

/-- The bus free again. -/
def freeBus (s : State) : State := s.setBus { s.bus with current := none }

/-- What the controller sends after a transaction that failed (R6): a stop, nine clock pulses with the data line
released, and a second stop. -/
def recovery : List BusItem := [.stop, .clocks 9, .stop]

/-- The bus recovered after a failed transaction and only then free again (R6; log entry 45). -/
def recoverBus (s : State) : State := s.setBus { s.bus with current := none, recovered := recovery }

/-- A transaction granted the bus at this moment, at the speed then set (R5, R6). -/
def occupy (txn : Txn) (op : BusOp) (address : Nat) (s : State) : State :=
  s.setBus { s.bus with
    current := some
      { txn := txn, op := op, address := address, speed := s.cfg.speed, grantedAt := s.now, discarded := false } }

/-- The address of an expander (R6). -/
def expAddress (s : State) (e : Fin 8) : Nat := s.cfg.base + e.val

/-- The address of the EEPROM (R6). -/
def eepromAddress : Nat := 0x57

/-! ## The form of a transaction (R6) -/

/-- The selectors of an expander's three words (R6). -/
def inputSelector : Byte := 0
def outputSelector : Byte := 1
def directionSelector : Byte := 2

/-- Two bytes sent, the high byte first (R6). -/
def sendWord (word : Half) : List BusItem := (halfBytes word).map .send

/-- The EEPROM's byte address of the first byte of a page (R17, R180). -/
def pageAddress (page : Nat) : Half := BitVec.ofNat 16 (32 * page)

/-- The items of a transaction between its address with write and its stop (R6). `target`: the address it reads from. -/
def bodyForm (target : Nat) : BusOp → List BusItem
  | .writeDirection word => .send directionSelector :: sendWord word
  | .writeOutput word => .send outputSelector :: sendWord word
  | .readInput => [.send inputSelector, .repeatedStart, .address target true, .receive 2]
  | .readOutput => [.send outputSelector, .repeatedStart, .address target true, .receive 2]
  | .pageWrite page data => sendWord (pageAddress page) ++ data.map .send
  | .pageRead page => sendWord (pageAddress page) ++ [.repeatedStart, .address target true, .receive 32]
  | .ackPoll => []

/-- The form of a transaction on the bus when it completes (R6): its start, its address with write, its own items, and
the stop. -/
def busForm (c : Current) : List BusItem :=
  .start :: .address c.address false :: (bodyForm c.address c.op ++ [.stop])

/-! ## Sequences -/

/-- All sixteen lines of an expander without an accepted value (R13). -/
def noLines : Vector LineRec 16 := Vector.replicate 16 LineRec.empty

/-- An expander that is no longer in use (R4, R5). -/
def toUnused (e : Fin 8) (s : State) : State :=
  discardCurrent (fun t => txnExp t == some e)
    (dropClaims (fun c => claimExp c == e)
      (s.setExp e { health := .unused, lines := noLines, confirm := .none }))

/-- The initialisation sequence of an expander queued, its health INIT (R8). -/
def queueInit (r4 : Bool) (e : Fin 8) (s : State) : State :=
  enqueue [.seq .initDirection e r4, .seq .initReadback e r4, .seq .initInput e r4]
    (s.setExp e { s.exp e with health := .init })

/-- The rewrites of an expander whose set of drive lines changed (R4). -/
def queueRewrite (e : Fin 8) (s : State) : State :=
  enqueue [.seq .rewriteDirection e true, .seq .rewriteOutput e true] s

/-- The restore sequence of an expander whose retry completed (R16). -/
def queueRestore (e : Fin 8) (s : State) : State :=
  enqueue [.seq .restoreDirection e false, .seq .restoreOutput e false, .seq .restoreInput e false] s

/-- What a sequence step does on the bus, its word built as it is granted (R7, R8, R16, R4). -/
def seqOp (s : State) (step : SeqStep) (e : Fin 8) : BusOp :=
  match step with
  | .initDirection | .restoreDirection | .rewriteDirection => .writeDirection (directionWord s e)
  | .rewriteOutput => .writeOutput (outputWord s e)
  | .restoreOutput => if allCommanded s e then .writeOutput (outputWord s e) else .readOutput
  | .initReadback => .readOutput
  | .initInput | .restoreInput | .confirmInput => .readInput

/-! ## Grants (R9, R11) -/

/-- Whether a permit bars a target of a drive write: only where the write would change its commanded position (R9, R92; log
entry 54). -/
def permitBars (s : State) (t : Fin 32 × Pos) : Bool :=
  (s.point t.1).commanded != some t.2 && (presentSvcs s).any fun x => hotHas s t.1 x && (s.svc x).permit

/-- The commanded positions of a drive write's points set to their to-positions (R9). -/
def command (ts : List (Fin 32 × Pos)) (s : State) : State :=
  s.mapPoints fun i p =>
    match ts.find? fun t => t.1 == i with
    | some t => { p with commanded := some t.2 }
    | none => p

/-- A drive write that reached the grant (R9). -/
def grantDrive (e : Fin 8) (ts : List (Fin 32 × Pos)) (s : State) : State :=
  if (s.exp e).health != .ok || ts.any (permitBars s) then answerNotSent ts s
  else
    let s' := command ts s
    occupy (.drive e ts true) (.writeOutput (outputWord s' e)) (expAddress s' e) s'

/-- The oldest claim of the drive-write queue granted. -/
def grantClaim (c : Claim) (s : State) : State :=
  match c with
  | .drive e ts => grantDrive e ts s
  | .seq step e r4 => occupy (.seq step e r4) (seqOp s step e) (expAddress s e) s

/-- Whether a read of a scan pass still stands: a scan read of an OK expander, a retry of a FAULTED one (R12, R15). -/
def eligible (s : State) : ScanItem → Bool
  | .read e => (s.exp e).health == .ok
  | .retry e => (s.exp e).health == .faulted

/-- A read of a scan pass granted. -/
def grantScan (item : ScanItem) (s : State) : State :=
  match item with
  | .read e => occupy (.scan e) .readInput (expAddress s e) s
  | .retry e => occupy (.retry e) .readInput (expAddress s e) s

/-- The bus granted in the order of claim of R11; none when it is busy or nothing waits. -/
def grantNext (s : State) : Option State :=
  if s.bus.current.isSome then none
  else
    match s.bus.queue with
    | c :: rest => some (grantClaim c (s.setBus { s.bus with queue := rest }))
    | [] =>
        match (s.bus.scanner.pass.getD []).dropWhile fun i => !eligible s i with
        | item :: rest => some (grantScan item (s.setScanner { s.bus.scanner with pass := some rest }))
        | [] =>
            match s.bus.eeprom with
            | some op => some (occupy .eeprom op eepromAddress (s.setBus { s.bus with eeprom := none }))
            | none => none

/-! ## Scan passes (R12) -/

/-- Whether the transaction on the bus belongs to the scan pass in progress. -/
def scanOnBus (s : State) : Bool :=
  match s.bus.current with
  | some c => match c.txn with
    | .scan _ | .retry _ => !c.discarded
    | _ => false
  | none => false

/-- The reads of a scan pass: every in-use OK expander in ascending index, and after a periodic expiry a retry of each
FAULTED one (R12; log entry 9). -/
def passItems (s : State) (periodic : Bool) : List ScanItem :=
  ((List.finRange 8).filter fun e => inUse s.cfg.points e && (s.exp e).health == .ok).map ScanItem.read ++
    (if periodic then ((List.finRange 8).filter fun e => (s.exp e).health == .faulted).map ScanItem.retry else [])

/-- A scan pass begun. -/
def startPass (periodic : Bool) (s : State) : State :=
  s.setScanner { s.bus.scanner with
    pass := some (passItems s periodic), lastStart := some s.now, fastArmed := true }

/-- A pass requested: begun, or held while one is in progress (R12). -/
def requestPass (periodic : Bool) (s : State) : State :=
  if s.bus.scanner.pass.isSome then
    s.setScanner { s.bus.scanner with held := some (s.bus.scanner.held.getD false || periodic) }
  else startPass periodic s

/-- Whether the pass in progress has ended: no read of it stands, and none is on the bus. -/
def passEnded (s : State) : Bool :=
  match s.bus.scanner.pass with
  | some items => !(items.any (eligible s)) && !scanOnBus s
  | none => false

/-- The end of a pass: a held request starts the next (R12). -/
def endPass (s : State) : State :=
  let c := s.bus.scanner
  let s' := s.setScanner { c with pass := none, held := none }
  match c.held with
  | some periodic => startPass periodic s'
  | none => s'

/-- Whether the scanner starts: every in-use expander's start-up sequence has ended (R12, R183). -/
def scannerReady (s : State) : Bool :=
  loadEnded s && !s.bus.scanner.on && allInUse s sequenceEnded

/-- The scanner started, with its periodic timer, and the pass an earlier assertion of EXP_ATTN asked for (R12). -/
def startScanner (s : State) : State :=
  let held := s.bus.scanner.attnHeld
  let s' := s.setScanner { s.bus.scanner with on := true, attnHeld := false, periodicDue := some (s.now + 250) }
  if held then requestPass false s' else s'

/-! ## Lines and sensed states (R13, R14) -/

/-- A line at a completed read (R13). -/
def sampleLine (now interval : Nat) (l : LineRec) (bit : Bool) : LineRec :=
  match l.debounce with
  | none =>
      if l.accepted = some bit then l else { l with debounce := some { candidate := bit, start := now, interval := interval } }
  | some d =>
      if l.accepted = some bit then { l with debounce := none }
      else if now - d.start < d.interval then l
      else { accepted := some bit, debounce := none }

/-- The lines of an expander at a completed scan read (R13). -/
def sampleLines (s : State) (e : Fin 8) (word : Half) : Vector LineRec 16 :=
  Vector.ofFn fun n => sampleLine s.now s.cfg.debounce (s.exp e).lines[n] (lineBit word n)

/-- The lines of an expander taken from an input word without debounce (R8, R16, R183). -/
def takeLines (word : Half) : Vector LineRec 16 :=
  Vector.ofFn fun n => { accepted := some (lineBit word n), debounce := none }

/-- The commanded positions of the points driven from an expander taken from a readback (R8, R16). DESIGN CHOICE (log
entry 62): also of a point that a VERIFYING or ON_AIR service lists, although R46 has it stay at the listed position; the
readback leaves the service as it is. -/
def readBack (e : Fin 8) (word : Half) (s : State) : State :=
  s.mapPoints fun i p =>
    match s.pointRec i with
    | some r =>
        if r.drive.exp == e then
          { p with commanded := some (if lineBit word r.drive.line then .two else .one) }
        else p
    | none => p

/-- The sensed states derived again and the changes reported: points judged (R14), then the Transfer Engine (R88), then
the exits from HELD that read a changed point (R57; log entry 10). -/
def reportSensed (s : State) : State :=
  let (s1, changed) := rederive s
  let s2 := engineSensed changed (judgePoints changed s1)
  autoExitReading .b changed (autoExitReading .a changed s2)

/-! ## The end of a transaction -/

/-- The exits from HELD tried when the last transaction a WRITE_POINT queued under R4 has ended (R46, R57). -/
def afterTxn (c : Current) (s : State) : State := if txnR4 c.txn && !r4Pending s then autoExitAll s else s

/-- The detail of EXPANDER_FAULT for a failed transaction (R15). -/
def failedOpOf (c : Current) : FailedOp :=
  match c.txn, c.op with
  | .drive .., _ => .driveWrite
  | _, .writeDirection _ => .directionWrite
  | _, .writeOutput _ => .outputWrite
  | _, .readOutput => .outputReadback
  | _, _ => .inputRead

/-- An expander made FAULTED: its lines discarded, its confirmation read no longer called for (R13, R15, R183). -/
def toFaulted (e : Fin 8) (s : State) : State :=
  dropClaims (isStepOf (· == .confirmInput) e)
    (s.setExp e { health := .faulted, lines := noLines, confirm := .none })

/-- A present point driven from a newly FAULTED expander, posted as disturbed where it is not under drive by then and did
not post at step 5 (R15, step 6; log entry 63 for the order of several). -/
def disturbDriven (e : Fin 8) (posted : List (Fin 32)) (s : State) (i : Fin 32) : State :=
  if drivenFrom s.cfg.points e i && !(s.point i).underDrive && !posted.contains i then disturb i s else s

/-- What the Transfer Engine is told of a failed transaction and of the sensed states it changed (R15, R87, R89; log
entry 63 for when). -/
def reportFailure (c : Current) (changed : List (Fin 32)) (s : State) : State :=
  match c.txn with
  | .drive _ ts true => answerFailedSent ts changed s
  | _ => engineSensed changed s

/-- A failed transaction to an OK expander (R15): steps 1 to 4, the changes judged and reported to the Transfer Engine
with the failure itself (step 5), and then the points driven from the expander that step 5 did not post (step 6). Step 5
may take a point out of drive, and step 6 then posts it. DESIGN CHOICE (log entry 63): the points of step 6 are taken in
ascending point index, the failure of a drive write reaches the Transfer Engine in step 5, and the exits from HELD are
tried after step 6. R15 gives no order between the points of step 6 and no place for the other two. -/
def failOk (c : Current) (e : Fin 8) (s : State) : State :=
  let (s1, changed) := rederive (post (.expanderFault e (failedOpOf c)) (toFaulted e s))
  let s2 := reportFailure c changed (judgePoints changed s1)
  let s3 := (List.finRange 32).foldl (disturbDriven e (changed.filter (isDisturbed s1))) s2
  autoExitReading .b changed (autoExitReading .a changed s3)

/-- Whether the output readback of an expander's initialisation has not completed (R8): it failed, or it still waits. -/
def readbackOutstanding (c : Current) (e : Fin 8) (s : State) : Bool :=
  isSeq (· == .initReadback) c || s.bus.queue.any (isStepOf (· == .initReadback) e)

/-- The points driven from an expander left without a commanded position (R8; log entry 62 where a service on or near the
air lists one). -/
def forgetCommands (e : Fin 8) (s : State) : State :=
  s.mapPoints fun i p => if drivenFrom s.cfg.points e i then { p with commanded := none } else p

/-- A failed transaction to an expander in INIT (R8, R15): before the readback has completed, its points have no
commanded position. -/
def failInit (c : Current) (e : Fin 8) (s : State) : State :=
  let s' := if readbackOutstanding c e s then forgetCommands e s else s
  post (.expanderFault e (failedOpOf c)) (toFaulted e (dropClaims (isStepOf isInitStep e) s'))

/-- A failed transaction to a FAULTED expander (R15, R16): a failed restore step ends its restore, and any other failure
leaves the steps that wait (log entry 40). -/
def failFaulted (c : Current) (e : Fin 8) (s : State) : State :=
  reportFailure c [] (if isSeq isRestoreStep c then dropClaims (isStepOf isRestoreStep e) s else s)

/-- An expander failure, by the expander's health (R15; log entry 40). -/
def expanderFailed (c : Current) (e : Fin 8) (s : State) : State :=
  match (s.exp e).health with
  | .ok => failOk c e s
  | .init => failInit c e s
  | .faulted => failFaulted c e s
  | .unused => s

end Sys2Proof.Machine
end

