-- ==== Sys2Proof/Machine/Image.lean ====
section
/-! DEFINITION. The configuration image (R180, R193, 11.4): its CRC-16, its bytes as the part builds them, and the
configuration an image holds, none where the image is invalid (R181). -/

namespace Sys2Proof.Machine

/-! ## CRC-16 (R180) -/

/-- One bit into the CRC register. -/
def crcBit (crc : Half) (bit : Bool) : Half :=
  let shifted := crc <<< 1
  if crc.getLsbD 15 != bit then shifted ^^^ 0x1021 else shifted

/-- One byte into the CRC register, most significant bit first. -/
def crcByte (crc : Half) (b : Byte) : Half := (List.range 8).foldl (fun c k => crcBit c (b.getLsbD (7 - k))) crc

/-- The CRC-16 of bytes in order. -/
def crc16 (bs : List Byte) : Half := bs.foldl crcByte 0xFFFF

/-- The length of the image. -/
def imageLength : Nat := 1758

/-- The last page of the image (R180). -/
def lastPage : Nat := 54

/-! ## Building an image (R189, R193) -/

/-- A line in one byte: expander × 16 + line. -/
def lineByte (l : Line) : Byte := BitVec.ofNat 8 (l.exp.val * 16 + l.line.val)

/-- The five bytes of a site point. -/
def pointImage : Option PointRec → List Byte
  | none => [0, 0, 0, 0, 0]
  | some r =>
      u8 (1 + 2 * r.stage.val + 8 * maskCode r.hot) ++
        [lineByte r.drive, lineByte r.sense1, lineByte r.sense2] ++ u8 (r.transit / 10)

/-- The byte of an interlock. -/
def interlockImage : Option InterlockSettings → List Byte
  | none => [0]
  | some c =>
      u8 (1 + 2 * maskCode c.mask + 8 * c.motionInhibit.toNat + 16 * c.latched.toNat + 32 * c.activeHigh.toNat)

/-- The eight bytes of a service's settings. -/
def settingsImage (c : ServiceSettings) : List Byte :=
  u8 (modeCode c.initialMode) ++ u8 (muteConfirmCode c.muteConfirm) ++ u8 (c.settle / 10) ++
    u8 (c.muteTimeout / 100) ++ u8 c.stale ++ u8 (baudCode c.baud) ++ u16 c.minRef

/-- The flags byte of a present tower entry. -/
def towerFlags (t : TowerEntry) : List Byte :=
  u8 (1 + 2 * enforcementCode t.ratioEnf + 8 * enforcementCode t.phaseEnf)

/-- The nine bytes of a tower entry. -/
def towerImage : Option TowerEntry → List Byte
  | none => List.replicate 9 0
  | some t => towerFlags t ++ u16 t.ratio ++ i16 t.phase ++ u16 t.ratioTol ++ u16 t.phaseTol

/-- A map byte: 0 for a point not listed, or its position. -/
def mapByte : Option Pos → List Byte
  | none => u8 0
  | some pos => u8 (posCode pos)

/-- The 156 bytes of a pattern slot. -/
def slotImage : Option Pattern → List Byte
  | none => List.replicate 156 0
  | some p =>
      [1] ++ p.label.toList ++ u16 p.power ++ u8 p.cutback ++ u8 p.refTower.val ++ u8 p.window ++
        u8 p.persistence ++ u8 (policyCode p.policy) ++ p.towers.toList.flatMap towerImage ++
        p.map.toList.flatMap mapByte

/-- The twelve bytes of a month row. -/
def rowImage (row : List RowEntry) : List Byte :=
  row.flatMap (fun e => u16 e.minute ++ u8 e.slot.val) ++
    (List.range (4 - row.length)).flatMap fun _ => u16 0 ++ u8 0xFF

/-- The eight bytes of the header: mark, version, flags, base, debounce, image length. -/
def headerImage (c : ConfigRam) : List Byte :=
  [0x54, 0x4C, 0x01] ++ u8 (timebaseCode c.timebase + 2 * speedCode c.speed) ++ u8 c.base ++ u8 c.debounce ++
    u16 imageLength

/-- The image before its CRC: bytes 0 to 1755. -/
def imageBody (c : ConfigRam) : List Byte :=
  headerImage c ++ c.points.toList.flatMap pointImage ++ c.interlocks.toList.flatMap interlockImage ++
    settingsImage c.settings.a ++ settingsImage c.settings.b ++
    c.patterns.a.toList.flatMap slotImage ++ c.patterns.b.toList.flatMap slotImage ++
    c.rows.a.toList.flatMap rowImage ++ c.rows.b.toList.flatMap rowImage ++
    c.routes.toList.flatMap fun p => u8 (portSetCode p)

/-- The image of the configuration with its CRC and the two fill bytes of page 54 (R180). -/
def imageOf (c : ConfigRam) : List Byte :=
  let body := imageBody c
  body ++ halfBytes (crc16 body) ++ [fillByte, fillByte]

/-- The 32 bytes of a page. -/
def pageOf (image : List Byte) (page : Nat) : List Byte := (image.drop (32 * page)).take 32

/-! ## Reading an image (R181, R193) -/

/-- A vector of optional values, present when every one is. -/
def allPresent {α : Type} (n : Nat) (f : Fin n → Option α) : Option (Vector α n) :=
  match (List.finRange n).mapM f with
  | some l => if h : l.length = n then some (Vector.mk l.toArray (by simpa using h)) else none
  | none => none

/-- A value kept when a condition holds. -/
def keepIf {α : Type} (ok : Bool) (v : α) : Option α := if ok then some v else none

/-- A line from its byte. -/
def lineOfByte (b : Byte) : Option Line :=
  match indexOf 8 (b >>> 4) with
  | some e => (indexOf 16 (b &&& 0x0F)).map fun n => ⟨e, n⟩
  | none => none

/-- A number between two bounds. -/
def within (low high n : Nat) : Bool := decide (low ≤ n ∧ n ≤ high)

/-- Byte `i` of an image. -/
def byteAt (img : List Byte) (i : Nat) : Byte := img[i]?.getD 0

/-- The two-byte field at byte `i` of an image. -/
def halfAt (img : List Byte) (i : Nat) : Half := halfOf (byteAt img i) (byteAt img (i + 1))

/-- The site point at a place of the image. -/
def pointOfImage (img : List Byte) (i : Nat) : Option (Option PointRec) :=
  let flags := byteAt img i
  if !flags.getLsbD 0 then some none
  else do
    let stage ← indexOf 4 (bits flags 1 2)
    let hot ← maskOfCode (bits flags 3 2)
    let drive ← lineOfByte (byteAt img (i + 1))
    let sense1 ← lineOfByte (byteAt img (i + 2))
    let sense2 ← lineOfByte (byteAt img (i + 3))
    let transit := (byteAt img (i + 4)).toNat
    keepIf (within 5 200 transit)
      (some { drive := drive, sense1 := sense1, sense2 := sense2, hot := hot, stage := stage,
              transit := transit * 10 })

/-- The interlock at a place of the image. -/
def interlockOfImage (img : List Byte) (i : Nat) : Option (Option InterlockSettings) :=
  let b := byteAt img i
  if !b.getLsbD 0 then some none
  else do
    let mask ← maskOfCode (bits b 1 2)
    return some
      { mask := mask, motionInhibit := b.getLsbD 3, latched := b.getLsbD 4, activeHigh := b.getLsbD 5 }

/-- The service settings at a place of the image. -/
def settingsOfImage (img : List Byte) (i : Nat) : Option ServiceSettings := do
  let mode ← modeOfCode (byteAt img i)
  let conf ← muteConfirmOfCode (byteAt img (i + 1))
  let settle := (byteAt img (i + 2)).toNat
  let mute := (byteAt img (i + 3)).toNat
  let stale := (byteAt img (i + 4)).toNat
  let baud ← baudOfCode (byteAt img (i + 5))
  let minRef := (halfAt img (i + 6)).toNat
  keepIf (within 5 100 settle && within 1 50 mute && within 2 60 stale && within 1 65535 minRef)
    { initialMode := mode, muteConfirm := conf, settle := settle * 10, muteTimeout := mute * 100, stale := stale,
      baud := baud, minRef := minRef }

/-- A tower entry whose fields lie within the values of R34. -/
def towerInRange (t : TowerEntry) : Bool :=
  within 1 20000 t.ratio && decide (-1800 ≤ t.phase ∧ t.phase ≤ 1799) && within 1 500 t.ratioTol &&
    within 1 900 t.phaseTol

/-- A tower entry from its flags byte and its four fields, as the image and WRITE_PATTERN carry it (11.4, R34). -/
def towerOf (flags : Byte) (ratio phase ratioTol phaseTol : Half) : Option (Option TowerEntry) :=
  if !flags.getLsbD 0 then some none
  else do
    let re ← enforcementOfCode (bits flags 1 2)
    let pe ← enforcementOfCode (bits flags 3 2)
    let t : TowerEntry :=
      { ratio := ratio.toNat, phase := phase.toInt, ratioTol := ratioTol.toNat, phaseTol := phaseTol.toNat,
        ratioEnf := re, phaseEnf := pe }
    keepIf (towerInRange t) (some t)

/-- The tower entry at a place of the image. -/
def towerOfImage (img : List Byte) (i : Nat) : Option (Option TowerEntry) :=
  towerOf (byteAt img i) (halfAt img (i + 1)) (halfAt img (i + 3)) (halfAt img (i + 5)) (halfAt img (i + 7))

/-- A map byte read. -/
def mapOfByte (b : Byte) : Option (Option Pos) := if b = 0 then some none else (posOfCode b).map some

/-- A label character in the printable range (R34). -/
def labelChar (b : Byte) : Option Byte := keepIf (within 0x20 0x7E b.toNat) b

/-- The pattern slot at a place of the image. -/
def slotOfImage (img : List Byte) (i : Nat) : Option (Option Pattern) :=
  if byteAt img i = 0 then some none
  else if byteAt img i ≠ 1 then none
  else do
    let label ← allPresent 8 fun k => labelChar (byteAt img (i + 1 + k.val))
    let power := (halfAt img (i + 9)).toNat
    let cutback := (byteAt img (i + 11)).toNat
    let ref ← indexOf 12 (byteAt img (i + 12))
    let window := (byteAt img (i + 13)).toNat
    let persistence := (byteAt img (i + 14)).toNat
    let policy ← policyOfCode (byteAt img (i + 15))
    let towers ← allPresent 12 fun k => towerOfImage img (i + 16 + 9 * k.val)
    let map ← allPresent 32 fun k => mapOfByte (byteAt img (i + 124 + k.val))
    keepIf (within 1 10000 power && within 10 90 cutback && within 2 120 window && within 1 15 persistence)
      (some { label := label, power := power, cutback := cutback, refTower := ref, window := window,
              persistence := persistence, policy := policy, towers := towers, map := map })

/-- Entries in strictly ascending order of minute (R154). -/
def ascending : List RowEntry → Bool
  | a :: b :: rest => decide (a.minute < b.minute) && ascending (b :: rest)
  | _ => true

/-- A month row that meets R154. -/
def rowValid (row : List RowEntry) : Bool :=
  decide (row.length ≤ 4) && row.all (fun e => decide (e.minute ≤ 1439)) && ascending row

/-- The entry at a place of the image, none where its slot byte is 0xFF, whatever its minute (R193; log entry 55). -/
def entryOfImage (img : List Byte) (i : Nat) : Option (Option RowEntry) :=
  if byteAt img (i + 2) = 0xFF then some none
  else (indexOf 4 (byteAt img (i + 2))).map fun k => some { minute := (halfAt img i).toNat, slot := k }

/-- Used entries that stand before the unused ones (R193). -/
def usedFirst : List (Option RowEntry) → Option (List RowEntry)
  | [] => some []
  | none :: rest => keepIf (rest.all Option.isNone) []
  | some e :: rest => (usedFirst rest).map (e :: ·)

/-- The month row at a place of the image. -/
def rowOfImage (img : List Byte) (i : Nat) : Option (List RowEntry) := do
  let entries ← (List.range 4).mapM fun k => entryOfImage img (i + 3 * k)
  let row ← usedFirst entries
  keepIf (rowValid row) row

/-- A base address R5 accepts. -/
def baseValid (base : Nat) : Bool := within 0x08 0x70 base && !within 0x50 0x57 base

/-- The configuration an image body holds; none where a field, the line rule or a row makes it invalid (R181). A routing
byte above 7 makes it invalid (log entry 56). -/
def configOfBody (img : List Byte) : Option ConfigRam := do
  let flags := byteAt img 3
  let base := (byteAt img 4).toNat
  let debounce := (byteAt img 5).toNat
  let points ← allPresent 32 fun k => pointOfImage img (8 + 5 * k.val)
  let interlocks ← allPresent 4 fun k => interlockOfImage img (168 + k.val)
  let setA ← settingsOfImage img 172
  let setB ← settingsOfImage img 180
  let patA ← allPresent 4 fun k => slotOfImage img (188 + 156 * k.val)
  let patB ← allPresent 4 fun k => slotOfImage img (812 + 156 * k.val)
  let rowsA ← allPresent 12 fun k => rowOfImage img (1436 + 12 * k.val)
  let rowsB ← allPresent 12 fun k => rowOfImage img (1580 + 12 * k.val)
  let routes ← allPresent 32 fun k => portSetOfCode (byteAt img (1724 + k.val))
  keepIf (baseValid base && within 4 64 debounce && debounce % 4 == 0 && siteMapValid points)
    { points := points, base := base, speed := if flags.getLsbD 1 then .khz400 else .khz100, debounce := debounce,
      interlocks := interlocks, settings := ⟨setA, setB⟩, patterns := ⟨patA, patB⟩, rows := ⟨rowsA, rowsB⟩,
      routes := routes, timebase := if flags.getLsbD 0 then .tickIn else .internal }

/-- The mark, the layout version and the length field of a header (R181). -/
def headerValid (img : List Byte) : Bool :=
  byteAt img 0 == 0x54 && byteAt img 1 == 0x4C && byteAt img 2 == 0x01 && (halfAt img 6).toNat == imageLength

/-- The configuration of a valid image, none for an invalid one (R181). -/
def configOf (img : List Byte) : Option ConfigRam :=
  if headerValid img && crc16 (img.take 1756) == halfAt img 1756 then configOfBody img else none

end Sys2Proof.Machine
end

