-- ==== Sys2Proof/Machine/Conformance.lean ====
section
/-! DEFINITION. The Conformance Unit: reading validity, the arithmetic of ratios, phases and errors, runs and parameter
states (R114-R125); and what follows a reading or the end of a verify window (R128-R145). -/

namespace Sys2Proof.Machine

/-! ## Arithmetic (R118-R122) -/

/-- An angle brought into −1800 to +1799 decidegrees (R119). -/
def normalise (z : Int) : Int := (z + 1800) % 3600 - 1800

/-- The exact quotient of R118, rounded half up, before saturation. -/
def ratioQuotient (m ref : Nat) : Nat := (2 * m * 1000 + ref) / (2 * ref)

/-- The measured ratio in milli-ratio (R118). -/
def measuredRatio (m ref : Nat) : Nat := min (ratioQuotient m ref) 65535

/-- Whether the measured ratio saturated (R118). -/
def ratioSaturated (m ref : Nat) : Bool := decide (65535 < ratioQuotient m ref)

/-- A value saturated to −999 to +999 (R120). -/
def saturate999 (z : Int) : Int := max (-999) (min 999 z)

/-- The ratio error in per-mil, rounded half away from zero (R120). -/
def ratioError (r ref : Nat) : Int :=
  let d : Int := (r : Int) - (ref : Int)
  saturate999 (d.sign * (((2 * d.natAbs * 1000 + ref) / (2 * ref) : Nat) : Int))

/-- The phase error in decidegrees (R121). -/
def phaseError (phi ref : Int) : Int := normalise (phi - ref)

/-- Whether a ratio is in tolerance (R122). -/
def ratioIn (e : Int) (saturated : Bool) (t : TowerEntry) : Bool := !saturated && decide (e.natAbs ≤ t.ratioTol)

/-- Whether a phase is in tolerance (R122). -/
def phaseIn (e : Int) (t : TowerEntry) : Bool := decide (e.natAbs ≤ t.phaseTol)

/-! ## Persistence (R123, R124) -/

/-- A run after a tolerance result (R123). -/
def stepRun (r : Run) (isIn : Bool) : Run :=
  match isIn, r.dir with
  | true, .in_ => { dir := .in_, count := min 15 (r.count + 1) }
  | true, _ => { dir := .in_, count := 1 }
  | false, .out => { dir := .out, count := min 15 (r.count + 1) }
  | false, _ => { dir := .out, count := 1 }

/-- A parameter's state after its run was updated, against the persistence count (R124). -/
def stepParam (persistence : Nat) (r : Run) (st : ParamState) : ParamState :=
  if r.count < persistence then st
  else match r.dir with
    | .in_ => .in_
    | .out => .out
    | .none => st

/-- The record of a parameter that changed state (R124). -/
def paramEvent (x : Svc) (slot : Option (Fin 4)) (q : Param) (before after : ParamState) (error : Int) : List Event :=
  if before = after then []
  else match after with
    | .in_ => [.paramIn x slot q error]
    | .out => [.paramOut x slot q error]
    | .pending => []

/-! ## A valid reading (R116, R117, R125) -/

/-- Whether a phase lies in −1800 to +1799. -/
def phaseInRange (z : Int) : Bool := decide (-1800 ≤ z ∧ z ≤ 1799)

/-- The entry of a tower that carries parameters under a pattern (R115). -/
def carries (p : Pattern) (i : Fin 12) : Option TowerEntry := if i = p.refTower then none else p.towers[i]

/-- A reading judged against the reference tower and the floor (R116). -/
def validity (p : Pattern) (floor : Nat) (frame : List MonitorEntry) : LastOutcome :=
  match frame[p.refTower.val]? with
  | none => .refBeyondCount
  | some k =>
      if !phaseInRange k.phase then .refPhaseRange
      else if k.magnitude < floor then .refBelowFloor
      else .valid

/-- The measured values of a row stored (R117, R118, R119). -/
def storeMeasured (ref e : MonitorEntry) (row : TowerRow) : TowerRow :=
  { row with
    noReading := false
    ratio := some (measuredRatio e.magnitude ref.magnitude)
    saturated := ratioSaturated e.magnitude ref.magnitude
    phase := some (normalise (e.phase - ref.phase)) }

/-- A row and the records of its parameters, once its measured values are stored and its parameters judged
(R120-R124). -/
def judgeRow (x : Svc) (slot : Option (Fin 4)) (persistence : Nat) (t : TowerEntry) (i : Fin 12) (ref e : MonitorEntry)
    (row : TowerRow) : TowerRow × List Event :=
  let r := measuredRatio e.magnitude ref.magnitude
  let phi := normalise (e.phase - ref.phase)
  let er := ratioError r t.ratio
  let ep := phaseError phi t.phase
  let rr := stepRun row.ratioRun (ratioIn er (ratioSaturated e.magnitude ref.magnitude) t)
  let pr := stepRun row.phaseRun (phaseIn ep t)
  let rs := stepParam persistence rr row.ratioState
  let ps := stepParam persistence pr row.phaseState
  ({ storeMeasured ref e row with
     ratioErr := some er, phaseErr := some ep, ratioState := rs, phaseState := ps, ratioRun := rr, phaseRun := pr },
   paramEvent x slot ⟨i, .ratio⟩ row.ratioState rs er ++ paramEvent x slot ⟨i, .phase⟩ row.phaseState ps ep)

/-- A tower row after a valid reading, with the records of its parameters (R117). -/
def updateRow (x : Svc) (slot : Option (Fin 4)) (p : Pattern) (ref : MonitorEntry) (frame : List MonitorEntry)
    (i : Fin 12) (row : TowerRow) : TowerRow × List Event :=
  match frame[i.val]? with
  | none => (row, [])
  | some e =>
      if !phaseInRange e.phase then (row, [])
      else
        match carries p i with
        | some t => judgeRow x slot p.persistence t i ref e row
        | none => (storeMeasured ref e row, [])

/-- A reading count, stopping at 65535 (R115). -/
def bump (n : Nat) : Nat := min 65535 (n + 1)

/-! ## Parameters and their enforcement (R29, R130, R133, R141, R142) -/

/-- A parameter's state in a conformance table. -/
def paramState (t : ConfTable) (q : Param) : ParamState :=
  match q.kind with
  | .ratio => t.rows[q.tower].ratioState
  | .phase => t.rows[q.tower].phaseState

/-- The parameters a pattern carries, with their enforcement, from T0 and ratio before phase. -/
def paramsOf (p : Pattern) : List (Param × Enforcement) :=
  (List.finRange 12).flatMap fun i =>
    match carries p i with
    | some t => [(⟨i, .ratio⟩, t.ratioEnf), (⟨i, .phase⟩, t.phaseEnf)]
    | none => []

/-- The first enforced parameter that is not IN (R133). -/
def firstNotIn (p : Pattern) (t : ConfTable) : Option Param :=
  ((paramsOf p).find? fun q => q.2 != .advisory && paramState t q.1 != .in_).map Prod.fst

/-- Whether any parameter with an enforcement is OUT (R141, R142). -/
def anyOut (p : Pattern) (t : ConfTable) (enf : Enforcement) : Bool :=
  (paramsOf p).any fun q => q.2 == enf && paramState t q.1 == .out

/-! ## What follows a reading -/

/-- Entry to ON_AIR from VERIFYING, its outputs not yet computed (R47). -/
def enterOnAir (x : Svc) (p : Pattern) (failed : Bool) (s : State) : State :=
  let v := s.svc x
  closeWindow x (s.setSvc x
    { v with
      state := .onAir
      causes :=
        { verify := false, deviation := anyOut p (s.table x) .cutback, stale := (s.receiver x).stale,
          verifyFail := failed } })

/-- The success test at a valid reading in VERIFYING (R130). -/
def verifyTest (x : Svc) (p : Pattern) (s : State) : State :=
  let t := s.table x
  if 1 ≤ t.valid ∧ firstNotIn p t = none then
    outputs x (enterOnAir x p false (post (.verified x (s.svc x).inForce t.valid) s))
  else s

/-- A valid reading in ON_AIR (R140, R141, R142, R144). -/
def steadyReading (x : Svc) (p : Pattern) (s : State) : State :=
  let t := s.table x
  let v := s.svc x
  if anyOut p t .withdraw then toHeld x .deviation s
  else
    outputs x (s.setSvc x
      { v with
        causes :=
          { v.causes with
            deviation := anyOut p t .cutback
            verifyFail := v.causes.verifyFail && (firstNotIn p t).isSome } })

/-- A valid reading handed on, by the state of its service (R129, R140). -/
def handReading (x : Svc) (p : Pattern) (s : State) : State :=
  match (s.svc x).state with
  | .verifying => verifyTest x p s
  | .onAir => steadyReading x p s
  | _ => s

/-- The table and the records after a valid reading (R125, steps 1 to 3). -/
def updateTable (x : Svc) (p : Pattern) (ref : MonitorEntry) (frame : List MonitorEntry) (s : State) : State :=
  let t := s.table x
  let row (i : Fin 12) : TowerRow × List Event := updateRow x t.slot p ref frame i t.rows[i]
  let s' := s.setTable x
    { t with valid := bump t.valid, outcome := .valid, rows := Vector.ofFn fun i => (row i).1 }
  ((List.finRange 12).flatMap fun i => (row i).2).foldl (fun u e => post e u) s'

/-- An invalid reading (R116); the ceiling follows a STALE cause its frame removed (R143). -/
def invalidReading (x : Svc) (outcome : LastOutcome) (s : State) : State :=
  let t := s.table x
  let s' := s.setTable x { t with invalid := bump t.invalid, outcome := outcome }
  if (s.svc x).state = .onAir then outputs x s' else s'

/-- A reading of a VERIFYING or ON_AIR service evaluated (R113, R114, R125). -/
def evaluate (x : Svc) (frame : List MonitorEntry) (s : State) : State :=
  match inForcePattern s x with
  | none => s
  | some p =>
      match validity p (s.settings x).minRef frame, frame[p.refTower.val]? with
      | .valid, some ref => handReading x p (updateTable x p ref frame s)
      | outcome, _ => invalidReading x outcome s

/-! ## The end of a verify window (R132-R139) -/

/-- The revert test: the slot the service would go back to (R134). -/
def revertSlot (s : State) (x : Svc) : Option (Fin 4) :=
  match (s.svc x).previous with
  | some k => if (s.pattern x k).isSome && !(s.svc x).revertMark then some k else none
  | none => none

/-- The action at the end of a window without success (R132). -/
def expiryAction (s : State) (x : Svc) (p : Pattern) : VerifyAction :=
  match p.policy with
  | .revert => if (revertSlot s x).isSome then .revert else .noRevert
  | .holdCutback => .holdCutback
  | .withdraw => .withdraw

/-- The FALLBACK request for a slot (R63, R135). -/
def fallbackRequest (k : Fin 4) : Request := { target := k, source := .fallback, tag := 0, revert := true }

/-- HOLD_CUTBACK applied (R139). -/
def holdCutback (x : Svc) (p : Pattern) (s : State) : State :=
  let s' := enterOnAir x p true s
  if anyOut p (s'.table x) .withdraw then toHeld x .deviation s' else outputs x s'

/-- A verify window that ran out (R133, R135, R138, R139). Formation follows at the end of the event. -/
def windowExpired (x : Svc) (p : Pattern) (s : State) : State :=
  let action := expiryAction s x p
  let s1 := post (.verifyFailed x (s.svc x).inForce (firstNotIn p (s.table x)) action) s
  match action with
  | .revert =>
      let s2 := toHeld x .verifyFail s1
      match revertSlot s x with
      | some k => storeRequest x (fallbackRequest k) s2
      | none => s2
  | .noRevert | .withdraw => toHeld x .verifyFail s1
  | .holdCutback => holdCutback x p s1

end Sys2Proof.Machine
end

