-- ==== Sys2Proof/Machine/Monitor.lean ====
section
/-! DEFINITION. The Monitor Receivers: frame assembly (R108, R109), the gap and staleness timers (R110, R112), and
what the line state means to a service (R143). -/

namespace Sys2Proof.Machine

/-- The gap limit in milliseconds (R110). -/
def gapLimit : Nat := 20

/-- The partial frame discarded and the receiver in HUNT. -/
def hunt (r : Receiver) : Receiver := { r with frame := .hunt, part := PartFrame.empty, gapDue := none }

/-- A frame lost: the receiver in HUNT with its frame-error flag set (R108, R109). -/
def frameLost (r : Receiver) : Receiver := { hunt r with frameError := true }

/-- The receiver started with a service's settings (R106). -/
def startReceiver (x : Svc) (s : State) : State :=
  s.setReceiver x
    { Receiver.reset with started := true, staleDue := some (s.now + (s.settings x).stale * 1000) }

/-- The entries of a frame's data bytes (R108). -/
def entriesOf : List Byte → List MonitorEntry
  | a :: b :: c :: d :: rest =>
      { magnitude := (halfOf a b).toNat, phase := (halfOf c d).toInt } :: entriesOf rest
  | _ => []

/-- A good frame taken (R109, R112, R113, R143). -/
def goodFrame (x : Svc) (frame : List MonitorEntry) (s : State) : State :=
  let r := s.receiver x
  let s1 := s.setReceiver x
    { hunt r with
      lastGood := some frame
      goodCount := r.goodCount + 1
      stale := false
      staleDue := some (s.now + (s.settings x).stale * 1000) }
  let s2 :=
    if r.stale then
      let s' := post (.monitorResumed x (s1.svc x).inForce) s1
      if (s'.svc x).state = .onAir then
        s'.setSvc x { s'.svc x with causes := { (s'.svc x).causes with stale := false } }
      else s'
    else s1
  if onOrNearAir (s2.svc x).state then evaluate x frame s2 else s2

/-- A received byte by frame state (R108, R109). -/
def takeByte (x : Svc) (b : Byte) (s : State) : State :=
  let r := s.receiver x
  let due := some (s.now + gapLimit)
  match r.frame with
  | .hunt =>
      if b = 0xC3 then s.setReceiver x { r with frame := .count, part := PartFrame.empty, gapDue := due } else s
  | .count =>
      if 1 ≤ b.toNat ∧ b.toNat ≤ 12 then
        s.setReceiver x
          { r with frame := .data, part := { count := b.toNat, bytes := [], sum := b }, gapDue := due }
      else s.setReceiver x (frameLost r)
  | .data =>
      let part := { r.part with bytes := r.part.bytes ++ [b], sum := r.part.sum + b }
      let frame : FrameState := if part.bytes.length = 4 * part.count then .check else .data
      s.setReceiver x { r with frame := frame, part := part, gapDue := due }
  | .check =>
      if r.part.sum + b = 0 then goodFrame x (entriesOf r.part.bytes) s else s.setReceiver x (frameLost r)

/-- A framing error by frame state (R108). -/
def takeFramingError (x : Svc) (s : State) : State :=
  match (s.receiver x).frame with
  | .hunt => s
  | .count | .data | .check => s.setReceiver x (frameLost (s.receiver x))

/-- The staleness timer run out (R112, R143). MONITOR_STALE carries the stale timeout set at this moment, the model's choice
where the setting changed while the timer ran (log entry 46). -/
def lineStale (x : Svc) (s : State) : State :=
  let s1 := s.setReceiver x { s.receiver x with stale := true, staleDue := none }
  let v := s1.svc x
  let s2 := post (.monitorStale x v.inForce (s.settings x).stale) s1
  if v.state = .onAir then outputs x (s2.setSvc x { v with causes := { v.causes with stale := true } }) else s2

end Sys2Proof.Machine
end

