-- ==== Sys2Proof/Machine/Schedule.lean ====
section
/-! DEFINITION. The Schedule Unit: firing (R157, R158) and derivation (R161). The requests it hands over are stored here;
formation follows at the end of the event. -/

namespace Sys2Proof.Machine

/-- A SCHEDULE request for a slot (R63). -/
def scheduleRequest (k : Fin 4) : Request := { target := k, source := .schedule, tag := 0, revert := false }

/-- Whether the Schedule Unit acts for a service: present, in AUTO, the clock set, adoption finished (R157, R161,
R162). -/
def scheduleRuns (s : State) (x : Svc) : Bool :=
  present s x && (s.svc x).mode == .auto && s.clock.isSet && s.phase == .running

/-- The slot of the entry that falls due at the clock's minute (R157). -/
def dueSlot (s : State) (x : Svc) : Option (Fin 4) :=
  ((monthRow s x s.clock.time.month).find? fun e => e.minute == minuteOfDay s.clock.time).map RowEntry.slot

/-- The slot a service's entry fires for at this step (R157). -/
def firing (s : State) (x : Svc) : Option (Fin 4) := if scheduleRuns s x then dueSlot s x else none

/-- The detail of a firing (R158). -/
def firingDetail (s : State) (x : Svc) (k : Fin 4) : FiredDetail :=
  if inForceOnAir s x k then .noChange else .requested

/-- SCHEDULE_FIRED for a service, where there is anything to fire. -/
def postFired (x : Svc) (fired : Option (Fin 4 × FiredDetail)) (s : State) : State :=
  match fired with
  | some (k, d) => post (.scheduleFired x k d) s
  | none => s

/-- The request of a firing or derivation stored, unless it asked for no change (R158, R67). -/
def storeFired (x : Svc) (fired : Option (Fin 4 × FiredDetail)) (s : State) : State :=
  match fired with
  | some (k, d) => if d = .noChange then s else storeRequest x (scheduleRequest k) s
  | none => s

/-- What fires or is derived for the two services, posted A then B, then stored A then B (R67, R158, R161). -/
def handOver (a b : Option (Fin 4 × FiredDetail)) (s : State) : State :=
  storeFired .b b (storeFired .a a (postFired .b b (postFired .a a s)))

/-- What a service's firing posts (R158). -/
def fired (s : State) (x : Svc) : Option (Fin 4 × FiredDetail) := (firing s x).map fun k => (k, firingDetail s x k)

/-- A step into second 0 judged for firing (R157). -/
def fireAll (s : State) : State := handOver (fired s .a) (fired s .b) s

/-- What a service's derivation posts (R161). -/
def derived (s : State) (x : Svc) : Option (Fin 4 × FiredDetail) :=
  if scheduleRuns s x then
    match scheduledPattern s x with
    | some (k, _) =>
        if (s.svc x).state = .undetermined ∨ (s.svc x).inForce ≠ some k then some (k, .derived) else none
    | none => none
  else none

/-- Both services derived in one event (R161). -/
def deriveAll (s : State) : State := handOver (derived s .a) (derived s .b) s

/-- One service derived (R60, R161). -/
def deriveOne (x : Svc) (s : State) : State := storeFired x (derived s x) (postFired x (derived s x) s)

end Sys2Proof.Machine
end

