-- ==== Sys2Proof/Machine/StartUp.lean ====
section
/-! DEFINITION. Start-up: the load end (R182), the bus start-up it queues (R183), adoption (R186-R188) and the warm reset
(R184, R185). -/

namespace Sys2Proof.Machine

/-! ## Timebase (R150, R152) -/

/-- The tick-loss limit in milliseconds (R150). -/
def lossLimit : Nat := 2000

/-- The active source made TICK_IN: the divider from 0, the tick-loss timer started, no edge held (R150). -/
def startTickIn (s : State) : State :=
  { s with clock := { s.clock with
      active := .tickIn, dividerStart := s.now, lossDue := some (s.now + lossLimit), lastEdge := none } }

/-- The active source made INTERNAL: the divider from 0, the tick-loss timer stopped (R152). -/
def startInternal (s : State) : State :=
  { s with clock := { s.clock with active := .internal, dividerStart := s.now, lossDue := none, lastEdge := none } }

/-- The timebase selection applied at the power-on load end (R150). -/
def applyTimebase (s : State) : State :=
  match s.cfg.timebase with
  | .tickIn => startTickIn s
  | .internal => s

/-! ## The load end (R182, R183) -/

/-- The monitor receivers of the present services started (R106). -/
def startReceivers (s : State) : State := (presentSvcs s).foldl (fun t x => startReceiver x t) s

/-- The initialisation sequence of every in-use expander queued, in ascending index (R183). -/
def queueInits (s : State) : State :=
  ((List.finRange 8).filter (inUse s.cfg.points)).foldl (fun t e => queueInit false e t) s

/-- What starts at a load end of either kind (R182). -/
def startBlocks (s : State) : State := queueInits (startReceivers { s with phase := .starting })

/-- The modes taken from the configured initial modes (R42). -/
def applyModes (s : State) : State :=
  { s with svcs :=
      ⟨{ s.svcs.a with mode := s.cfg.settings.a.initialMode }, { s.svcs.b with mode := s.cfg.settings.b.initialMode }⟩ }

/-- The power-on load end (R181, R182): the image's configuration, or the blank one with ADOPTION_FAILED. -/
def powerOnLoadEnd (image : Option ConfigRam) (s : State) : State :=
  let s1 : State :=
    { s with cfg := image.getD ConfigRam.blank, imageValid := image.isSome, dirty := false, coldLoaded := true,
             store := .idle }
  let s2 := startBlocks (applyTimebase (applyModes s1))
  if image.isSome then s2 else post (.adoptionFailed none .imageInvalid) s2

/-- The first page of the image asked for (R181). -/
def startLoad (s : State) : State :=
  { s with phase := .loading, store := .loading 0 [], bus := { s.bus with eeprom := some (.pageRead 0) } }

/-! ## The warm reset (R184, R185) -/

/-- An interlock at a warm reset: LATCHED is kept, any other state is CLOSED, and nothing is accepted (R20). -/
def Interlock.warm (k : Interlock) : Interlock :=
  { state := if k.state = .latched then .latched else .closed, accepted := none, debounce := none }

/-- The transaction on the bus at a warm reset, whose result will be discarded (R184). -/
def Bus.warm (b : Bus) : Bus :=
  { queue := []
    eeprom := none
    current := b.current.map fun c => { c with discarded := true }
    recovered := b.recovered
    scanner := Scanner.reset }

/-- A service record at a warm reset (R42), its outputs brought low in their order (R52, R55). -/
def Service.warm (v : Service) (mode : Mode) : Service :=
  { Service.reset mode with edges := (moveOutputs false false v).edges }

/-- A port at a warm reset (R164). `shifted` is the record of the last window that closed, which a reset does not
rewrite. -/
def Port.warm (p : Port) : Port := { Port.reset with shifted := p.shifted }

/-- Every block at its warm-reset state (R184): the configuration, the dirty flag, the clock and LATCHED interlocks
kept. DESIGN CHOICE (log entry 60): a save is no longer in flight from this event on, though R17 and R185 stop it only
once the transaction on the bus has ended. -/
def warmReset (s : State) : State :=
  { s with
    phase := .resetHeld
    store := .idle
    bus := s.bus.warm
    exps := Vector.replicate 8 Expander.reset
    points := Vector.replicate 32 PointState.reset
    expAttn := false
    interlocks := Vector.ofFn fun k => (s.interlock k).warm
    rfdown := ⟨false, false⟩
    svcs := ⟨s.svcs.a.warm s.cfg.settings.a.initialMode, s.svcs.b.warm s.cfg.settings.b.initialMode⟩
    arrival := []
    job := none
    receivers := ⟨Receiver.reset, Receiver.reset⟩
    tables := ⟨ConfTable.reset, ConfTable.reset⟩
    ports := ⟨s.ports.a.warm, s.ports.b.warm, s.ports.site.warm⟩ }

/-- The warm start-up, or the load from page 0 where the reset is part of the power-on (R185). `svcs`: the SVCS level
captured (R179). -/
def startAfterReset (svcs : Bool) (s : State) : State :=
  let s' := { s with twoServices := svcs }
  if s.coldLoaded then startBlocks s' else startLoad s'

/-! ## Adoption (R186-R188) -/

/-- The candidates of a service (R187). -/
def candidates (s : State) (x : Svc) : List (Fin 4) :=
  (List.finRange 4).filter fun k =>
    match s.pattern x k with
    | some p => patternValid s p && mapInPlace s p
    | none => false

/-- The slot the schedule chooses among several candidates (R187). -/
def scheduledChoice (s : State) (x : Svc) (ks : List (Fin 4)) : Option (Fin 4) :=
  if (s.svc x).mode = .auto ∧ s.clock.isSet = true then
    match scheduledPattern s x with
    | some (k, _) => if ks.contains k then some k else none
    | none => none
  else none

/-- A pattern adopted (R188). -/
def adopt (x : Svc) (k : Fin 4) (detail : AdoptDetail) (s : State) : State :=
  throughEntryCheck x (post (.patternAdopted x k detail) (s.setSvc x { s.svc x with inForce := some k }))

/-- A service judged for adoption (R187, R188). -/
def adoptService (s : State) (x : Svc) : State :=
  match candidates s x with
  | [] => post (.adoptionFailed (some x) .noMatch) s
  | [k] => adopt x k .single s
  | ks =>
      match scheduledChoice s x ks with
      | some k => adopt x k .scheduled s
      | none => post (.adoptionFailed (some x) .ambiguous) s

/-- The adoption decision, with the derivations that follow it in the same event (R187, R188, R161). -/
def adoptAll (s : State) : State := deriveAll { (presentSvcs s).foldl adoptService s with phase := .running }

end Sys2Proof.Machine
end

