-- ==== Sys2Proof/Machine/Settle.lean ====
section
/-! DEFINITION. The end of an event (log entry 7): whatever the event has made possible follows in it. Adoption decides
(R186), the scanner starts (R12), a scan pass ends (R12), formation runs (R70), the bus is granted (R11), until nothing
more follows. -/

namespace Sys2Proof.Machine

/-- The next thing that follows in the event; none when nothing does. -/
def advance (s : State) : Option State :=
  if adoptionReady s then some (adoptAll s)
  else if scannerReady s then some (startScanner s)
  else if passEnded s then some (endPass s)
  else if formationReady s then some (formationPass s)
  else grantNext s

/-- At most `n` things that follow, one after another. -/
def settleFor : Nat → State → State
  | 0, s => s
  | n + 1, s =>
      match advance s with
      | some s' => settleFor n s'
      | none => s

/-- The end of an event. The bound is above what one event can bring about: one adoption, one start of the scanner, two
ends of a pass, the passes of the formations, and the grants of at most 32 refused drive writes. -/
def finish (s : State) : State := settleFor 64 s

end Sys2Proof.Machine
end

