-- ==== Sys2Proof/Machine/Ports.lean ====
section
/-! DEFINITION. Port Logic: what a window shifts out and how its close is judged (R165-R168), and the first checks of a
request (R169, R172). -/

namespace Sys2Proof.Machine

/-! ## The window -/

/-- The state with a port changed. -/
def State.setPort (s : State) (i : PortId) (p : Port) : State := { s with ports := s.ports.set i p }

/-- The `n` bytes a window shifts out (R165). -/
def shiftOut (p : Port) (n : Nat) : List Byte :=
  ((p.response.getD [notReadyByte]) ++ List.replicate n fillByte).take n

/-- A window of `n` bytes closed: what it shifted out is recorded, and no window is in progress. -/
def closePort (i : PortId) (n : Nat) (s : State) : State :=
  s.setPort i { s.ports.get i with window := none, shifted := shiftOut (s.ports.get i) n }

/-- A response frame: its length, its status, the tag echoed, its payload (R168). -/
def responseFrame (st : Status) (tag : Byte) (payload : List Byte) : List Byte :=
  BitVec.ofNat 8 (3 + payload.length) :: statusCode st :: tag :: payload

/-- A response placed in a port's buffer. -/
def respond (i : PortId) (frame : List Byte) (s : State) : State :=
  s.setPort i { s.ports.get i with response := some frame }

/-- What a request's owning block answers: the status, the payload of a read, and the state. -/
structure Answer where
  status  : Status
  payload : List Byte
  state   : State

/-- A refused request: nothing changes (R171). -/
def refuse (st : Status) (s : State) : Answer := { status := st, payload := [], state := s }

/-- A request taken, with no payload. -/
def taken (st : Status) (s : State) : Answer := { status := st, payload := [], state := s }

/-- A request taken, with no payload, and what it makes possible in the same event (log entry 7). -/
def takenThen (st : Status) (s : State) : Answer := taken st (finish s)

/-- A read answered OK with its payload; nothing changes. -/
def reading (payload : List Byte) (s : State) : Answer := { status := .ok, payload := payload, state := s }

/-- An answer put into the response buffer of the port the request arrived on. -/
def deliverAnswer (i : PortId) (tag : Byte) (a : Answer) : State :=
  respond i (responseFrame a.status tag a.payload) a.state

/-- A request window of `n` bytes (R166, R167): judged and answered once the load has ended, a poll while it runs, and
no window at all while RESET_N is held low (R185). -/
def request (i : PortId) (tag : Byte) (n : Nat) (body : State → Answer) (s : State) : State :=
  match s.phase with
  | .resetHeld => s
  | .loading => closePort i n s
  | .starting | .running => deliverAnswer i tag (body (closePort i n s))

/-- A poll of `n` bytes: a response it carries out whole is gone (R166). -/
def poll (i : PortId) (n : Nat) (s : State) : State :=
  if s.phase = .resetHeld ∨ n = 0 then s
  else
    let s' := closePort i n s
    match (s.ports.get i).response with
    | some r => if r.length ≤ n then s'.setPort i { s'.ports.get i with response := none } else s'
    | none => s'

/-! ## First checks (R169, R172) -/

/-- The service a station port acts for. -/
def portService : PortId → Option Svc
  | .a => some .a
  | .b => some .b
  | .site => none

/-- Whether a port may make a request that names a service (R169). -/
def mayName (i : PortId) (svc : Byte) : Bool :=
  match portService i with
  | some x => svcOfCode svc == some x
  | none => true

/-- The present service a code names (R172). -/
def namedService (s : State) (svc : Byte) : Option Svc :=
  match svcOfCode svc with
  | some x => if present s x then some x else none
  | none => none

/-- A request for a service: its permission check, then the check that the service exists (R169, R172). DESIGN CHOICE
(log entry 61): a station port A that names the absent service B is NOT_PERMITTED, by the order of the checks, although
R43 and the last sentence of R169 answer NO_SERVICE. -/
def forOwnService (i : PortId) (svc : Byte) (s : State) (body : Svc → Answer) : Answer :=
  if !mayName i svc then refuse .notPermitted s
  else match namedService s svc with
    | some x => body x
    | none => refuse .noService s

/-- A read that names a service: taken from any port, NO_SERVICE where the service is absent (R169, R172). -/
def forAnyService (svc : Byte) (s : State) (body : Svc → Answer) : Answer :=
  match namedService s svc with
  | some x => body x
  | none => refuse .noService s

/-- A request the site port alone may make (R169). -/
def fromSite (i : PortId) (s : State) (body : Answer) : Answer :=
  if i = .site then body else refuse .notPermitted s

/-- A configuration write while no save is in flight (R170, R189). -/
def whileUnsaved (s : State) (body : Answer) : Answer := if saveInFlight s then refuse .saveBusy s else body

/-- A request whose fields are all in range, or BAD_FIELD (R172). -/
def inRange {α : Type} (fields : Option α) (s : State) (body : α → Answer) : Answer :=
  match fields with
  | some v => body v
  | none => refuse .badField s

/-! ## Clamping (R172) -/

/-- A timing or count field brought into its range, then rounded down to its step. -/
def clampTo (low high step n : Nat) : Nat :=
  let v := max low (min high n)
  v - v % step

/-- The status of an accepted write, by whether a field was clamped. -/
def clampStatus (changed : Bool) : Status := if changed then .okClamped else .ok

/-- An accepted configuration write: the new configuration, the dirty flag set (R189). -/
def State.writeCfg (s : State) (c : ConfigRam) : State := { s with cfg := c, dirty := true }

end Sys2Proof.Machine
end

