-- ==== Sys2Proof/Machine/Payloads.lean ====
section
/-! DEFINITION. The payloads of the reads (R191, 11.1, 11.2): each read's items in the order its rule lists them. -/

namespace Sys2Proof.Machine

/-! ## Items by kind -/

/-- A service. -/
def svcItem (x : Svc) : List Byte := u8 (svcCode x)

/-- A slot, absent as 0xFF. -/
def slotItem (k : Option (Fin 4)) : List Byte := opt8 (k.map Fin.val)

/-- A position, absent as 0xFF. -/
def posItem (p : Option Pos) : List Byte := opt8 (p.map posCode)

/-- A list: its count and its members (R191). DEDUCED (log entry 58): the count takes one byte, as READ_STATUS's sizes show
for its lists, although R191 gives a count two. -/
def listItem {α : Type} (f : α → List Byte) (l : List α) : List Byte := u8 l.length ++ l.flatMap f

/-- A pin or line level: low 0, high 1. -/
def levelItem (high : Bool) : List Byte := flag8 high

/-! ## READ_STATUS (R173, 11.1) -/

/-- A service's state, PERMIT level and CUT level; 0xFF each for an absent service. -/
def statusService (s : State) (x : Svc) : List Byte :=
  if present s x then
    u8 (svcStateCode (s.svc x).state) ++ levelItem (s.svc x).permit ++ levelItem (s.svc x).cut
  else [fillByte, fillByte, fillByte]

/-- The engine phase. -/
def phaseCode : JobPhase → Nat
  | .muting => 1
  | .transfer => 2
  | .paused _ => 3
  | .rollback => 4

/-- The paused-from phase, coded as the engine phase it names (log entry 37). -/
def pausedFrom : JobPhase → Option Nat
  | .paused .transfer => some 2
  | .paused .rollback => some 4
  | _ => none

/-- A changing service's five bytes. -/
def changingItem (c : Changing) : List Byte :=
  svcItem c.svc ++ u8 c.target.val ++ u8 (sourceCode c.source) ++ flag8 c.revert ++ flag8 c.reassert

/-- A move list entry's five bytes. -/
def moveItem (m : Move) : List Byte :=
  u8 m.point.val ++ posItem m.fromPos ++ u8 (posCode m.toPos) ++ u8 m.stage.val ++ flag8 m.driven

/-- The settle states of the muted services (R79, R81), A before B by the model's choice (log entry 48). -/
def settleList (j : Job) : List (Svc × Settle) :=
  [Svc.a, Svc.b].filterMap fun x => (j.settle.get x).map fun st => (x, st)

/-- The job record of READ_STATUS. -/
def jobItem : Option Job → List Byte
  | none => u8 0 ++ opt8 none ++ opt8 none ++ opt8 none ++ u8 0 ++ opt8 none ++ u8 0 ++ u8 0
  | some j =>
      u8 (phaseCode j.phase) ++ opt8 (pausedFrom j.phase) ++ opt8 (j.rollbackCause.map causeCode) ++
        opt8 (j.stage.map Fin.val) ++ listItem changingItem j.changing ++ opt8 (j.collateral.map svcCode) ++
        listItem moveItem j.moves ++ listItem (fun e => svcItem e.1 ++ u8 (settleCode e.2)) (settleList j)

/-- READ_STATUS's payload for a port (R173). -/
def statusPayload (i : PortId) (s : State) : List Byte :=
  u8 (if s.twoServices then 2 else 1) ++ statusService s .a ++ statusService s .b ++ jobItem s.job ++
    flag8 s.clock.isSet ++ flag8 s.dirty ++ flag8 (saveInFlight s) ++ flag8 s.imageValid ++
    u8 (s.ports.get i).queue.length ++ flag8 (s.ports.get i).overflow ++
    s.cfg.routes.toList.flatMap fun p => u8 (portSetCode p)

/-! ## READ_SERVICE (R62) -/

/-- The pending request's target, source, tag and revert flag; 0xFF each when absent. -/
def requestItem : Option Request → List Byte
  | some r => u8 r.target.val ++ u8 (sourceCode r.source) ++ [r.tag] ++ flag8 r.revert
  | none => [fillByte, fillByte, fillByte, fillByte]

/-- A service's part in the current job (R62). -/
def jobPart (s : State) (x : Svc) : Config.JobPart :=
  match s.job with
  | some j => if isChanging j x then .changing else if j.collateral = some x then .collateral else .none
  | none => .none

/-- The whole seconds left in an open verify window (R62). -/
def timeLeft (s : State) (x : Svc) : Option Nat := (s.table x).window.map fun w => (w.expiry - s.now) / 1000

/-- READ_SERVICE's payload (R62). The byte of the service's part in the job is open (log entry 20). -/
def servicePayload (x : Svc) (s : State) : List Byte :=
  let v := s.svc x
  u8 (svcStateCode v.state) ++ slotItem v.inForce ++ slotItem v.previous ++ flag8 v.revertMark ++
    opt8 (v.hold.map holdCode) ++ u8 (causesCode v.causes) ++ u8 (modeCode v.mode) ++ requestItem v.request ++
    u16 v.ceiling ++ levelItem v.permit ++ levelItem v.cut ++
    opt16 ((inForcePattern s x).map Pattern.power) ++ opt16 ((inForcePattern s x).map cutbackLevel) ++
    [Config.jobPartCode (jobPart s x)] ++ opt8 (timeLeft s x) ++ flag8 (s.receiver x).stale ++
    flag8 (s.receiver x).frameError

/-! ## READ_CONFORMANCE (R126, R127) -/

/-- The tower entry judged at a row: carried under the pattern the table slot holds as it stands (R126). -/
def rowEntry (s : State) (x : Svc) (i : Fin 12) : Option TowerEntry :=
  match (s.table x).slot.bind (s.pattern x) with
  | some p => carries p i
  | none => none

/-- A tower's 17 bytes of the TABLE view. Errors are sent as 0, states and runs as 0xFF, where the tower carries no
parameters. -/
def towerItem (s : State) (x : Svc) (i : Fin 12) : List Byte :=
  let r := (s.table x).rows[i]
  let measured := flag8 r.noReading ++ opt16 r.ratio ++ flag8 r.saturated ++ optI16 r.phase
  if (rowEntry s x i).isSome then
    measured ++ flag8 true ++ optI16 r.ratioErr ++ optI16 r.phaseErr ++ u8 (paramStateCode r.ratioState) ++
      u8 (paramStateCode r.phaseState) ++ u8 (runDirCode r.ratioRun.dir) ++ u8 r.ratioRun.count ++
      u8 (runDirCode r.phaseRun.dir) ++ u8 r.phaseRun.count
  else
    measured ++ flag8 false ++ u16 0 ++ u16 0 ++ List.replicate 6 fillByte

/-- The TABLE view's payload (R126): 7 bytes of head and 17 for each tower. -/
def tablePayload (x : Svc) (s : State) : List Byte :=
  let t := s.table x
  slotItem t.slot ++ u16 t.valid ++ u16 t.invalid ++ u8 (outcomeCode t.outcome) ++ flag8 (s.receiver x).stale ++
    (List.finRange 12).flatMap (towerItem s x)

/-- The last good frame: its tower count and its entries as received, or the count as absent (R127). DEDUCED (log entry
58): the tower count takes one byte, as the count of any list does and as the frame itself carries it (11.3), although
R191 gives a count two. -/
def frameItem : Option (List MonitorEntry) → List Byte
  | some f => listItem (fun e => u16 e.magnitude ++ i16 e.phase) f
  | none => opt8 none

/-- The RAW view's payload (R127). -/
def rawPayload (x : Svc) (s : State) : List Byte :=
  let r := s.receiver x
  u8 (frameStateCode r.frame) ++ flag8 r.stale ++ flag8 r.frameError ++ halfBytes r.goodCount ++ frameItem r.lastGood

/-! ## READ_POINTS (R18) -/

/-- A line's two bytes: expander and line. -/
def lineItem (l : Line) : List Byte := u8 l.exp.val ++ u8 l.line.val

/-- A point's 15 bytes. An absent point's fields are sent as absent, its flags as no (log entry 14). -/
def pointItem (s : State) (i : Fin 32) : List Byte :=
  match s.pointRec i with
  | some r =>
      flag8 true ++ lineItem r.drive ++ lineItem r.sense1 ++ lineItem r.sense2 ++ u8 (maskCode r.hot) ++
        u8 r.stage.val ++ u16 r.transit ++ posItem (s.point i).commanded ++ u8 (sensedCode (s.point i).sensed) ++
        flag8 (pointPending s r) ++ flag8 (s.point i).underDrive
  | none =>
      flag8 false ++ List.replicate 8 fillByte ++ u16 0 ++ [fillByte, fillByte] ++ flag8 false ++ flag8 false

/-- How many points one response carries (R191). -/
def pointsPerRead : Nat := 16

/-- READ_POINTS's payload from a first index (R18, R191). -/
def pointsPayload (first : Fin 32) (s : State) : List Byte :=
  let last := min 31 (first.val + pointsPerRead - 1)
  (List.finRange 8).flatMap (fun e => u8 (healthCode (s.exp e).health)) ++ levelItem (!s.expAttn) ++ u8 last ++
    ((List.finRange 32).filter fun i => decide (first ≤ i ∧ i.val ≤ last)).flatMap (pointItem s)

/-! ## READ_INTERLOCKS (R24) -/

/-- An interlock's settings, state, accepted level and pending flag; the settings of an absent one as absent (log
entries 14, 16). -/
def interlockItem (s : State) (k : Fin 4) : List Byte :=
  let i := s.interlock k
  (match s.interlockRec k with
   | some c =>
       flag8 true ++ u8 (maskCode c.mask) ++ flag8 c.motionInhibit ++ flag8 c.latched ++ levelItem c.activeHigh
   | none => flag8 false ++ List.replicate 4 fillByte) ++
    u8 (interlockStateCode i.state) ++ opt8 (i.accepted.map Bool.toNat) ++ flag8 i.debounce.isSome

/-- READ_INTERLOCKS's payload. -/
def interlocksPayload (s : State) : List Byte := (List.finRange 4).flatMap (interlockItem s)

/-! ## READ_EVENTS (R178), READ_CLOCK (R153) -/

/-- How many records one READ_EVENTS takes (R178). -/
def eventsPerRead : Nat := 8

/-- READ_EVENTS's payload from a port's queue as it stood (11.2). -/
def eventsPayload (p : Port) : List Byte :=
  let out := p.queue.take eventsPerRead
  u8 out.length ++ u8 (p.queue.drop eventsPerRead).length ++ flag8 p.overflow ++ out.flatMap recordBytes

/-- A port once READ_EVENTS has taken its oldest records (R178). -/
def drained (p : Port) : Port :=
  let left := p.queue.drop eventsPerRead
  { p with queue := left, overflow := false, attn := !left.isEmpty }

/-- A date and time in seven bytes. -/
def dateItem (d : DateTime) : List Byte :=
  u16 d.year ++ u8 d.month ++ u8 d.day ++ u8 d.hour ++ u8 d.minute ++ u8 d.second

/-- READ_CLOCK's payload (R153). -/
def clockPayload (s : State) : List Byte :=
  dateItem s.clock.time ++ flag8 s.clock.isSet ++ u8 (timebaseCode s.cfg.timebase) ++
    u8 (timebaseCode s.clock.active) ++ flag8 (atRangeEnd s.clock.time)

/-! ## READ_PATTERN (R40), READ_SCHEDULE (R156) -/

/-- A tower position: absent, or its six fields; an absent one's fields as absent (log entry 14). -/
def towerPayload : Option TowerEntry → List Byte
  | some t =>
      flag8 true ++ u16 t.ratio ++ i16 t.phase ++ u16 t.ratioTol ++ u16 t.phaseTol ++
        u8 (enforcementCode t.ratioEnf) ++ u8 (enforcementCode t.phaseEnf)
  | none => flag8 false ++ u16 0 ++ u16 0 ++ u16 0 ++ u16 0 ++ [fillByte, fillByte]

/-- The switch map as pairs in ascending point index (R40). -/
def mapPairs (p : Pattern) : List (Fin 32 × Pos) :=
  (List.finRange 32).filterMap fun i => (p.map[i]).map fun pos => (i, pos)

/-- A pattern's head, towers and map, with its validity and its lowest absent point (R40). The persistence count takes one
byte, as in a request's frame (log entry 52), and so does the count of the map's pairs (log entry 58). -/
def patternPayload (s : State) (p : Pattern) : List Byte :=
  p.label.toList ++ u16 p.power ++ u8 p.cutback ++ u8 p.refTower.val ++ u8 p.window ++ u8 p.persistence ++
    u8 (policyCode p.policy) ++ p.towers.toList.flatMap towerPayload ++
    listItem (fun q => u8 q.1.val ++ u8 (posCode q.2)) (mapPairs p) ++
    flag8 (patternValid s p) ++ opt8 ((firstAbsent s p).map Fin.val)

/-- The four usage flags of a slot (R40). -/
def usageFlags (s : State) (x : Svc) (k : Fin 4) : List Byte :=
  flag8 ((s.svc x).inForce == some k) ++ flag8 (isPendingTarget s x k) ++ flag8 (isJobTarget s x k) ++
    flag8 ((s.svc x).previous == some k)

/-- READ_PATTERN's payload: whether the slot is empty, what it holds, and the usage flags (R40). -/
def slotPayload (x : Svc) (k : Fin 4) (s : State) : List Byte :=
  match s.pattern x k with
  | some p => flag8 false ++ patternPayload s p ++ usageFlags s x k
  | none => flag8 true ++ usageFlags s x k

/-- A month row: its count and its entries (R156), the count in one byte (log entry 58). -/
def rowItem (row : List RowEntry) : List Byte := listItem (fun e => u16 e.minute ++ u8 e.slot.val) row

/-- The scheduled pattern and the month of its row; open while the clock-set flag is clear (R156; log entry 21). -/
def scheduledItem (s : State) (x : Svc) : List Byte :=
  if s.clock.isSet then
    match scheduledPattern s x with
    | some (k, m) => u8 k.val ++ u8 m
    | none => [fillByte, fillByte]
  else [Config.notComputedSlot, fillByte]

/-- READ_SCHEDULE's payload (R156). -/
def schedulePayload (x : Svc) (s : State) : List Byte :=
  (s.cfg.rows.get x).toList.flatMap rowItem ++ u8 (modeCode (s.svc x).mode) ++ scheduledItem s x

end Sys2Proof.Machine
end

