-- ==== Sys2Proof/Machine/Reads.lean ====
section
/-! DEFINITION. The reads and the windows that carry no request: PORT_POLL, BAD_LENGTH_WINDOW, UNKNOWN_REQUEST,
READ_STATUS, READ_SERVICE, READ_CONFORMANCE in its two views, READ_POINTS, READ_INTERLOCKS, READ_EVENTS, READ_CLOCK,
READ_PATTERN, READ_SCHEDULE. -/

namespace Sys2Proof.Machine

/-- The outcome of a command: every command of this part leads to a next state. -/
abbrev Result := Host.Outcome State Fault Refusal

/-- The length of a request's frame, and so of its window (R165, R166). -/
def frameLength (i : Instr) : Nat := (requestFrame i).length

/-! ## Windows -/

/-- PORT_POLL (R166, R167). -/
def execPortPoll (port : PortId) (clocked : Nat) (s : State) : Result := .next (poll port clocked s)

/-- The tag a BAD_LENGTH response echoes: the third byte clocked, or 0 (R166). -/
def badLengthTag (clocked : List Byte) : Byte := clocked[2]?.getD 0

/-- BAD_LENGTH_WINDOW (R166, R168). -/
def execBadLengthWindow (port : PortId) (clocked : List Byte) (s : State) : Result :=
  .next (request port (badLengthTag clocked) clocked.length (refuse .badLength) s)

/-- UNKNOWN_REQUEST (R168). -/
def execUnknownRequest (port : PortId) (code tag : Byte) (params : List Byte) (s : State) : Result :=
  .next (request port tag (frameLength (.unknownRequest port code tag params)) (refuse .unknownRequest) s)

/-! ## Reads -/

/-- READ_STATUS (R173). -/
def execReadStatus (port : PortId) (tag : Byte) (s : State) : Result :=
  .next (request port tag (frameLength (.readStatus port tag)) (fun t => reading (statusPayload port t) t) s)

/-- READ_SERVICE answered: the frame-error flag of the receiver is cleared once reported (R62). -/
def answerReadService (svc : Byte) (s : State) : Answer :=
  forAnyService svc s fun x =>
    { status := .ok, payload := servicePayload x s,
      state := s.setReceiver x { s.receiver x with frameError := false } }

/-- READ_SERVICE (R62). -/
def execReadService (port : PortId) (tag svc : Byte) (s : State) : Result :=
  .next (request port tag (frameLength (.readService port tag svc)) (answerReadService svc) s)

/-- READ_CONFORMANCE_TABLE: the TABLE view, and BAD_FIELD for a view code that names none (R126). -/
def execReadConformanceTable (port : PortId) (tag svc view : Byte) (s : State) : Result :=
  .next (request port tag (frameLength (.readConformanceTable port tag svc view))
    (fun t => forAnyService svc t fun x =>
      if view = 0 then reading (tablePayload x t) t else refuse .badField t) s)

/-- READ_CONFORMANCE_RAW (R127). -/
def execReadConformanceRaw (port : PortId) (tag svc : Byte) (s : State) : Result :=
  .next (request port tag (frameLength (.readConformanceRaw port tag svc))
    (fun t => forAnyService svc t fun x => reading (rawPayload x t) t) s)

/-- READ_POINTS (R18). -/
def execReadPoints (port : PortId) (tag first : Byte) (s : State) : Result :=
  .next (request port tag (frameLength (.readPoints port tag first))
    (fun t => inRange (indexOf 32 first) t fun i => reading (pointsPayload i t) t) s)

/-- READ_INTERLOCKS (R24). -/
def execReadInterlocks (port : PortId) (tag : Byte) (s : State) : Result :=
  .next (request port tag (frameLength (.readInterlocks port tag)) (fun t => reading (interlocksPayload t) t) s)

/-- READ_EVENTS answered from the queue of the port it arrives on (R178). -/
def answerReadEvents (port : PortId) (s : State) : Answer :=
  { status := .ok, payload := eventsPayload (s.ports.get port), state := s.setPort port (drained (s.ports.get port)) }

/-- READ_EVENTS (R178). -/
def execReadEvents (port : PortId) (tag : Byte) (s : State) : Result :=
  .next (request port tag (frameLength (.readEvents port tag)) (answerReadEvents port) s)

/-- READ_CLOCK (R153). -/
def execReadClock (port : PortId) (tag : Byte) (s : State) : Result :=
  .next (request port tag (frameLength (.readClock port tag)) (fun t => reading (clockPayload t) t) s)

/-- READ_PATTERN (R40). -/
def execReadPattern (port : PortId) (tag svc slot : Byte) (s : State) : Result :=
  .next (request port tag (frameLength (.readPattern port tag svc slot))
    (fun t => forAnyService svc t fun x => inRange (indexOf 4 slot) t fun k => reading (slotPayload x k t) t) s)

/-- READ_SCHEDULE (R156). -/
def execReadSchedule (port : PortId) (tag svc : Byte) (s : State) : Result :=
  .next (request port tag (frameLength (.readSchedule port tag svc))
    (fun t => forAnyService svc t fun x => reading (schedulePayload x t) t) s)

end Sys2Proof.Machine
end

