-- ==== Sys2Proof/Machine/Store.lean ====
section
/-! DEFINITION. The Configuration Store: the pages of a load and of a save, and how each ends (R17, R181, R189, R190). -/

namespace Sys2Proof.Machine

/-- The time from a page write to the end of its polling in milliseconds (R17). -/
def pollLimit : Nat := 10

/-- An EEPROM transaction asked for, at the lowest claim (R11, R17). -/
def askEeprom (op : BusOp) (s : State) : State := s.setBus { s.bus with eeprom := some op }

/-- A page of a save asked to be written (R190, step 1). -/
def writePage (page : Nat) (image : List Byte) (s : State) : State :=
  askEeprom (.pageWrite page (pageOf image page)) { s with store := .saving page image .writing }

/-- A save begun with the image of the configuration (R189). -/
def beginSave (s : State) : State := writePage 0 (imageOf s.cfg) s

/-- A failed save (R190): the store idle, nothing more asked of the EEPROM. -/
def failSave (f : SaveFailure) (s : State) : State :=
  post (.configSaveFailed f) { s with store := .idle, bus := { s.bus with eeprom := none } }

/-- A completed save (R190). -/
def endSave (s : State) : State := post .configSaved { s with store := .idle, dirty := false }

/-- A page of the load read (R181): the next page, or the load end with the image judged. -/
def loadPage (page : Nat) (buffer data : List Byte) (s : State) : State :=
  let bytes := buffer ++ data
  if page < lastPage then askEeprom (.pageRead (page + 1)) { s with store := .loading (page + 1) bytes }
  else powerOnLoadEnd (configOf (bytes.take imageLength)) s

/-- A page of a save read back (R190, steps 2 and 3). -/
def verifyPage (page : Nat) (image data : List Byte) (s : State) : State :=
  if data ≠ pageOf image page then failSave .mismatch s
  else if page < lastPage then writePage (page + 1) image s
  else endSave s

/-- A page read that completed (R181, R190). -/
def pageReadDone (data : List Byte) (s : State) : State :=
  match s.store with
  | .loading page buffer => loadPage page buffer data s
  | .saving page image .reading => verifyPage page image data s
  | _ => s

/-- A page write that completed: its polling begins (R17). -/
def pageWriteDone (s : State) : State :=
  match s.store with
  | .saving page image .writing => { s with store := .saving page image (.polling s.now (s.now + 1)) }
  | _ => s

/-- Whether an EEPROM transaction waits or is on the bus. -/
def eepromBusy (s : State) : Bool :=
  s.bus.eeprom.isSome ||
    match s.bus.current with
    | some c => c.txn == .eeprom
    | none => false

/-- The moment of the next acknowledge poll (R17; log entry 27). -/
def pollMoment (s : State) : State :=
  match s.store with
  | .saving page image (.polling written next) =>
      let s' : State := { s.reach next with store := .saving page image (.polling written (next + 1)) }
      if eepromBusy s' then s' else finish (askEeprom .ackPoll s')
  | _ => s

/-- A poll that ended with its stop (R17): acknowledged, the page write has completed and the page is read back. -/
def pollDone (acked : Bool) (s : State) : State :=
  match s.store with
  | .saving page image (.polling _ _) =>
      if acked then askEeprom (.pageRead page) { s with store := .saving page image .reading } else s
  | _ => s

/-- The polling of a page write out of time (R17, R190). -/
def pollExpired (s : State) : State :=
  match s.store with
  | .saving _ _ (.polling written _) =>
      finish (discardCurrent (fun t => t == .eeprom) (failSave .writeFailed (s.reach (written + pollLimit))))
  | _ => s

/-- A failed EEPROM transaction (R181, R190). -/
def eepromFailed (s : State) : State :=
  match s.store with
  | .loading _ _ => powerOnLoadEnd none s
  | .saving _ _ .reading => failSave .readFailed s
  | .saving _ _ _ => failSave .writeFailed s
  | .idle => s

end Sys2Proof.Machine
end

