-- ==== Sys2Proof/Machine/BusEvents.lean ====
section
/-! DEFINITION. The transactions that end on the contactor bus, the scanner's timers and EXP_ATTN. A completion that is
not the end of the transaction on the bus cannot occur and leaves the state as it is (log entry 1). -/

namespace Sys2Proof.Machine

/-- The end of the transaction on the bus: the bus is freed, the result is taken unless it is discarded, and what
follows follows (R6, R11, R184). -/
def endWith (free : State → State) (isIt : Current → Bool) (result : Current → State → State) (s : State) : State :=
  match s.bus.current with
  | some c => if isIt c then finish (afterTxn c (if c.discarded then free s else result c (free s))) else s
  | none => s

/-- A transaction that completed, or a poll that ended (R6). -/
def endTxn (isIt : Current → Bool) (result : Current → State → State) (s : State) : State := endWith freeBus isIt result s

/-- A transaction that failed: the controller recovers the bus before it frees it (R6). -/
def failTxn (isIt : Current → Bool) (result : Current → State → State) (s : State) : State :=
  endWith recoverBus isIt result s

/-! ## Sequences -/

/-- When the confirmation read of an expander that just became OK falls due: before adoption decides, one debounce
interval later (R183). -/
def confirmAfter (s : State) : Confirm := if s.phase = .starting then .due (s.now + s.cfg.debounce) else .none

/-- The state with an expander OK and its lines taken from an input word (R8, R16). -/
def becomeOk (e : Fin 8) (word : Half) (s : State) : State :=
  s.setExp e { health := .ok, lines := takeLines word, confirm := confirmAfter s }

/-- A step of an initialisation sequence completed (R8). -/
def initStepDone (word : Half) (c : Current) (s : State) : State :=
  match c.txn with
  | .seq .initReadback e _ => readBack e word s
  | .seq .initInput e _ => reportSensed (becomeOk e word s)
  | _ => s

/-- EXPANDER_INIT_TRANSACTION_COMPLETE (R8, R183). -/
def execExpanderInitTransactionComplete (word : Half) (s : State) : Result :=
  .next (endTxn (isSeq isInitStep) (initStepDone word) s)

/-- CONFIRMATION_READ_DUE (R183). -/
def execConfirmationReadDue (exp : Fin 8) (s : State) : Result :=
  .next (match (s.exp exp).confirm with
    | .due t =>
        let s' := s.reach t
        finish (enqueue [.seq .confirmInput exp false] (s'.setExp exp { s'.exp exp with confirm := .queued }))
    | _ => s)

/-- A confirmation read completed (R183). -/
def confirmDone (word : Half) (c : Current) (s : State) : State :=
  match c.txn with
  | .seq .confirmInput e _ => reportSensed (s.setExp e { s.exp e with lines := takeLines word, confirm := .done })
  | _ => s

/-- CONFIRMATION_READ_COMPLETE (R183). -/
def execConfirmationReadComplete (word : Half) (s : State) : Result :=
  .next (endTxn (isSeq (· == .confirmInput)) (confirmDone word) s)

/-- The points an expander's restore derives again, reported under R14, then EXPANDER_RESTORED, then the exits from HELD
(R16, R57). Every point of the expander is judged, its sensed state changed or not: one that does not agree posts
POINT_DISTURBED. DESIGN CHOICE (log entry 44): the points of the expander are those with a line on it, a point under drive
is left to the Transfer Engine, an unchanged point is reported to the services too, the points are judged in ascending
index, and the exits from HELD follow EXPANDER_RESTORED. -/
def restored (e : Fin 8) (s : State) : State :=
  let (s1, changed) := rederive s
  let judged := (List.finRange 32).filter fun i => changed.contains i || liesOn s.cfg.points e i
  autoExitAll (post (.expanderRestored e) (engineSensed changed (judgePoints judged s1)))

/-- A step of a restore sequence completed (R16). -/
def restoreStepDone (word : Half) (c : Current) (s : State) : State :=
  match c.txn, c.op with
  | .seq .restoreOutput e _, .readOutput => readBack e word s
  | .seq .restoreInput e _, _ => restored e (becomeOk e word s)
  | _, _ => s

/-- RESTORE_TRANSACTION_COMPLETE (R16). -/
def execRestoreTransactionComplete (word : Half) (s : State) : Result :=
  .next (endTxn (isSeq isRestoreStep) (restoreStepDone word) s)

/-- Whether a step is a rewrite a WRITE_POINT queued (R4). -/
def isRewriteStep : SeqStep → Bool
  | .rewriteDirection | .rewriteOutput => true
  | _ => false

/-- DIRECTION_OUTPUT_REWRITE_COMPLETE (R4): the exits from HELD follow the last of them (R57). -/
def execDirectionOutputRewriteComplete (s : State) : Result := .next (endTxn (isSeq isRewriteStep) (fun _ t => t) s)

/-! ## Scans and retries -/

/-- A scan read completed (R13, R14). -/
def scanDone (word : Half) (c : Current) (s : State) : State :=
  match c.txn with
  | .scan e => reportSensed (s.setExp e { s.exp e with lines := sampleLines s e word })
  | _ => s

/-- SCAN_READ_COMPLETE (R13). -/
def execScanReadComplete (word : Half) (s : State) : Result :=
  .next (endTxn (fun c => match c.txn with
    | .scan _ => true
    | _ => false) (scanDone word) s)

/-- A retry read completed: the restore sequence is queued (R16). -/
def retryDone (c : Current) (s : State) : State :=
  match c.txn with
  | .retry e => queueRestore e s
  | _ => s

/-- RETRY_READ_COMPLETE (R16); the word read is not used. -/
def execRetryReadComplete (_word : Half) (s : State) : Result :=
  .next (endTxn (fun c => match c.txn with
    | .retry _ => true
    | _ => false) retryDone s)

/-- The interval of the fast timer in milliseconds (R12). -/
def fastInterval : Nat := 4

/-- Whether the fast timer's condition holds: EXP_ATTN asserted or a line pending (R12). DESIGN CHOICE (log entry 57): a
pass's start arms the timer for one request, however long after its moment the condition first holds. -/
def fastWanted (s : State) : Bool := s.bus.scanner.on && s.bus.scanner.fastArmed && (s.expAttn || anyPending s)

/-- FAST_SCAN_TIMER (R12). -/
def execFastScanTimer (s : State) : Result :=
  .next (match s.bus.scanner.lastStart with
    | some t =>
        if fastWanted s then
          let s' := s.reach (t + fastInterval)
          finish (requestPass false (s'.setScanner { s'.bus.scanner with fastArmed := false }))
        else s
    | none => s)

/-- The interval of the periodic timer in milliseconds (R12). -/
def periodicInterval : Nat := 250

/-- PERIODIC_SCAN_TIMER (R12). -/
def execPeriodicScanTimer (s : State) : Result :=
  .next (match s.bus.scanner.periodicDue with
    | some t =>
        let s' := s.reach t
        finish (requestPass true (s'.setScanner { s'.bus.scanner with periodicDue := some (t + periodicInterval) }))
    | none => s)

/-- EXP_ATTN_ASSERTED (R12): a pass at once, or when the scanner starts. The pin is sampled from the load end. -/
def execExpAttnAsserted (s : State) : Result :=
  .next
    (if !loadEnded s || s.expAttn then s
     else
       let s' : State := { s with expAttn := true }
       if s'.bus.scanner.on then finish (requestPass false s')
       else s'.setScanner { s'.bus.scanner with attnHeld := true })

/-- EXP_ATTN_NEGATED (R12). -/
def execExpAttnNegated (s : State) : Result := .next (if loadEnded s then { s with expAttn := false } else s)

/-! ## Drive writes and failures -/

/-- A drive write completed (R87); the answer to a job that has ended is discarded (R101). -/
def driveDone (c : Current) (s : State) : State :=
  match c.txn with
  | .drive _ ts true => answerCompleted ts s
  | _ => s

/-- DRIVE_WRITE_COMPLETE (R87). -/
def execDriveWriteComplete (s : State) : Result :=
  .next (endTxn (fun c => match c.txn with
    | .drive .. => true
    | _ => false) driveDone s)

/-- A failed expander transaction (R15). -/
def expanderTxnFailed (c : Current) (s : State) : State :=
  match txnExp c.txn with
  | some e => expanderFailed c e s
  | none => s

/-- EXPANDER_TRANSACTION_FAILED (R15). -/
def execExpanderTransactionFailed (s : State) : Result :=
  .next (failTxn (fun c => (txnExp c.txn).isSome) expanderTxnFailed s)

/-- The time a transaction is given in milliseconds (R6). -/
def busLimit : Nat := 10

/-- A failed transaction of either kind (R6). -/
def txnFailed (c : Current) (s : State) : State :=
  match txnExp c.txn with
  | some e => expanderFailed c e s
  | none => eepromFailed s

/-- BUS_TRANSACTION_TIMEOUT (R6). -/
def execBusTransactionTimeout (s : State) : Result :=
  .next (match s.bus.current with
    | some c => failTxn (fun _ => true) txnFailed (s.reach (c.grantedAt + busLimit))
    | none => s)

/-! ## EEPROM -/

/-- Whether the transaction on the bus is a page read. -/
def isPageRead (c : Current) : Bool :=
  match c.op with
  | .pageRead _ => true
  | _ => false

/-- Whether the transaction on the bus is a page write. -/
def isPageWrite (c : Current) : Bool :=
  match c.op with
  | .pageWrite _ _ => true
  | _ => false

/-- EEPROM_PAGE_READ_COMPLETE (R181, R190). -/
def execEepromPageReadComplete (data : Vector Byte 32) (s : State) : Result :=
  .next (endTxn isPageRead (fun _ => pageReadDone data.toList) s)

/-- EEPROM_PAGE_WRITE_COMPLETE (R17). -/
def execEepromPageWriteComplete (s : State) : Result := .next (endTxn isPageWrite (fun _ => pageWriteDone) s)

/-- EEPROM_POLL_INTERVAL (R17). -/
def execEepromPollInterval (s : State) : Result := .next (pollMoment s)

/-- EEPROM_ACK_POLL_END (R17). -/
def execEepromAckPollEnd (acked : Bool) (s : State) : Result :=
  .next (endTxn (fun c => c.op == .ackPoll) (fun _ => pollDone acked) s)

/-- EEPROM_POLL_TIMEOUT (R17). -/
def execEepromPollTimeout (s : State) : Result := .next (pollExpired s)

/-- EEPROM_TRANSACTION_FAILED (R181, R190): a page read or a page write that was not acknowledged. A poll that is not
acknowledged is no failure (R6). -/
def execEepromTransactionFailed (s : State) : Result :=
  .next (failTxn (fun c => isPageRead c || isPageWrite c) (fun _ => eepromFailed) s)

end Sys2Proof.Machine
end

