-- ==== Sys2Proof/Machine/Clock.lean ====
section
/-! DEFINITION. The Calendar Clock: its steps and their firings (R148, R149, R157), the accepted TICK_IN edge (R150) and
the tick loss (R151). -/

namespace Sys2Proof.Machine

/-- One period of the second divider in milliseconds: 32768 cycles (R149). -/
def dividerPeriod : Nat := 1000

/-- The least time between two accepted TICK_IN edges in milliseconds (R150). -/
def edgeGap : Nat := 500

/-- A step judged for firing, with the formation it leads to (R157, R158). -/
def judgeStep (s : State) : State := if s.clock.time.second = 0 then finish (fireAll s) else s

/-- One step of the clock; held at the end of its range (R148). -/
def clockStep (s : State) : State :=
  if atRangeEnd s.clock.time then s
  else judgeStep { s with clock := { s.clock with time := nextSecond s.clock.time } }

/-- The divider's 32768 cycles completed (R149). -/
def dividerStep (s : State) : State :=
  let due := s.clock.dividerStart + dividerPeriod
  let s' := s.reach due
  clockStep { s' with clock := { s'.clock with dividerStart := due } }

/-- An accepted edge: TICK_IN active, the divider and the tick-loss timer started again, one step (R150, R151). -/
def tickEdge (s : State) : State :=
  let s' := s.reach (match s.clock.lastEdge with
    | some t => t + edgeGap
    | none => 0)
  clockStep { s' with clock :=
    { s'.clock with
      active := .tickIn, dividerStart := s'.now, lossDue := some (s'.now + lossLimit), lastEdge := some s'.now } }

/-- The TICK_IN source lost at a moment (R151). -/
def tickLost (due : Nat) (s : State) : State :=
  let s1 := s.reach due
  let s2 := clockStep (clockStep { s1 with clock := { s1.clock with active := .internal, lossDue := none } })
  post .timebaseLost { s2 with clock := { s2.clock with dividerStart := s2.now } }

end Sys2Proof.Machine
end

