-- ==== Sys2Proof/Machine/ClockEvents.lean ====
section
/-! DEFINITION. The clock's events: SECOND_DIVIDER_STEP, TICK_IN_EDGE_ACCEPTED, TICK_LOSS_TIMEOUT. No reset but a
power-on reaches them (R147). -/

namespace Sys2Proof.Machine

/-- SECOND_DIVIDER_STEP (R149): a step while the active source is INTERNAL. -/
def execSecondDividerStep (s : State) : Result :=
  .next (match s.clock.active with
    | .internal => dividerStep s
    | .tickIn => s)

/-- TICK_IN_EDGE_ACCEPTED (R150): while the selection is INTERNAL, the pin is not read. -/
def execTickInEdgeAccepted (s : State) : Result :=
  .next (match s.cfg.timebase with
    | .tickIn => tickEdge s
    | .internal => s)

/-- TICK_LOSS_TIMEOUT (R151). -/
def execTickLossTimeout (s : State) : Result :=
  .next (match s.clock.lossDue with
    | some t => tickLost t s
    | none => s)

end Sys2Proof.Machine
end

