-- ==== Sys2Proof/Machine/Interlocks.lean ====
section
/-! DEFINITION. The Interlock Inputs: samples, accepted levels, states and what a change of state is handed to (R20-R23,
R56, R57, R94). -/

namespace Sys2Proof.Machine

/-- The automatic exit tried for the services of a mask, A before B (R57). -/
def exitMask (m : Mask) (s : State) : State :=
  let s' := if effHas s m .a then autoExit .a s else s
  if effHas s' m .b then autoExit .b s' else s'

/-- A change of an interlock's state handed on (R21): to the Service Controller (R56, R57), A before B (log entry 47), then
to the Transfer Engine (R94; log entry 38). `left`: the state it left; `m`: the interlock's mask. -/
def handOn (k : Fin 4) (left : InterlockState) (m : Mask) (s : State) : State :=
  let now := (s.interlock k).state
  let s' :=
    if left = .closed ∧ now = .opened then interlockHold k .b (interlockHold k .a s)
    else if now = .closed then exitMask m s
    else s
  engineInterlock k s'

/-- An interlock moved to a state with its event, and the change handed on; nothing where the state stands. -/
def moveInterlock (k : Fin 4) (m : Mask) (to' : InterlockState) (s : State) : State :=
  let left := (s.interlock k).state
  if to' = left then s
  else
    let s1 := s.setInterlock k { s.interlock k with state := to' }
    let s2 := match to' with
      | .opened => post (.interlockOpened k left) s1
      | .closed => post (.interlockCleared k left) s1
      | .latched => s1
    handOn k left m s2

/-- The state an accepted level leads to (R21). -/
def nextInterlock (c : InterlockSettings) (st : InterlockState) (isOpen : Bool) : InterlockState :=
  match isOpen, st with
  | true, _ => .opened
  | false, .opened => if c.latched then .latched else .closed
  | false, .closed => .closed
  | false, .latched => .latched

/-- The first sample after a reset, accepted without debounce (R20). -/
def firstSample (k : Fin 4) (high : Bool) (s : State) : State :=
  match s.interlockRec k with
  | some c =>
      if loadEnded s && (s.interlock k).accepted.isNone then
        let s' := s.setInterlock k { s.interlock k with accepted := some high, debounce := none }
        finish (moveInterlock k c.mask (if pinOpen c high then .opened else (s.interlock k).state) s')
      else s
  | none => s

/-- The moment a pending debounce record has run for its interval. -/
def debounceEnd (d : Option Debounce) : Nat :=
  match d with
  | some d => d.start + d.interval
  | none => 0

/-- A new level accepted (R20, R21). -/
def acceptLevel (k : Fin 4) (high : Bool) (s : State) : State :=
  match s.interlockRec k with
  | some c =>
      let i := s.interlock k
      if loadEnded s && i.accepted == some (!high) then
        let s' := (s.reach (debounceEnd i.debounce)).setInterlock k { i with accepted := some high, debounce := none }
        finish (moveInterlock k c.mask (nextInterlock c i.state (pinOpen c high)) s')
      else s
  | none => s

/-- The debounce record after a sample (R13, R20). -/
def samplePin (now interval : Nat) (i : Interlock) (high : Bool) : Option Debounce :=
  if i.accepted = some high then none
  else match i.debounce with
    | some d => some d
    | none => some { candidate := high, start := now, interval := interval }

/-- A pin sampled at a new level (R20). -/
def pinChanged (k : Fin 4) (high : Bool) (s : State) : State :=
  let i := s.interlock k
  if loadEnded s && (s.interlockRec k).isSome && i.accepted.isSome then
    s.setInterlock k { i with debounce := samplePin s.now s.cfg.debounce i high }
  else s

/-- The state a WRITE_INTERLOCK sets from the fresh sample (R22). -/
def rewrittenState (c : InterlockSettings) (old : InterlockState) (isOpen : Bool) : InterlockState :=
  if isOpen then .opened else if old = .latched ∧ c.latched = true then .latched else .closed

/-- An accepted WRITE_INTERLOCK (R22): the settings replaced, the state set from a fresh sample, which counts
as the first sample after a reset where none was taken (log entry 50). An interlock made absent is handed on with the
mask it had (log entry 17). -/
def rewriteInterlock (k : Fin 4) (new : Option InterlockSettings) (high : Bool) (s : State) : State :=
  let old := s.interlockRec k
  let s1 : State := { s with cfg := { s.cfg with interlocks := s.cfg.interlocks.set k new }, dirty := true }
  match new with
  | some c =>
      let s2 := s1.setInterlock k { s.interlock k with accepted := some high, debounce := none }
      moveInterlock k c.mask (rewrittenState c (s.interlock k).state (pinOpen c high)) s2
  | none =>
      let s2 := s1.setInterlock k { s.interlock k with accepted := none, debounce := none }
      match old with
      | some c => moveInterlock k c.mask .closed s2
      | none => s2

/-- ACK_INTERLOCK of a LATCHED interlock (R23). -/
def acknowledge (k : Fin 4) (s : State) : State :=
  match s.interlockRec k with
  | some c => moveInterlock k c.mask .closed s
  | none => s

/-- A present interlock a code names (R23). -/
def presentInterlock (s : State) (index : Byte) : Option (Fin 4) :=
  match indexOf 4 index with
  | some k => if (s.interlockRec k).isSome then some k else none
  | none => none

/-- Whether a service is in the mask, as written, of an interlock a station port names; the check passes for an index
that names none (R23). -/
def ackAllowed (s : State) (x : Svc) (index : Byte) : Bool :=
  match presentInterlock s index with
  | some k =>
      match s.interlockRec k with
      | some c => maskHas c.mask x
      | none => true
  | none => true

end Sys2Proof.Machine
end

