-- ==== Sys2Proof/Machine/Operands.lean ====
section
/-! DEFINITION. The fields of the configuration writes read from their frames (R34, R172): the value to store with whether
any field was clamped, or none where a field is refused. -/

namespace Sys2Proof.Machine

/-! ## WRITE_PATTERN and TUNE_PATTERN (R34, R36) -/

/-- The switch map of a list of pairs: no point twice, every index and position in range (R33). -/
def mapOfPairs (pairs : List (Byte × Byte)) : Option (Vector (Option Pos) 32) := do
  let l ← pairs.mapM fun q => do
    let i ← indexOf 32 q.1
    let pos ← posOfCode q.2
    return (i, pos)
  keepIf (noRepeats (l.map Prod.fst)) (Vector.ofFn fun i => (l.find? fun q => q.1 == i).map Prod.snd)

/-- A tower entry of a frame (R34); undefined flag bits are not judged (log entry 13). -/
def towerOfFrame (t : TowerFrame) : Option (Option TowerEntry) := towerOf t.flags t.ratio t.phase t.ratioTol t.phaseTol

/-- The verify window clamped (R34). -/
def clampWindow (b : Byte) : Nat := clampTo 2 120 1 b.toNat

/-- The persistence count clamped (R34). -/
def clampPersistence (b : Byte) : Nat := clampTo 1 15 1 b.toNat

/-- A pattern record from WRITE_PATTERN's long form (R34). -/
def patternOfFrame (f : PatternFrame) : Option (Pattern × Bool) := do
  let label ← allPresent 8 fun k => labelChar f.label[k]
  let ref ← indexOf 12 f.refTower
  let policy ← policyOfCode f.fallback
  let towers ← allPresent 12 fun k => towerOfFrame f.towers[k]
  let map ← mapOfPairs f.pairs
  keepIf (within 1 10000 f.power.toNat && within 10 90 f.cutback.toNat)
    ({ label := label, power := f.power.toNat, cutback := f.cutback.toNat, refTower := ref,
       window := clampWindow f.window, persistence := clampPersistence f.persistence, policy := policy,
       towers := towers, map := map },
     clampWindow f.window != f.window.toNat || clampPersistence f.persistence != f.persistence.toNat)

/-- The tunable fields of one tower of a TUNE_PATTERN (R36). -/
structure Tuning where
  tower    : Fin 12
  ratioTol : Nat
  phaseTol : Nat
  ratioEnf : Enforcement
  phaseEnf : Enforcement

/-- A tower item of TUNE_PATTERN read (R36, R34). -/
def tuningOf (t : TuneItem) : Option Tuning := do
  let i ← indexOf 12 t.tower
  let re ← enforcementOfCode t.ratioEnf
  let pe ← enforcementOfCode t.phaseEnf
  keepIf (within 1 500 t.ratioTol.toNat && within 1 900 t.phaseTol.toNat)
    { tower := i, ratioTol := t.ratioTol.toNat, phaseTol := t.phaseTol.toNat, ratioEnf := re, phaseEnf := pe }

/-- A tower entry with the fields a tuning names for it (R36). -/
def tuneTower (ts : List Tuning) (i : Fin 12) (t : TowerEntry) : TowerEntry :=
  match ts.find? fun u => u.tower == i with
  | some u =>
      { t with ratioTol := u.ratioTol, phaseTol := u.phaseTol, ratioEnf := u.ratioEnf, phaseEnf := u.phaseEnf }
  | none => t

/-- A pattern tuned, with whether a field was clamped (R36). -/
def tunedPattern (p : Pattern) (cutback window persistence : Byte) (items : List TuneItem) :
    Option (Pattern × Bool) := do
  let ts ← items.mapM tuningOf
  keepIf
    (noRepeats (ts.map Tuning.tower) && ts.all (fun u => (p.towers[u.tower]).isSome) && within 10 90 cutback.toNat)
    ({ p with
       cutback := cutback.toNat
       window := clampWindow window
       persistence := clampPersistence persistence
       towers := Vector.ofFn fun i => (p.towers[i]).map (tuneTower ts i) },
     clampWindow window != window.toNat || clampPersistence persistence != persistence.toNat)

/-! ## WRITE_SCHEDULE_ROW (R155) -/

/-- A month row from its entries (R154, R155). -/
def rowOfEntries (entries : List (Half × Byte)) : Option (List RowEntry) := do
  let row ← entries.mapM fun e => (indexOf 4 e.2).map fun k => ({ minute := e.1.toNat, slot := k } : RowEntry)
  keepIf (rowValid row) row

/-- A month's place in the year, January first. -/
def monthOf (b : Byte) : Option (Fin 12) := if b.toNat = 0 then none else indexOf 12 (b - 1)

/-! ## WRITE_POINT (R3, R5) -/

/-- A line from its expander and line bytes. -/
def lineOf (e n : Byte) : Option Line :=
  match indexOf 8 e, indexOf 16 n with
  | some e, some n => some ⟨e, n⟩
  | _, _ => none

/-- The transit limit clamped (R3). -/
def clampTransit (h : Half) : Nat := clampTo 50 2000 10 h.toNat

/-- A switch point record from WRITE_POINT's long form (R3). -/
def pointOfFrame (f : PointFrame) : Option (PointRec × Bool) := do
  let drive ← lineOf f.driveExp f.driveLine
  let sense1 ← lineOf f.sense1Exp f.sense1Line
  let sense2 ← lineOf f.sense2Exp f.sense2Line
  let hot ← maskOfCode f.hot
  let stage ← indexOf 4 f.stage
  return ({ drive := drive, sense1 := sense1, sense2 := sense2, hot := hot, stage := stage,
            transit := clampTransit f.transit }, clampTransit f.transit != f.transit.toNat)

/-- What WRITE_POINT installs: nothing for the absent marker (R3). -/
def pointOperand : Option PointFrame → Option (Option PointRec × Bool)
  | none => some (none, false)
  | some f => (pointOfFrame f).map fun q => (some q.1, q.2)

/-- The debounce interval clamped (R5). -/
def clampDebounce (h : Half) : Nat := clampTo 4 64 4 h.toNat

/-- The site bus record of WRITE_POINT with index 32: base, speed, debounce interval (R5). -/
def siteBusOf (base speed : Byte) (debounce : Half) : Option (Nat × BusSpeed × Nat) := do
  let sp ← speedOfCode speed
  keepIf (baseValid base.toNat) (base.toNat, sp, clampDebounce debounce)

/-! ## WRITE_INTERLOCK (R19), WRITE_SERVICE_SETTINGS (R61), SET_CLOCK (R152) -/

/-- The settings of WRITE_INTERLOCK; the other fields of an absent interlock are not judged (R172). -/
def interlockOfFrame (f : InterlockFrame) : Option (Option InterlockSettings) := do
  let pres ← flagOfCode f.present
  if !pres then return none
  let mask ← maskOfCode f.mask
  let motion ← flagOfCode f.motionInhibit
  let latched ← flagOfCode f.clearing
  let high ← flagOfCode f.active
  return some { mask := mask, motionInhibit := motion, latched := latched, activeHigh := high }

/-- The settings of WRITE_SERVICE_SETTINGS, with whether a field was clamped (R61). -/
def settingsOfFrame (f : SettingsFrame) : Option (ServiceSettings × Bool) := do
  let mode ← modeOfCode f.initialMode
  let conf ← muteConfirmOfCode f.muteConfirm
  let baud ← baudOfCode f.baud
  let settle := clampTo 50 1000 10 f.settle.toNat
  let mute := clampTo 100 5000 100 f.muteTimeout.toNat
  let stale := clampTo 2 60 1 f.stale.toNat
  keepIf (within 1 65535 f.minRef.toNat)
    ({ initialMode := mode, muteConfirm := conf, settle := settle, muteTimeout := mute, stale := stale, baud := baud,
       minRef := f.minRef.toNat },
     settle != f.settle.toNat || mute != f.muteTimeout.toNat || stale != f.stale.toNat)

/-- A date and time as SET_CLOCK carries it. -/
def dateOfFrame (d : DateFrame) : DateTime :=
  { year := d.year.toNat, month := d.month.toNat, day := d.day.toNat, hour := d.hour.toNat, minute := d.minute.toNat,
    second := d.second.toNat }

/-- SET_CLOCK's fields: the selection, and a valid date and time or the keep marker (R152). -/
def clockOperand (timebase : Byte) (date : Option DateFrame) : Option (Timebase × Option DateTime) := do
  let tb ← timebaseOfCode timebase
  match date with
  | none => return (tb, none)
  | some d => keepIf (dateValid (dateOfFrame d)) (tb, some (dateOfFrame d))

end Sys2Proof.Machine
end

