-- ==== Sys2Proof/Machine/ConfigWrites.lean ====
section
/-! DEFINITION. The configuration writes: WRITE_PATTERN, TUNE_PATTERN, WRITE_SCHEDULE_ROW, WRITE_POINT,
WRITE_SITE_BUS_RECORD, WRITE_INTERLOCK, WRITE_SERVICE_SETTINGS, WRITE_ROUTE, SET_CLOCK. -/

namespace Sys2Proof.Machine

/-! ## Pattern slots -/

/-- The configuration with a slot's contents replaced. -/
def ConfigRam.setPattern (c : ConfigRam) (x : Svc) (k : Fin 4) (p : Option Pattern) : ConfigRam :=
  { c with patterns := c.patterns.set x ((c.patterns.get x).set k p) }

/-- What WRITE_PATTERN installs: nothing for the empty marker (R33). -/
def patternOperand : Option PatternFrame → Option (Option Pattern × Bool)
  | none => some (none, false)
  | some f => (patternOfFrame f).map fun q => (some q.1, q.2)

/-- Whether every point a pattern to be installed lists is present (R33, check 8). -/
def listsPresent (s : State) : Option Pattern → Bool
  | some p => patternValid s p
  | none => true

/-- WRITE_PATTERN judged for a present service (R33, R35). -/
def answerWritePattern (slot : Byte) (body : Option PatternFrame) (s : State) (x : Svc) : Answer :=
  whileUnsaved s <| inRange (indexOf 4 slot) s fun k =>
    if slotInUse s x k then refuse .inUse s
    else inRange (patternOperand body) s fun q =>
      if listsPresent s q.1 then taken (clampStatus q.2) (s.writeCfg (s.cfg.setPattern x k q.1))
      else refuse .badField s

/-- WRITE_PATTERN (R33). -/
def execWritePattern (port : PortId) (tag svc slot : Byte) (body : Option PatternFrame) (s : State) : Result :=
  .next (request port tag (frameLength (.writePattern port tag svc slot body))
    (fun t => forOwnService port svc t (answerWritePattern slot body t)) s)

/-- A tuned pattern stored, and the ceiling of the service that has it in force computed again (R36, R39). -/
def storeTuned (x : Svc) (k : Fin 4) (p : Pattern) (s : State) : State :=
  let s' := s.writeCfg (s.cfg.setPattern x k (some p))
  if (s'.svc x).inForce = some k then outputs x s' else s'

/-- TUNE_PATTERN judged for a present service (R36). -/
def answerTunePattern (slot cutback window persistence : Byte) (items : List TuneItem) (s : State) (x : Svc) :
    Answer :=
  whileUnsaved s <| inRange (indexOf 4 slot) s fun k =>
    match s.pattern x k with
    | none => refuse .patternEmpty s
    | some p => inRange (tunedPattern p cutback window persistence items) s fun q =>
        taken (clampStatus q.2) (storeTuned x k q.1 s)

/-- TUNE_PATTERN (R36). -/
def execTunePattern (port : PortId) (tag svc slot cutback window persistence : Byte) (items : List TuneItem)
    (s : State) : Result :=
  .next (request port tag (frameLength (.tunePattern port tag svc slot cutback window persistence items))
    (fun t => forOwnService port svc t (answerTunePattern slot cutback window persistence items t)) s)

/-! ## Schedule rows -/

/-- The configuration with a month row replaced. -/
def ConfigRam.setRow (c : ConfigRam) (x : Svc) (month : Fin 12) (row : List RowEntry) : ConfigRam :=
  { c with rows := c.rows.set x ((c.rows.get x).set month row) }

/-- WRITE_SCHEDULE_ROW judged for a present service (R155). -/
def answerWriteScheduleRow (month : Byte) (entries : List (Half × Byte)) (s : State) (x : Svc) : Answer :=
  whileUnsaved s <| inRange (monthOf month) s fun m =>
    inRange (rowOfEntries entries) s fun row => taken .ok (s.writeCfg (s.cfg.setRow x m row))

/-- WRITE_SCHEDULE_ROW (R155). -/
def execWriteScheduleRow (port : PortId) (tag svc month : Byte) (entries : List (Half × Byte)) (s : State) : Result :=
  .next (request port tag (frameLength (.writeScheduleRow port tag svc month entries))
    (fun t => forOwnService port svc t (answerWriteScheduleRow month entries t)) s)

/-! ## Switch points (R3, R4) -/

/-- A site map or interlock write while the site is not live (R3, R19). -/
def whileQuiet (s : State) (body : Answer) : Answer := if siteLive s then refuse .siteLive s else body

/-- Whether a record to be installed keeps the line rule (R2). -/
def lineRuleKept (points : Vector (Option PointRec) 32) (i : Fin 32) : Option PointRec → Bool
  | some r =>
      noRepeats (recLines r) && (recLines r).all fun l => !(mapLines (points.set i none)).contains l
  | none => true

/-- Whether a write leaves a point's drive line unchanged (R4). -/
def sameDrive : Option PointRec → Option PointRec → Bool
  | some o, some n => o.drive == n.drive
  | _, _ => false

/-- The commanded position of a written point (R4). -/
def writtenCommand (s : State) (i : Fin 32) (new : Option PointRec) : Option Pos :=
  if sameDrive (s.pointRec i) new then (s.point i).commanded
  else
    match new with
    | some r => if inUse s.cfg.points r.drive.exp then some .one else none
    | none => none

/-- An expander the write takes out of use (R4, step 2). `old`: the map before the write. -/
def dropUnused (old : Vector (Option PointRec) 32) (s : State) (e : Fin 8) : State :=
  if inUse old e && !inUse s.cfg.points e then toUnused e s else s

/-- An expander the write takes into use (R4, step 3). -/
def startNewlyUsed (old : Vector (Option PointRec) 32) (s : State) (e : Fin 8) : State :=
  if !inUse old e && inUse s.cfg.points e then queueInit true e s else s

/-- Whether a write changes an expander's set of drive lines (R4). -/
def driveLinesChange (old new : Vector (Option PointRec) 32) (e : Fin 8) : Bool :=
  (List.finRange 16).any fun n => isDriveLine old e n != isDriveLine new e n

/-- An expander that stays in use with other drive lines (R4, step 4). -/
def rewriteChanged (old : Vector (Option PointRec) 32) (s : State) (e : Fin 8) : State :=
  if inUse old e && inUse s.cfg.points e && driveLinesChange old s.cfg.points e then queueRewrite e s else s

/-- The bus side of a write of the site map (R4, steps 2 to 4, in their order, each in ascending expander index). -/
def followMap (old : Vector (Option PointRec) 32) (s : State) : State :=
  let s2 := (List.finRange 8).foldl (dropUnused old) s
  let s3 := (List.finRange 8).foldl (startNewlyUsed old) s2
  (List.finRange 8).foldl (rewriteChanged old) s3

/-- The runtime state of a written point: its sensed state derived at once, and judged as though it had changed (R4). -/
def judgeWritten (i : Fin 32) (s : State) : State :=
  match s.pointRec i with
  | some r => judgePoint (s.setPoint i { s.point i with sensed := deriveSensed s r }) i
  | none => s

/-- An accepted WRITE_POINT (R3, R4). -/
def installPoint (i : Fin 32) (new : Option PointRec) (s : State) : State :=
  let commanded := writtenCommand s i new
  let s1 := s.writeCfg { s.cfg with points := s.cfg.points.set i new }
  let s2 := s1.setPoint i { PointState.reset with commanded := commanded }
  let s3 := followMap s.cfg.points s2
  autoExitAll (judgeWritten i s3)

/-- WRITE_POINT past its permission check (R3). -/
def answerWritePoint (index : Byte) (body : Option PointFrame) (s : State) : Answer :=
  whileUnsaved s <| whileQuiet s <| inRange (indexOf 32 index) s fun i =>
    inRange (pointOperand body) s fun q =>
      if lineRuleKept s.cfg.points i q.1 then takenThen (clampStatus q.2) (installPoint i q.1 s)
      else refuse .lineConflict s

/-- WRITE_POINT (R3). -/
def execWritePoint (port : PortId) (tag index : Byte) (body : Option PointFrame) (s : State) : Result :=
  .next (request port tag (frameLength (.writePoint port tag index body))
    (fun t => fromSite port t (answerWritePoint index body t)) s)

/-! ## The site bus record (R5) -/

/-- An in-use expander started again at a new address (R5). -/
def restartExpander (s : State) (e : Fin 8) : State :=
  if inUse s.cfg.points e then queueInit false e (toUnused e s) else s

/-- A new base: every in-use expander is UNUSED, its sensed states are UNKNOWN, and its initialisation starts (R5). -/
def rebase (s : State) : State := reportSensed ((List.finRange 8).foldl restartExpander s)

/-- An accepted site bus record (R5). -/
def installSiteBus (base : Nat) (speed : BusSpeed) (debounce : Nat) (s : State) : State :=
  let s' := s.writeCfg { s.cfg with base := base, speed := speed, debounce := debounce }
  autoExitAll (if base = s.cfg.base then s' else rebase s')

/-- WRITE_SITE_BUS_RECORD past its permission check (R3, R5). -/
def answerWriteSiteBus (base speed : Byte) (debounce : Half) (s : State) : Answer :=
  whileUnsaved s <| whileQuiet s <| inRange (siteBusOf base speed debounce) s fun q =>
    takenThen (clampStatus (clampDebounce debounce != debounce.toNat)) (installSiteBus q.1 q.2.1 q.2.2 s)

/-- WRITE_SITE_BUS_RECORD (R5). -/
def execWriteSiteBusRecord (port : PortId) (tag base speed : Byte) (debounce : Half) (s : State) : Result :=
  .next (request port tag (frameLength (.writeSiteBusRecord port tag base speed debounce))
    (fun t => fromSite port t (answerWriteSiteBus base speed debounce t)) s)

/-! ## Interlocks, settings, routes -/

/-- WRITE_INTERLOCK past its permission check (R19, R22). -/
def answerWriteInterlock (index : Byte) (body : InterlockFrame) (pin : Bool) (s : State) : Answer :=
  whileUnsaved s <| whileQuiet s <| inRange (indexOf 4 index) s fun k =>
    inRange (interlockOfFrame body) s fun new => takenThen .ok (rewriteInterlock k new pin s)

/-- WRITE_INTERLOCK (R19, R22). -/
def execWriteInterlock (port : PortId) (tag index : Byte) (body : InterlockFrame) (pin : Bool) (s : State) : Result :=
  .next (request port tag (frameLength (.writeInterlock port tag index body pin))
    (fun t => fromSite port t (answerWriteInterlock index body pin t)) s)

/-- Settings stored; a new baud rate restarts the monitor receiver (R61, R111). -/
def storeSettings (x : Svc) (new : ServiceSettings) (s : State) : State :=
  let s' := s.writeCfg { s.cfg with settings := s.cfg.settings.set x new }
  if new.baud = (s.settings x).baud then s' else s'.setReceiver x (hunt (s'.receiver x))

/-- WRITE_SERVICE_SETTINGS judged for a present service (R61). -/
def answerWriteServiceSettings (body : SettingsFrame) (s : State) (x : Svc) : Answer :=
  whileUnsaved s <| inRange (settingsOfFrame body) s fun q => taken (clampStatus q.2) (storeSettings x q.1 s)

/-- WRITE_SERVICE_SETTINGS (R61). -/
def execWriteServiceSettings (port : PortId) (tag svc : Byte) (body : SettingsFrame) (s : State) : Result :=
  .next (request port tag (frameLength (.writeServiceSettings port tag svc body))
    (fun t => forOwnService port svc t (answerWriteServiceSettings body t)) s)

/-- An event kind's place in the routing table. -/
def kindOf (b : Byte) : Option (Fin 32) := if b.toNat = 0 then none else indexOf 32 (b - 1)

/-- WRITE_ROUTE past its permission check (R176). -/
def answerWriteRoute (kind ports : Byte) (s : State) : Answer :=
  whileUnsaved s <| inRange (kindOf kind) s fun n => inRange (portSetOfCode ports) s fun p =>
    taken .ok (s.writeCfg { s.cfg with routes := s.cfg.routes.set n p })

/-- WRITE_ROUTE (R176). -/
def execWriteRoute (port : PortId) (tag kind ports : Byte) (s : State) : Result :=
  .next (request port tag (frameLength (.writeRoute port tag kind ports))
    (fun t => fromSite port t (answerWriteRoute kind ports t)) s)

/-! ## SET_CLOCK (R152) -/

/-- The timebase selection given a value (R152, step 1). -/
def selectTimebase (tb : Timebase) (s : State) : State :=
  let s' : State := { s with cfg := { s.cfg with timebase := tb } }
  if tb = s.cfg.timebase then s'
  else match tb with
    | .internal => startInternal s'
    | .tickIn => startTickIn s'

/-- The date and time set, with CLOCK_SET and the derivations (R152, steps 2 and 3). -/
def setTime (d : DateTime) (s : State) : State :=
  let s' : State := { s with clock := { s.clock with time := d, isSet := true, dividerStart := s.now } }
  deriveAll (post (.clockSet s'.cfg.timebase) s')

/-- An accepted SET_CLOCK (R152). -/
def applyClock (tb : Timebase) (date : Option DateTime) (s : State) : State :=
  let s1 := selectTimebase tb s
  let s2 := match date with
    | some d => setTime d s1
    | none => s1
  { s2 with dirty := true }

/-- SET_CLOCK past its permission check (R152). -/
def answerSetClock (timebase : Byte) (date : Option DateFrame) (s : State) : Answer :=
  whileUnsaved s <| inRange (clockOperand timebase date) s fun q => takenThen .ok (applyClock q.1 q.2 s)

/-- SET_CLOCK (R152). -/
def execSetClock (port : PortId) (tag timebase : Byte) (date : Option DateFrame) (s : State) : Result :=
  .next (request port tag (frameLength (.setClock port tag timebase date))
    (fun t => fromSite port t (answerSetClock timebase date t)) s)

end Sys2Proof.Machine
end

