-- ==== Sys2Proof/Machine/EngineTimers.lean ====
section
/-! DEFINITION. The Transfer Engine's timers: SETTLE_DELAY_EXPIRY, MUTE_TIMEOUT, TRANSIT_LIMIT_EXPIRY. -/

namespace Sys2Proof.Machine

/-- A settle delay run out (R82). -/
def settleExpired (x : Svc) (s : State) : State :=
  match s.job with
  | some j =>
      match j.phase, j.settle.get x with
      | .muting, some (.delay due) => finish (settleSvc j x (s.reach due))
      | _, _ => s
  | none => s

/-- SETTLE_DELAY_EXPIRY (R82). -/
def execSettleDelayExpiry (svc : Svc) (s : State) : Result := .next (settleExpired svc s)

/-- A mute timeout run out: the job is cancelled (R85). -/
def muteExpired (x : Svc) (s : State) : State :=
  match s.job with
  | some j =>
      match j.phase, j.settle.get x with
      | .muting, some (.confirm due) => finish (cancelJob j (.muteTimeout x) (s.reach due))
      | _, _ => s
  | none => s

/-- MUTE_TIMEOUT (R85). -/
def execMuteTimeout (svc : Svc) (s : State) : Result := .next (muteExpired svc s)

/-- The job with a point's limit spent. -/
def spendTimer (j : Job) (i : Fin 32) : Job :=
  { j with moves := j.moves.map fun m => if m.point = i then { m with timer := .spent } else m }

/-- A transit limit run out in TRANSFER (R89). -/
def forwardExpired (j : Job) (m : Move) (s : State) : State :=
  if sensedAt (s.point m.point).sensed m.toPos then s else transferFault j m.point .noArrival s

/-- A transit limit run out in ROLLBACK (R99). -/
def backwardExpired (j : Job) (m : Move) (s : State) : State :=
  if sensedAt (s.point m.point).sensed (backPos m) then s
  else if (s.point m.point).sensed = .conflict then rollbackFailed j m.point .conflict s
  else rollbackFailed j m.point .noArrival s

/-- A transit limit run out, by the phase of the job (R89, R99). -/
def limitExpired (j : Job) (m : Move) (s : State) : State :=
  match j.phase with
  | .transfer => forwardExpired j m s
  | .rollback => backwardExpired j m s
  | _ => s

/-- The moment a point timer runs out, while it runs. -/
def timerDue : PointTimer → Option Nat
  | .running due => some due
  | .off | .spent => none

/-- A point's transit limit run out (R89, R99). -/
def transitExpired (i : Fin 32) (s : State) : State :=
  match s.job with
  | some j =>
      match j.moves.find? fun m => m.point == i with
      | some m =>
          match timerDue m.timer with
          | some due =>
              let j' := spendTimer j i
              finish (limitExpired j' m ((s.reach due).setJob j'))
          | none => s
      | none => s
  | none => s

/-- TRANSIT_LIMIT_EXPIRY (R89, R99). -/
def execTransitLimitExpiry (point : Fin 32) (s : State) : Result := .next (transitExpired point s)

end Sys2Proof.Machine
end

