-- ==== Sys2Proof/Machine/MonitorEvents.lean ====
section
/-! DEFINITION. The monitor lines and the verify window: MONITOR_BYTE_RECEIVED, MONITOR_FRAMING_ERROR, GAP_TIMER_EXPIRY,
STALENESS_TIMER_EXPIRY, VERIFY_WINDOW_EXPIRY. -/

namespace Sys2Proof.Machine

/-- MONITOR_BYTE_RECEIVED (R108, R109). -/
def execMonitorByteReceived (svc : Svc) (byte : Byte) (s : State) : Result :=
  .next (if (s.receiver svc).started then takeByte svc byte s else s)

/-- MONITOR_FRAMING_ERROR (R108). -/
def execMonitorFramingError (svc : Svc) (s : State) : Result :=
  .next (if (s.receiver svc).started then takeFramingError svc s else s)

/-- GAP_TIMER_EXPIRY (R110): the partial frame is gone, the frame-error flag as it stands. -/
def execGapTimerExpiry (svc : Svc) (s : State) : Result :=
  .next (match (s.receiver svc).gapDue with
    | some t => (s.reach t).setReceiver svc (hunt (s.receiver svc))
    | none => s)

/-- STALENESS_TIMER_EXPIRY (R112). -/
def execStalenessTimerExpiry (svc : Svc) (s : State) : Result :=
  .next (match (s.receiver svc).staleDue with
    | some t => lineStale svc (s.reach t)
    | none => s)

/-- An open verify window run out (R133). -/
def verifyExpired (x : Svc) (s : State) : State :=
  match (s.table x).window, inForcePattern s x with
  | some w, some p =>
      if (s.svc x).state = .verifying then finish (windowExpired x p (closeWindow x (s.reach w.expiry))) else s
  | _, _ => s

/-- VERIFY_WINDOW_EXPIRY (R133). -/
def execVerifyWindowExpiry (svc : Svc) (s : State) : Result := .next (verifyExpired svc s)

end Sys2Proof.Machine
end

