-- ==== Sys2Proof/Machine/PinEvents.lean ====
section
/-! DEFINITION. The pins: INTERLOCK_FIRST_SAMPLE, INTERLOCK_PIN_LEVEL_CHANGE, INTERLOCK_LEVEL_ACCEPTED, RFDOWN_ACCEPTED,
RFDOWN_NEGATED. -/

namespace Sys2Proof.Machine

/-- INTERLOCK_FIRST_SAMPLE (R20). -/
def execInterlockFirstSample (ilk : Fin 4) (high : Bool) (s : State) : Result := .next (firstSample ilk high s)

/-- INTERLOCK_PIN_LEVEL_CHANGE (R20). -/
def execInterlockPinLevelChange (ilk : Fin 4) (high : Bool) (s : State) : Result := .next (pinChanged ilk high s)

/-- INTERLOCK_LEVEL_ACCEPTED (R21). -/
def execInterlockLevelAccepted (ilk : Fin 4) (high : Bool) (s : State) : Result := .next (acceptLevel ilk high s)

/-- Whether RFDOWN_x is sampled: from the load end, for a present service (R81, R83). -/
def rfdownSampled (s : State) (x : Svc) : Bool := loadEnded s && present s x

/-- A service whose settle waits for RFDOWN_x settled by its acceptance (R83). -/
def confirmSettled (x : Svc) (s : State) : State :=
  match s.job with
  | some j =>
      match j.phase, j.settle.get x with
      | .muting, some (.confirm _) => finish (settleSvc j x s)
      | _, _ => s
  | none => s

/-- RFDOWN_ACCEPTED (R83). -/
def execRfdownAccepted (svc : Svc) (s : State) : Result :=
  .next (if rfdownSampled s svc then confirmSettled svc { s with rfdown := s.rfdown.set svc true } else s)

/-- RFDOWN_NEGATED (R83). -/
def execRfdownNegated (svc : Svc) (s : State) : Result :=
  .next (if rfdownSampled s svc then { s with rfdown := s.rfdown.set svc false } else s)

end Sys2Proof.Machine
end

