-- ==== Sys2Proof/Machine/Requests.lean ====
section
/-! DEFINITION. The requests that act on services and interlocks: REQUEST_PATTERN, ABORT_CHANGE, RESUME_SERVICE,
SET_MODE, ACK_INTERLOCK. -/

namespace Sys2Proof.Machine

/-- The source of a request made on a port (R63). -/
def portSource : PortId → Source
  | .a => .portA
  | .b => .portB
  | .site => .portSite

/-- The request a port makes (R63, R64). -/
def portRequest (port : PortId) (tag : Byte) (k : Fin 4) : Request :=
  { target := k, source := portSource port, tag := tag, revert := false }

/-- REQUEST_PATTERN judged for a present service (R65). -/
def answerRequestPattern (port : PortId) (tag slot : Byte) (s : State) (x : Svc) : Answer :=
  inRange (indexOf 4 slot) s fun k =>
    if (s.pattern x k).isNone then refuse .patternEmpty s
    else if inForceOnAir s x k then refuse .alreadyInForce s
    else takenThen .queued (storeRequest x (portRequest port tag k) s)

/-- REQUEST_PATTERN (R65, R66). -/
def execRequestPattern (port : PortId) (tag svc slot : Byte) (s : State) : Result :=
  .next (request port tag (frameLength (.requestPattern port tag svc slot))
    (fun t => forOwnService port svc t (answerRequestPattern port tag slot t)) s)

/-- ABORT_CHANGE of a pending request, or of nothing (R68). -/
def answerWithdraw (s : State) (x : Svc) : Answer :=
  if (s.svc x).request.isSome then takenThen .ok (dropRequest x .aborted s) else refuse .state s

/-- ABORT_CHANGE judged for a present service (R68, R95). -/
def answerAbortChange (s : State) (x : Svc) : Answer :=
  match s.job with
  | some j =>
      if isChanging j x then
        match abortJob j s with
        | some s' => takenThen .ok s'
        | none => refuse .notAbortable s
      else answerWithdraw s x
  | none => answerWithdraw s x

/-- ABORT_CHANGE (R68, R95). -/
def execAbortChange (port : PortId) (tag svc : Byte) (s : State) : Result :=
  .next (request port tag (frameLength (.abortChange port tag svc))
    (fun t => forOwnService port svc t (answerAbortChange t)) s)

/-- RESUME_SERVICE judged for a present service (R59). -/
def answerResumeService (s : State) (x : Svc) : Answer :=
  if (s.svc x).state = .held ∧ entryCheck s x = .pass then takenThen .ok (enterVerifying x s) else refuse .state s

/-- RESUME_SERVICE (R59). -/
def execResumeService (port : PortId) (tag svc : Byte) (s : State) : Result :=
  .next (request port tag (frameLength (.resumeService port tag svc))
    (fun t => forOwnService port svc t (answerResumeService t)) s)

/-- A service's mode changed (R60). -/
def changeMode (x : Svc) (m : Mode) (s : State) : State :=
  let s' := post (.modeChanged x m) (s.setSvc x { s.svc x with mode := m })
  match m with
  | .auto => deriveOne x s'
  | .manual => s'

/-- SET_MODE judged for a present service (R60). -/
def answerSetMode (mode : Byte) (s : State) (x : Svc) : Answer :=
  inRange (modeOfCode mode) s fun m =>
    if (s.svc x).mode = m then taken .ok s else takenThen .ok (changeMode x m s)

/-- SET_MODE (R60). -/
def execSetMode (port : PortId) (tag svc mode : Byte) (s : State) : Result :=
  .next (request port tag (frameLength (.setMode port tag svc mode))
    (fun t => forOwnService port svc t (answerSetMode mode t)) s)

/-- ACK_INTERLOCK past its permission check (R23, checks 2 and 3). -/
def ackIndex (index : Byte) (s : State) : Answer :=
  inRange (presentInterlock s index) s fun k =>
    if (s.interlock k).state = .latched then takenThen .ok (acknowledge k s) else refuse .state s

/-- ACK_INTERLOCK judged on the port it arrived on (R23, R169). -/
def answerAckInterlock (port : PortId) (index : Byte) (s : State) : Answer :=
  match portService port with
  | none => ackIndex index s
  | some x =>
      if !ackAllowed s x index then refuse .notPermitted s
      else if !present s x then refuse .noService s
      else ackIndex index s

/-- ACK_INTERLOCK (R23). -/
def execAckInterlock (port : PortId) (tag index : Byte) (s : State) : Result :=
  .next (request port tag (frameLength (.ackInterlock port tag index)) (answerAckInterlock port index) s)

end Sys2Proof.Machine
end

