-- ==== Sys2Proof/Machine/SystemRequests.lean ====
section
/-! DEFINITION. SAVE_CONFIG, RESET_PART and the resets: POWER_ON_RESET, RESET_N_ASSERTED, RESET_N_RELEASED. -/

namespace Sys2Proof.Machine

/-- SAVE_CONFIG past its permission check (R189). -/
def answerSaveConfig (s : State) : Answer := whileUnsaved s (takenThen .ok (beginSave s))

/-- SAVE_CONFIG (R189). -/
def execSaveConfig (port : PortId) (tag : Byte) (s : State) : Result :=
  .next (request port tag (frameLength (.saveConfig port tag)) (fun t => fromSite port t (answerSaveConfig t)) s)

/-- RESET_PART past its permission check: the warm reset and its start-up in the event of arrival (R185). -/
def answerResetPart (svcs : Bool) (s : State) : Answer := takenThen .ok (startAfterReset svcs (warmReset s))

/-- RESET_PART (R185). -/
def execResetPart (port : PortId) (tag : Byte) (svcs : Bool) (s : State) : Result :=
  .next (request port tag (frameLength (.resetPart port tag svcs))
    (fun t => fromSite port t (answerResetPart svcs t)) s)

/-- POWER_ON_RESET (R181): every block at its power-on value; the commands that wait still wait. A RESET_N that
is held low meanwhile has to be sent again (log entry 51). -/
def execPowerOnReset (svcs : Bool) (s : State) : Result :=
  .next { State.powerOn svcs with pending := s.pending }

/-- RESET_N_ASSERTED (R184, R185): every block held at its warm-reset state. -/
def execResetNAsserted (s : State) : Result := .next (if s.phase = .resetHeld then s else warmReset s)

/-- RESET_N_RELEASED (R179, R185): SVCS captured, and the warm start-up, or the load from page 0. -/
def execResetNReleased (svcs : Bool) (s : State) : Result :=
  .next (if s.phase = .resetHeld then finish (startAfterReset svcs s) else s)

end Sys2Proof.Machine
end

