-- ==== Sys2Proof/Machine/Dispatch.lean ====
section
/-! DEFINITION. One arm for each row of the table of operations and events, each one call of the row's meaning. -/

namespace Sys2Proof.Machine

/-- The effect of a command on everything but the queue. -/
def exec (i : Instr) (s : State) : Host.Outcome State Fault Refusal :=
  match i with
  | .powerOnReset svcs => Sys2Proof.Machine.execPowerOnReset svcs s
  | .resetNAsserted => Sys2Proof.Machine.execResetNAsserted s
  | .resetNReleased svcs => Sys2Proof.Machine.execResetNReleased svcs s
  | .portPoll port clocked => Sys2Proof.Machine.execPortPoll port clocked s
  | .badLengthWindow port clocked => Sys2Proof.Machine.execBadLengthWindow port clocked s
  | .unknownRequest port code tag params => Sys2Proof.Machine.execUnknownRequest port code tag params s
  | .readStatus port tag => Sys2Proof.Machine.execReadStatus port tag s
  | .readService port tag svc => Sys2Proof.Machine.execReadService port tag svc s
  | .readConformanceTable port tag svc view => Sys2Proof.Machine.execReadConformanceTable port tag svc view s
  | .readConformanceRaw port tag svc => Sys2Proof.Machine.execReadConformanceRaw port tag svc s
  | .readPoints port tag first => Sys2Proof.Machine.execReadPoints port tag first s
  | .readInterlocks port tag => Sys2Proof.Machine.execReadInterlocks port tag s
  | .readEvents port tag => Sys2Proof.Machine.execReadEvents port tag s
  | .readClock port tag => Sys2Proof.Machine.execReadClock port tag s
  | .readPattern port tag svc slot => Sys2Proof.Machine.execReadPattern port tag svc slot s
  | .readSchedule port tag svc => Sys2Proof.Machine.execReadSchedule port tag svc s
  | .requestPattern port tag svc slot => Sys2Proof.Machine.execRequestPattern port tag svc slot s
  | .abortChange port tag svc => Sys2Proof.Machine.execAbortChange port tag svc s
  | .resumeService port tag svc => Sys2Proof.Machine.execResumeService port tag svc s
  | .setMode port tag svc mode => Sys2Proof.Machine.execSetMode port tag svc mode s
  | .ackInterlock port tag index => Sys2Proof.Machine.execAckInterlock port tag index s
  | .writePattern port tag svc slot body => Sys2Proof.Machine.execWritePattern port tag svc slot body s
  | .tunePattern port tag svc slot cutback window persistence items => Sys2Proof.Machine.execTunePattern port tag svc slot cutback window persistence items s
  | .writeScheduleRow port tag svc month entries => Sys2Proof.Machine.execWriteScheduleRow port tag svc month entries s
  | .writePoint port tag index body => Sys2Proof.Machine.execWritePoint port tag index body s
  | .writeSiteBusRecord port tag base speed debounce => Sys2Proof.Machine.execWriteSiteBusRecord port tag base speed debounce s
  | .writeInterlock port tag index body pin => Sys2Proof.Machine.execWriteInterlock port tag index body pin s
  | .writeServiceSettings port tag svc body => Sys2Proof.Machine.execWriteServiceSettings port tag svc body s
  | .writeRoute port tag kind ports => Sys2Proof.Machine.execWriteRoute port tag kind ports s
  | .setClock port tag timebase date => Sys2Proof.Machine.execSetClock port tag timebase date s
  | .saveConfig port tag => Sys2Proof.Machine.execSaveConfig port tag s
  | .resetPart port tag svcs => Sys2Proof.Machine.execResetPart port tag svcs s
  | .expanderInitTransactionComplete word => Sys2Proof.Machine.execExpanderInitTransactionComplete word s
  | .confirmationReadDue exp => Sys2Proof.Machine.execConfirmationReadDue exp s
  | .confirmationReadComplete word => Sys2Proof.Machine.execConfirmationReadComplete word s
  | .scanReadComplete word => Sys2Proof.Machine.execScanReadComplete word s
  | .fastScanTimer => Sys2Proof.Machine.execFastScanTimer s
  | .periodicScanTimer => Sys2Proof.Machine.execPeriodicScanTimer s
  | .expAttnAsserted => Sys2Proof.Machine.execExpAttnAsserted s
  | .retryReadComplete word => Sys2Proof.Machine.execRetryReadComplete word s
  | .restoreTransactionComplete word => Sys2Proof.Machine.execRestoreTransactionComplete word s
  | .driveWriteComplete => Sys2Proof.Machine.execDriveWriteComplete s
  | .expanderTransactionFailed => Sys2Proof.Machine.execExpanderTransactionFailed s
  | .busTransactionTimeout => Sys2Proof.Machine.execBusTransactionTimeout s
  | .eepromPageReadComplete data => Sys2Proof.Machine.execEepromPageReadComplete data s
  | .eepromPageWriteComplete => Sys2Proof.Machine.execEepromPageWriteComplete s
  | .eepromPollInterval => Sys2Proof.Machine.execEepromPollInterval s
  | .eepromAckPollEnd acked => Sys2Proof.Machine.execEepromAckPollEnd acked s
  | .eepromPollTimeout => Sys2Proof.Machine.execEepromPollTimeout s
  | .eepromTransactionFailed => Sys2Proof.Machine.execEepromTransactionFailed s
  | .interlockFirstSample ilk high => Sys2Proof.Machine.execInterlockFirstSample ilk high s
  | .interlockLevelAccepted ilk high => Sys2Proof.Machine.execInterlockLevelAccepted ilk high s
  | .settleDelayExpiry svc => Sys2Proof.Machine.execSettleDelayExpiry svc s
  | .rfdownAccepted svc => Sys2Proof.Machine.execRfdownAccepted svc s
  | .muteTimeout svc => Sys2Proof.Machine.execMuteTimeout svc s
  | .transitLimitExpiry point => Sys2Proof.Machine.execTransitLimitExpiry point s
  | .monitorByteReceived svc byte => Sys2Proof.Machine.execMonitorByteReceived svc byte s
  | .monitorFramingError svc => Sys2Proof.Machine.execMonitorFramingError svc s
  | .gapTimerExpiry svc => Sys2Proof.Machine.execGapTimerExpiry svc s
  | .stalenessTimerExpiry svc => Sys2Proof.Machine.execStalenessTimerExpiry svc s
  | .verifyWindowExpiry svc => Sys2Proof.Machine.execVerifyWindowExpiry svc s
  | .secondDividerStep => Sys2Proof.Machine.execSecondDividerStep s
  | .tickInEdgeAccepted => Sys2Proof.Machine.execTickInEdgeAccepted s
  | .tickLossTimeout => Sys2Proof.Machine.execTickLossTimeout s
  | .expAttnNegated => Sys2Proof.Machine.execExpAttnNegated s
  | .rfdownNegated svc => Sys2Proof.Machine.execRfdownNegated svc s
  | .directionOutputRewriteComplete => Sys2Proof.Machine.execDirectionOutputRewriteComplete s
  | .interlockPinLevelChange ilk high => Sys2Proof.Machine.execInterlockPinLevelChange ilk high s

end Sys2Proof.Machine
end

