-- ==== Sys2Proof/Machine/Timers.lean ====
section
/-! DEFINITION. What the block does while no command waits (log entries 4, 6): a timer whose moment has come puts its
command in the queue, and otherwise a millisecond passes. -/

namespace Sys2Proof.Machine

/-- A command, when its moment has come. -/
def whenDue (s : State) (due : Option Nat) (c : Instr) : Option Instr :=
  match due with
  | some t => if t ≤ s.now then some c else none
  | none => none

/-- The moment a settle delay of a service runs out. -/
def settleDue (s : State) (x : Svc) : Option Nat :=
  match s.job with
  | some j =>
      match j.phase, j.settle.get x with
      | .muting, some (.delay due) => some due
      | _, _ => none
  | none => none

/-- The moment a mute timeout of a service runs out. -/
def muteDue (s : State) (x : Svc) : Option Nat :=
  match s.job with
  | some j =>
      match j.phase, j.settle.get x with
      | .muting, some (.confirm due) => some due
      | _, _ => none
  | none => none

/-- The moment a point's transit limit runs out. -/
def transitDue (s : State) (i : Fin 32) : Option Nat :=
  match s.job with
  | some j =>
      match j.moves.find? fun m => m.point == i with
      | some m => timerDue m.timer
      | none => none
  | none => none

/-- The moment a service's verify window runs out. -/
def windowDue (s : State) (x : Svc) : Option Nat :=
  match (s.table x).window, inForcePattern s x with
  | some w, some _ => if (s.svc x).state = .verifying then some w.expiry else none
  | _, _ => none

/-- The moment a confirmation read falls due. -/
def confirmDue (s : State) (e : Fin 8) : Option Nat :=
  match (s.exp e).confirm with
  | .due t => some t
  | _ => none

/-- The moments of a save's polling: the end of its time, and the next poll. -/
def pollDue (s : State) : Option (Nat × Nat) :=
  match s.store with
  | .saving _ _ (.polling written next) => some (written + pollLimit, next)
  | _ => none

/-- The acceptance of a pending interlock level. -/
def interlockDue (s : State) (k : Fin 4) : Option Instr :=
  match (s.interlock k).debounce with
  | some d =>
      if loadEnded s && (s.interlockRec k).isSome && (s.interlock k).accepted == some (!d.candidate) then
        whenDue s (some (d.start + d.interval)) (.interlockLevelAccepted k d.candidate)
      else none
  | none => none

/-- The moment the fast timer requests a pass: 4 ms after the start of the previous pass while its condition holds (R12).
DESIGN CHOICE (log entry 57): where the condition first holds after that moment, the moment has come and the pass is
requested at once. -/
def fastDue (s : State) : Option Nat :=
  if fastWanted s then s.bus.scanner.lastStart.map fun t => t + fastInterval else none

/-- The moment the second divider completes its cycles. -/
def dividerDue (s : State) : Option Nat :=
  match s.clock.active with
  | .internal => some (s.clock.dividerStart + dividerPeriod)
  | .tickIn => none

/-- A service's timers, in the order log entry 6 gives. -/
def serviceDue (s : State) (x : Svc) : Option Instr :=
  (whenDue s (s.receiver x).gapDue (.gapTimerExpiry x)).or <|
  (whenDue s (settleDue s x) (.settleDelayExpiry x)).or <|
  (whenDue s (muteDue s x) (.muteTimeout x)).or <|
  (whenDue s (windowDue s x) (.verifyWindowExpiry x)).or <|
  whenDue s (s.receiver x).staleDue (.stalenessTimerExpiry x)

/-- The command of a timer whose moment has come, the first in the order log entry 6 gives. -/
def dueCommand (s : State) : Option Instr :=
  (whenDue s (s.bus.current.map fun c => c.grantedAt + busLimit) .busTransactionTimeout).or <|
  (whenDue s s.clock.lossDue .tickLossTimeout).or <|
  (whenDue s (dividerDue s) .secondDividerStep).or <|
  (serviceDue s .a).or <|
  (serviceDue s .b).or <|
  ((List.finRange 32).findSome? fun i => whenDue s (transitDue s i) (.transitLimitExpiry i)).or <|
  ((List.finRange 8).findSome? fun e => whenDue s (confirmDue s e) (.confirmationReadDue e)).or <|
  (whenDue s ((pollDue s).map Prod.fst) .eepromPollTimeout).or <|
  (whenDue s ((pollDue s).map Prod.snd) .eepromPollInterval).or <|
  ((List.finRange 4).findSome? (interlockDue s)).or <|
  (whenDue s s.bus.scanner.periodicDue .periodicScanTimer).or <|
  whenDue s (fastDue s) .fastScanTimer

/-- The block with no command waiting. -/
def idle (s : State) : State :=
  match dueCommand s with
  | some c => { s with pending := [c] }
  | none => { s with now := s.now + 1 }

end Sys2Proof.Machine
end

