-- ==== Sys2Proof/WellFormed.lean ====
section
/-! DEFINITION. Which commands can arrive: a request's frame fits in 255 bytes (R165), and the rows that share a request
code or a window form are told apart as the table tells them. Every field of a request may hold any value; the
request's own checks judge it. -/

namespace Sys2Proof

/-- The request codes of R169. -/
def requestCodes : List Byte :=
  [0x01, 0x02, 0x03, 0x04, 0x05, 0x06, 0x07, 0x08, 0x09, 0x10, 0x11, 0x12, 0x13, 0x14,
    0x20, 0x21, 0x22, 0x23, 0x24, 0x25, 0x26, 0x27, 0x28, 0x29]

/-- A command as it can arrive. -/
def Instr.wellFormed : Instr → Bool
  | .badLengthWindow port clocked => decide (decodeWindow port false clocked = .badLengthWindow port clocked)
  | .unknownRequest _ code _ params => !requestCodes.contains code && decide (params.length ≤ 252)
  | .readConformanceTable _ _ _ view => decide (view ≠ 1)
  | .writePattern _ _ _ _ (some f) => decide (f.pairs.length ≤ 62)
  | .tunePattern _ _ _ _ _ _ _ items => decide (items.length ≤ 35)
  | .writeScheduleRow _ _ _ _ entries => decide (entries.length ≤ 83)
  | .writePoint _ _ index _ => decide (index ≠ 32)
  | _ => true

/-- A command that is a request window of R168 whose request is known. -/
def Instr.isRequest (i : Instr) : Bool :=
  match requestFrame i with
  | _ :: code :: _ => requestCodes.contains code
  | _ => false

end Sys2Proof
end

