-- ==== Sys2Proof/Safety.lean ====
section
/-! DEFINITION. What counts as safe on this part, in the terms the claims use: the conditions the reference states of every
moment, each over one state; and the words in which the claims say what a command does. -/

namespace Sys2Proof.Machine

/-! ## Conditions of every moment -/

/-- PERMIT_x is asserted only while the service is VERIFYING or ON_AIR and no interlock of its mask is OPEN or LATCHED
(R52). -/
def permitSafe (s : State) (x : Svc) : Prop :=
  (s.svc x).permit = true →
    ((s.svc x).state = .verifying ∨ (s.svc x).state = .onAir) ∧
      ∀ k c, s.interlockRec k = some c → effHas s c.mask x = true → (s.interlock k).state = .closed

/-- The ceiling and the cutback output are down while the permit is withdrawn (R53, R55). -/
def outputsDown (s : State) (x : Svc) : Prop :=
  (s.svc x).permit = false → (s.svc x).ceiling = 0 ∧ (s.svc x).cut = false

/-- No service has been taken up: both UNDETERMINED, no pattern in force, the permits low (R42). -/
def offAir (s : State) : Prop :=
  ∀ x, (s.svc x).state = .undetermined ∧ (s.svc x).inForce = none ∧ (s.svc x).permit = false

/-- The outputs as R52, R53 and R55 have them; while RESET_N is held low or the power-on load runs, no job and no service
taken up (R181, R184); and an image is loading only in the load (R182). -/
def outputsSafe (s : State) : Prop :=
  (∀ x, permitSafe s x ∧ outputsDown s x) ∧
    (s.phase = .resetHeld ∨ s.phase = .loading → s.job = none ∧ offAir s) ∧
    ∀ page buffer, s.store = .loading page buffer → s.phase = .loading

/-- A port as R177 has it: at most 32 records, ATTN asserted exactly while there is one. -/
def portSound (p : Port) : Prop := p.queue.length ≤ 32 ∧ p.attn = !p.queue.isEmpty

/-- All three ports as R177 has them. -/
def portsSound (s : State) : Prop := ∀ i, portSound (s.ports.get i)

/-- The clock's date and time lie in its range (R147). -/
def clockSound (s : State) : Prop := dateValid s.clock.time = true

/-- The arrival order names each service with a pending request once, and no other (R64). -/
def arrivalSound (s : State) : Prop :=
  s.arrival.Nodup ∧ ∀ x, x ∈ s.arrival ↔ (s.svc x).request.isSome = true

/-- A pattern whose fields lie within the values of R26 and R27. -/
def patternSound (p : Pattern) : Prop :=
  (∀ k : Fin 8, 0x20 ≤ (p.label[k]).toNat ∧ (p.label[k]).toNat ≤ 0x7E) ∧
    1 ≤ p.power ∧ p.power ≤ 10000 ∧ 10 ≤ p.cutback ∧ p.cutback ≤ 90 ∧ 2 ≤ p.window ∧ p.window ≤ 120 ∧
    1 ≤ p.persistence ∧ p.persistence ≤ 15 ∧
    ∀ (i : Fin 12) t, p.towers[i] = some t →
      1 ≤ t.ratio ∧ t.ratio ≤ 20000 ∧ -1800 ≤ t.phase ∧ t.phase ≤ 1799 ∧ 1 ≤ t.ratioTol ∧ t.ratioTol ≤ 500 ∧
        1 ≤ t.phaseTol ∧ t.phaseTol ≤ 900

/-- Service settings within the values of R61. -/
def settingsSound (c : ServiceSettings) : Prop :=
  50 ≤ c.settle ∧ c.settle ≤ 1000 ∧ c.settle % 10 = 0 ∧ 100 ≤ c.muteTimeout ∧ c.muteTimeout ≤ 5000 ∧
    c.muteTimeout % 100 = 0 ∧ 2 ≤ c.stale ∧ c.stale ≤ 60 ∧ 1 ≤ c.minRef ∧ c.minRef ≤ 65535

/-- A month row as R154 has it: at most four entries, each minute below 1440, in strictly ascending order. -/
def rowSound (row : List RowEntry) : Prop :=
  row.length ≤ 4 ∧ (∀ e ∈ row, e.minute ≤ 1439) ∧ row.Pairwise fun a b => a.minute < b.minute

/-- No expander line is named twice across all present records of a site map (R2). -/
def linesDistinct (points : Vector (Option PointRec) 32) : Prop :=
  (∀ (i : Fin 32) r, points[i] = some r → r.drive ≠ r.sense1 ∧ r.drive ≠ r.sense2 ∧ r.sense1 ≠ r.sense2) ∧
    ∀ (i j : Fin 32) r q, i ≠ j → points[i] = some r → points[j] = some q → ∀ l ∈ recLines r, l ∉ recLines q

/-- Configuration RAM whose every field is one that the write owning it would store (R180, R181). -/
def configSound (c : ConfigRam) : Prop :=
  linesDistinct c.points ∧
    (∀ (i : Fin 32) r, c.points[i] = some r → 50 ≤ r.transit ∧ r.transit ≤ 2000 ∧ r.transit % 10 = 0) ∧
    (0x08 ≤ c.base ∧ c.base ≤ 0x70 ∧ ¬(0x50 ≤ c.base ∧ c.base ≤ 0x57)) ∧
    (4 ≤ c.debounce ∧ c.debounce ≤ 64 ∧ c.debounce % 4 = 0) ∧
    (∀ x, settingsSound (c.settings.get x)) ∧
    (∀ x (k : Fin 4) p, (c.patterns.get x)[k] = some p → patternSound p) ∧
    ∀ x (m : Fin 12), rowSound (c.rows.get x)[m]

/-! ## The words of the claims -/

/-- A step that answers a next state. -/
def StepsTo (s t : State) : Prop := step s = .next t

/-- What is left alone by everything that can follow a command within its event (log entry 7): the configuration and the
store, the clock, the pins, the receivers, the expanders, the queue. -/
structure KeepsSite (s t : State) : Prop where
  now         : t.now = s.now
  coldLoaded  : t.coldLoaded = s.coldLoaded
  imageValid  : t.imageValid = s.imageValid
  twoServices : t.twoServices = s.twoServices
  cfg         : t.cfg = s.cfg
  dirty       : t.dirty = s.dirty
  store       : t.store = s.store
  exps        : t.exps = s.exps
  expAttn     : t.expAttn = s.expAttn
  interlocks  : t.interlocks = s.interlocks
  rfdown      : t.rfdown = s.rfdown
  receivers   : t.receivers = s.receivers
  clock       : t.clock = s.clock
  pending     : t.pending = s.pending
  sensed      : ∀ i, (t.point i).sensed = (s.point i).sensed

/-- The three-byte response of a request without a payload: its length, its status, the tag echoed (R168). -/
def shortFrame (status tag : Byte) : List Byte := [3, status, tag]

/-- The response of a read answered OK: its length, OK, the tag echoed, the payload (R168). -/
def okFrame (tag : Byte) (payload : List Byte) : List Byte :=
  BitVec.ofNat 8 (3 + payload.length) :: 0 :: tag :: payload

/-- The state after a window of `n` bytes on a port, its answer apart: no window in progress, and what DOUT carried
recorded (R165). -/
def windowShut (i : PortId) (n : Nat) (s : State) : State :=
  { s with
    ports := s.ports.set i
      { s.ports.get i with
        window := none
        shifted := ((s.ports.get i).response.getD [1] ++ List.replicate n 0xFF).take n } }

/-- The state with a response in a port's buffer. -/
def withReply (i : PortId) (frame : List Byte) (s : State) : State :=
  { s with ports := s.ports.set i { s.ports.get i with response := some frame } }

/-- A request window of `n` bytes on a port, with its effect on the state and its response. -/
def answered (i : PortId) (n : Nat) (frame : List Byte) (effect : State → State) (s : State) : State :=
  withReply i frame (effect (windowShut i n s))

/-- Whether a port may make a request that names a service (R169). -/
def actsFor : PortId → Svc → Bool
  | .site, _ => true
  | .a, .a => true
  | .b, .b => true
  | _, _ => false

/-- A request that names a service reaches its own checks: the load has ended, the code names a present service, and the
port may name it (R167, R169, R172). -/
structure Takes (s : State) (port : PortId) (svc : Byte) (x : Svc) : Prop where
  ended : loadEnded s = true
  named : svcOfCode svc = some x
  may   : actsFor port x = true
  here  : present s x = true

/-- A configuration write that names a service reaches its own checks past SAVE_BUSY (R170). -/
structure TakesWrite (s : State) (port : PortId) (svc : Byte) (x : Svc) : Prop extends Takes s port svc x where
  idle : saveInFlight s = false

/-- A site port request reaches its own checks past SAVE_BUSY (R169, R170). -/
structure SiteTakes (s : State) : Prop where
  ended : loadEnded s = true
  idle  : saveInFlight s = false

/-- What a read of a present service needs: the load ended, the code naming a present service (R167, R169, R172). -/
structure ReadsService (s : State) (svc : Byte) (x : Svc) : Prop where
  ended : loadEnded s = true
  named : svcOfCode svc = some x
  here  : present s x = true

/-- The transaction on the bus is a sequence step for an expander, its result wanted (R6, R8, R184). -/
def onBus (s : State) (txn : Txn) (c : Current) : Prop :=
  s.bus.current = some c ∧ c.txn = txn ∧ c.discarded = false

/-- The bus freed at the end of a transaction (R6, R11). -/
def busFreed (s : State) : State := { s with bus := { s.bus with current := none } }

/-- The bus freed after a transaction that failed: a stop, nine clock pulses with the data line released, and a second
stop (R6). -/
def busRecovered (s : State) : State :=
  { s with bus := { s.bus with current := none, recovered := [.stop, .clocks 9, .stop] } }

/-- The edges of a service's outputs once they have been brought to two levels, in the order of R55: the cutback edge
before a permit that rises, and after one that falls; the old record where neither output moves (log entry 26). -/
def edgesTo (v : Service) (permit cut : Bool) : List OutputEdge :=
  let p : List OutputEdge := if v.permit = permit then [] else [.permit permit]
  let c : List OutputEdge := if v.cut = cut then [] else [.cut cut]
  if v.permit = permit ∧ v.cut = cut then v.edges else if permit then c ++ p else p ++ c

end Sys2Proof.Machine
end

