-- ==== Sys2Proof/Certificates/Slice0/Obligations.lean ====
section
/-! DEFINITION. The statements about the TL6210, for the provers. A request's effect is written as `answered`, a
window of the request's length with its response and with an effect on the rest of the state; everything an equation
does not name is unchanged. That a window's bytes are recorded in its port is log entry 28. `finish` is what follows
within the event (log entry 7); `EndOfEventKeepsTheSite` and the statements on formation, stages and grants say what
that can be. -/

open Sys2Proof Sys2Proof.Machine

/-! ## Steps, frames, windows -/

/-- A step runs the command at the front of the queue on the state that keeps the rest of the queue. -/
def Obligations.StepRunsTheFrontCommand : Prop :=
  ∀ (c : Instr) (s : State), step { s with pending := c :: s.pending } = exec c s

/-- The model's choice (log entries 4 and 6): with no command waiting, a timer whose moment has come puts its command
in the queue, and otherwise one millisecond passes. Nothing else changes. A command whose cause is absent cannot
occur, and the model lets it pass without effect (log entry 1): the end of a transaction on an idle bus, the expiry of
a timer that does not run, a level of a pin that is not sampled. The command of a timer is queued exactly where the
timer runs and its moment has come: the bus's ten milliseconds (R6), the tick-loss timer and the divider (R149, R151),
a service's gap, settle, mute, window and staleness timers (R82, R85, R110, R112), transit limits (R89), confirmation
reads (R183), a save's polls (R190), an interlock's debounce (R20), and the scanner's two timers (R12). Which of
several goes first is log entry 6; the fast timer after its moment is log entry 57. -/
def Obligations.CommandsWithoutTheirCausePass : Prop :=
  (∀ s : State, s.pending = [] →
     (∀ c, dueCommand s = some c → step s = .next { s with pending := [c] }) ∧
       (dueCommand s = none → step s = .next { s with now := s.now + 1 })) ∧
  (∀ (s : State) (word : Half) (data : Vector Byte 32) (flag : Bool) (k : Fin 4) (i : Fin 32) (x : Svc),
     (s.bus.current = none →
       exec (.expanderInitTransactionComplete word) s = .next s ∧ exec (.confirmationReadComplete word) s = .next s ∧
         exec (.scanReadComplete word) s = .next s ∧ exec (.retryReadComplete word) s = .next s ∧
         exec (.restoreTransactionComplete word) s = .next s ∧ exec .driveWriteComplete s = .next s ∧
         exec .expanderTransactionFailed s = .next s ∧ exec .busTransactionTimeout s = .next s ∧
         exec (.eepromPageReadComplete data) s = .next s ∧ exec .eepromPageWriteComplete s = .next s ∧
         exec (.eepromAckPollEnd flag) s = .next s ∧ exec .eepromTransactionFailed s = .next s ∧
         exec .directionOutputRewriteComplete s = .next s) ∧
       (s.store = .idle → exec .eepromPollInterval s = .next s ∧ exec .eepromPollTimeout s = .next s) ∧
       (s.bus.scanner.lastStart = none → exec .fastScanTimer s = .next s) ∧
       (s.bus.scanner.periodicDue = none → exec .periodicScanTimer s = .next s) ∧
       (s.job = none → exec (.transitLimitExpiry i) s = .next s) ∧
       ((s.table x).window = none → exec (.verifyWindowExpiry x) s = .next s) ∧
       (loadEnded s = false ∨ s.interlockRec k = none →
         exec (.interlockFirstSample k flag) s = .next s ∧ exec (.interlockPinLevelChange k flag) s = .next s ∧
           exec (.interlockLevelAccepted k flag) s = .next s)) ∧
  (∀ (s : State) (due : Instr → Prop),
     (∀ c, due c ↔
       (c = .busTransactionTimeout ∧ ∃ t, s.bus.current = some t ∧ t.grantedAt + 10 ≤ s.now) ∨
         (c = .tickLossTimeout ∧ ∃ t, s.clock.lossDue = some t ∧ t ≤ s.now) ∨
         (c = .secondDividerStep ∧ s.clock.active = .internal ∧ s.clock.dividerStart + 1000 ≤ s.now) ∨
         (∃ x t, t ≤ s.now ∧
           (c = .gapTimerExpiry x ∧ (s.receiver x).gapDue = some t ∨
             (c = .settleDelayExpiry x ∧ ∃ j, s.job = some j ∧ j.phase = .muting ∧ j.settle.get x = some (.delay t)) ∨
             (c = .muteTimeout x ∧ ∃ j, s.job = some j ∧ j.phase = .muting ∧ j.settle.get x = some (.confirm t)) ∨
             (c = .verifyWindowExpiry x ∧ (s.svc x).state = .verifying ∧ (∃ p, inForcePattern s x = some p) ∧
               ∃ w, (s.table x).window = some w ∧ w.expiry = t) ∨
             c = .stalenessTimerExpiry x ∧ (s.receiver x).staleDue = some t)) ∨
         (∃ i j m t, c = .transitLimitExpiry i ∧ s.job = some j ∧ j.moves.find? (fun m => m.point == i) = some m ∧
           m.timer = .running t ∧ t ≤ s.now) ∨
         (∃ e t, c = .confirmationReadDue e ∧ (s.exp e).confirm = .due t ∧ t ≤ s.now) ∨
         (∃ page image written next, s.store = .saving page image (.polling written next) ∧
           (c = .eepromPollTimeout ∧ written + 10 ≤ s.now ∨ c = .eepromPollInterval ∧ next ≤ s.now)) ∨
         (∃ k d, c = .interlockLevelAccepted k d.candidate ∧ loadEnded s = true ∧ s.cfg.interlocks[k] ≠ none ∧
           (s.interlock k).accepted = some (!d.candidate) ∧ (s.interlock k).debounce = some d ∧
           d.start + d.interval ≤ s.now) ∨
         (c = .periodicScanTimer ∧ ∃ t, s.bus.scanner.periodicDue = some t ∧ t ≤ s.now) ∨
         (c = .fastScanTimer ∧ s.bus.scanner.on = true ∧ s.bus.scanner.fastArmed = true ∧
           (s.expAttn = true ∨ anyPending s = true) ∧ ∃ t, s.bus.scanner.lastStart = some t ∧ t + 4 ≤ s.now)) →
     (∀ c, dueCommand s = some c → due c) ∧ (dueCommand s = none → ∀ c, ¬ due c))

/-- The frame of every request that can arrive decodes to that request (11.1, R168): no byte of a frame is dropped.
The frames are those of the table of 11.1 (R165, R191): the length byte, the request code, the tag and the parameters
in their order, two-byte fields high byte first. -/
def Obligations.RequestFrameDecodesBack : Prop :=
  (∀ c : Instr, c.wellFormed = true → requestFrame c ≠ [] →
     decodeWindow (portOf c) (pinOf c) (requestFrame c) = c) ∧
  (∀ (frame : Byte → Byte → List Byte → List Byte) (h : Half → List Byte),
     (∀ code tag params, frame code tag params = BitVec.ofNat 8 (3 + params.length) :: code :: tag :: params) →
     (∀ w, h w = [w.extractLsb' 8 8, w.extractLsb' 0 8]) →
     ∀ (port : PortId) (tag code svc b d : Byte) (w : Half) (pin : Bool) (params : List Byte),
       requestFrame (.unknownRequest port code tag params) = frame code tag params ∧
         requestFrame (.readStatus port tag) = frame 0x01 tag [] ∧
         requestFrame (.readService port tag svc) = frame 0x02 tag [svc] ∧
         requestFrame (.readConformanceTable port tag svc b) = frame 0x03 tag [svc, b] ∧
         requestFrame (.readConformanceRaw port tag svc) = frame 0x03 tag [svc, 1] ∧
         requestFrame (.readPoints port tag b) = frame 0x04 tag [b] ∧
         requestFrame (.readInterlocks port tag) = frame 0x05 tag [] ∧
         requestFrame (.readEvents port tag) = frame 0x06 tag [] ∧
         requestFrame (.readClock port tag) = frame 0x07 tag [] ∧
         requestFrame (.readPattern port tag svc b) = frame 0x08 tag [svc, b] ∧
         requestFrame (.readSchedule port tag svc) = frame 0x09 tag [svc] ∧
         requestFrame (.requestPattern port tag svc b) = frame 0x10 tag [svc, b] ∧
         requestFrame (.abortChange port tag svc) = frame 0x11 tag [svc] ∧
         requestFrame (.resumeService port tag svc) = frame 0x12 tag [svc] ∧
         requestFrame (.setMode port tag svc b) = frame 0x13 tag [svc, b] ∧
         requestFrame (.ackInterlock port tag b) = frame 0x14 tag [b] ∧
         requestFrame (.writePattern port tag svc b none) = frame 0x20 tag [svc, b, 0] ∧
         (∀ f : PatternFrame,
           requestFrame (.writePattern port tag svc b (some f)) =
             frame 0x20 tag ([svc, b, 1] ++ f.label.toList ++ h f.power ++
               [f.cutback, f.refTower, f.window, f.persistence, f.fallback] ++
               (f.towers.toList.flatMap fun t => [t.flags] ++ h t.ratio ++ h t.phase ++ h t.ratioTol ++ h t.phaseTol) ++
               [BitVec.ofNat 8 f.pairs.length] ++ f.pairs.flatMap fun q => [q.1, q.2])) ∧
         (∀ (win per : Byte) (items : List TuneItem),
           requestFrame (.tunePattern port tag svc b d win per items) =
             frame 0x21 tag ([svc, b, d, win, per, BitVec.ofNat 8 items.length] ++
               items.flatMap fun t => [t.tower] ++ h t.ratioTol ++ h t.phaseTol ++ [t.ratioEnf, t.phaseEnf])) ∧
         (∀ entries : List (Half × Byte),
           requestFrame (.writeScheduleRow port tag svc b entries) =
             frame 0x22 tag ([svc, b, BitVec.ofNat 8 entries.length] ++ entries.flatMap fun q => h q.1 ++ [q.2])) ∧
         requestFrame (.writePoint port tag b none) = frame 0x23 tag [b, 0] ∧
         (∀ f : PointFrame,
           requestFrame (.writePoint port tag b (some f)) =
             frame 0x23 tag ([b, 1, f.driveExp, f.driveLine, f.sense1Exp, f.sense1Line, f.sense2Exp, f.sense2Line, f.hot,
               f.stage] ++ h f.transit)) ∧
         requestFrame (.writeSiteBusRecord port tag b d w) = frame 0x23 tag ([32, b, d] ++ h w) ∧
         (∀ f : InterlockFrame,
           requestFrame (.writeInterlock port tag b f pin) =
             frame 0x24 tag [b, f.present, f.mask, f.motionInhibit, f.clearing, f.active]) ∧
         (∀ f : SettingsFrame,
           requestFrame (.writeServiceSettings port tag svc f) =
             frame 0x25 tag ([svc, f.initialMode, f.muteConfirm] ++ h f.settle ++ h f.muteTimeout ++ [f.stale, f.baud] ++
               h f.minRef)) ∧
         requestFrame (.writeRoute port tag b d) = frame 0x26 tag [b, d] ∧
         requestFrame (.setClock port tag b none) = frame 0x27 tag [b, 0] ∧
         (∀ f : DateFrame,
           requestFrame (.setClock port tag b (some f)) =
             frame 0x27 tag ([b, 1] ++ h f.year ++ [f.month, f.day, f.hour, f.minute, f.second])) ∧
         requestFrame (.saveConfig port tag) = frame 0x28 tag [] ∧ requestFrame (.resetPart port tag pin) = frame 0x29 tag [])

/-- PORT_POLL (R165, R166): the window shifts out the response, or one NOT_READY byte, and then fill bytes; the buffer
is emptied when the window carried the whole response out, and is left as it is otherwise. A window without a byte
changes nothing, and while RESET_N is held low the port takes none (R185). BAD_LENGTH_WINDOW and UNKNOWN_REQUEST
(R166, R168): the buffer is replaced by the refusal, and nothing else changes. A BAD_LENGTH response echoes the third
byte clocked in, or 0. Until the power-on load ends every window is a poll of an empty buffer, and no request arrives
(R167); while RESET_N is held low a port takes no window (R185). Both hold of a malformed window too. That the bytes
shifted out stay in a field of the port is the model's choice (log entry 28), and so is a window that changes nothing
where none can be taken (log entry 1). -/
def Obligations.WindowsAreTakenOrAnswered : Prop :=
  (∀ (port : PortId) (n : Nat) (s : State),
     (0 < n → s.phase ≠ .resetHeld →
       exec (.portPoll port n) s = .next
         { s with
           ports := s.ports.set port
             { s.ports.get port with
               window := none
               shifted := ((s.ports.get port).response.getD [1] ++ List.replicate n 0xFF).take n
               response := (s.ports.get port).response.filter fun r => decide (n < r.length) } }) ∧
       exec (.portPoll port 0) s = .next s ∧
       (s.phase = .resetHeld → exec (.portPoll port n) s = .next s)) ∧
  (∀ (port : PortId) (s : State), loadEnded s = true →
     (∀ clocked : List Byte,
       exec (.badLengthWindow port clocked) s =
         .next (answered port clocked.length (shortFrame 4 (clocked[2]?.getD 0)) id s)) ∧
       ∀ (code tag : Byte) (params : List Byte),
         exec (.unknownRequest port code tag params) s = .next (answered port (3 + params.length) (shortFrame 5 tag) id s)) ∧
  ((∀ (c : Instr) (s : State), requestFrame c ≠ [] →
     (s.phase = .loading → exec c s = .next (windowShut (portOf c) (requestFrame c).length s)) ∧
       (s.phase = .resetHeld → exec c s = .next s)) ∧
   ∀ (port : PortId) (clocked : List Byte) (s : State),
     (s.phase = .loading → exec (.badLengthWindow port clocked) s = .next (windowShut port clocked.length s)) ∧
       (s.phase = .resetHeld → exec (.badLengthWindow port clocked) s = .next s))

/-- R171: a request refused with any status other than OK, OK_CLAMPED or QUEUED changes no state but its own port's
response buffer, which holds the three-byte refusal; what DOUT carried is the window's own. That the bytes DOUT
carried are recorded in the port is the model's choice (log entry 28). -/
def Obligations.RefusedRequestChangesNothing : Prop :=
  ∀ (c : Instr) (s t : State) (len status tag : Byte) (payload : List Byte),
    loadEnded s = true → requestFrame c ≠ [] → exec c s = .next t →
    (t.ports.get (portOf c)).response = some (len :: status :: tag :: payload) →
    status ≠ 0 → status ≠ 2 → status ≠ 3 →
      t = answered (portOf c) (requestFrame c).length (shortFrame status tag) id s

/-- The permission check (R169, R172): a request for a service is refused NOT_PERMITTED on the other service's port,
and NO_SERVICE where the port may make it and the code names no present service. The site port's own requests are
refused NOT_PERMITTED on a station port (R169). While a save is in flight every configuration write that passed its
permission and service checks, and SAVE_CONFIG, is refused SAVE_BUSY (R170, R189). That a station port A that names
the absent service B is NOT_PERMITTED is the model's choice (log entry 61). -/
def Obligations.RequestsArePermitted : Prop :=
  (∀ (c : Instr) (port : PortId) (tag svc : Byte) (s : State), loadEnded s = true →
     ((∃ slot, c = .requestPattern port tag svc slot) ∨ c = .abortChange port tag svc ∨
       c = .resumeService port tag svc ∨ (∃ mode, c = .setMode port tag svc mode) ∨
       (∃ slot body, c = .writePattern port tag svc slot body) ∨
       (∃ slot cut win per items, c = .tunePattern port tag svc slot cut win per items) ∨
       (∃ month entries, c = .writeScheduleRow port tag svc month entries) ∨
       ∃ body, c = .writeServiceSettings port tag svc body) →
     ((port = .a ∧ svc ≠ 1 ∨ port = .b ∧ svc ≠ 2) →
       exec c s = .next (answered port (requestFrame c).length (shortFrame 6 tag) id s)) ∧
       ((port = .site ∨ port = .a ∧ svc = 1 ∨ port = .b ∧ svc = 2) →
         (svc ≠ 1 ∧ svc ≠ 2 ∨ svc = 2 ∧ s.twoServices = false) →
         exec c s = .next (answered port (requestFrame c).length (shortFrame 7 tag) id s))) ∧
  (∀ (c : Instr) (port : PortId) (tag : Byte) (s : State), loadEnded s = true → port ≠ .site →
     ((∃ index body, c = .writePoint port tag index body) ∨
       (∃ base speed debounce, c = .writeSiteBusRecord port tag base speed debounce) ∨
       (∃ index body pin, c = .writeInterlock port tag index body pin) ∨
       (∃ kind ports, c = .writeRoute port tag kind ports) ∨
       (∃ timebase date, c = .setClock port tag timebase date) ∨ c = .saveConfig port tag ∨
       ∃ svcs, c = .resetPart port tag svcs) →
     exec c s = .next (answered port (requestFrame c).length (shortFrame 6 tag) id s)) ∧
  (∀ (c : Instr) (port : PortId) (tag svc : Byte) (x : Svc) (s : State), saveInFlight s = true →
     (Takes s port svc x ∧
         ((∃ slot body, c = .writePattern port tag svc slot body) ∨
           (∃ slot cut win per items, c = .tunePattern port tag svc slot cut win per items) ∨
           (∃ month entries, c = .writeScheduleRow port tag svc month entries) ∨
           ∃ body, c = .writeServiceSettings port tag svc body) ∨
       loadEnded s = true ∧ port = .site ∧
         ((∃ index body, c = .writePoint port tag index body) ∨
           (∃ base speed debounce, c = .writeSiteBusRecord port tag base speed debounce) ∨
           (∃ index body pin, c = .writeInterlock port tag index body pin) ∨
           (∃ kind ports, c = .writeRoute port tag kind ports) ∨
           (∃ timebase date, c = .setClock port tag timebase date) ∨ c = .saveConfig port tag)) →
     exec c s = .next (answered port (requestFrame c).length (shortFrame 16 tag) id s))

/-! ## Reads -/

/-- READ_STATUS, READ_CONFORMANCE in both views, READ_POINTS, READ_INTERLOCKS, READ_PATTERN and READ_SCHEDULE are
answered OK with their payload (R18, R24, R40, R126, R127, R156, R173), and only the port's buffer changes. READ_CLOCK
(R153, R191): the eleven bytes of its payload, the year high byte first. Items are encoded by kind (R191): one byte
for an index, a code or a flag, two for a number, high byte first and in two's complement where signed; absent, 0xFF
in one byte and 0 in two. The codes are those of the tables and of the log. READ_STATUS (R173, R191): the service
count; each service's state, PERMIT and CUT, 0xFF for an absent one; the job record; four flags; the queue count and
overflow marker of the port; the 32 routing entries. READ_POINTS (R18, R191): the eight health codes, the EXP_ATTN
level, the last index carried, and 15 bytes for each point of the 16 from the first index, the fields of an absent one
as absent. READ_INTERLOCKS (R24): eight bytes for each interlock. READ_CONFORMANCE (R126, R127): TABLE has the head,
the line state and 17 bytes for each tower; a tower carries parameters where the pattern the table slot holds has an
entry there and it is not the reference tower. RAW has the receiver, and the last good frame or 0xFF. READ_PATTERN
(R40): empty or not; the head, the twelve towers and the map's pairs; the validity and the lowest absent point listed;
four usage flags. READ_SCHEDULE (R156): the twelve rows, the mode, and the scheduled pattern with its month. Reads
refused (R169, R172): a read that names a service is NO_SERVICE from any port where the code names no present service,
whatever its other byte; a first point above 31, a slot above 3 and a view code above 1 are BAD_FIELD. What an absent
point or interlock sends, the codes of a paused-from phase, a clearing mode and the EXP_ATTN level, the order of the
settle states, the layouts R191 does not size, and the open bytes are the model's (log entries 14, 15, 16, 21, 29, 37,
39, 48, 52, 58). -/
def Obligations.ReadsAnswerAndChangeNothing : Prop :=
  (∀ (port : PortId) (tag svc : Byte) (x : Svc) (s : State),
     (loadEnded s = true →
       (exec (.readStatus port tag) s =
         .next (answered port 3 (okFrame tag (statusPayload port s)) id s)) ∧
       (exec (.readInterlocks port tag) s = .next (answered port 3 (okFrame tag (interlocksPayload s)) id s)) ∧
       ∀ i : Fin 32,
         exec (.readPoints port tag (BitVec.ofNat 8 i.val)) s =
           .next (answered port 4 (okFrame tag (pointsPayload i s)) id s)) ∧
     (ReadsService s svc x →
       (exec (.readConformanceTable port tag svc 0) s = .next (answered port 5 (okFrame tag (tablePayload x s)) id s)) ∧
       (exec (.readConformanceRaw port tag svc) s = .next (answered port 5 (okFrame tag (rawPayload x s)) id s)) ∧
       (exec (.readSchedule port tag svc) s = .next (answered port 4 (okFrame tag (schedulePayload x s)) id s)) ∧
       ∀ k : Fin 4,
         exec (.readPattern port tag svc (BitVec.ofNat 8 k.val)) s =
           .next (answered port 5 (okFrame tag (slotPayload x k s)) id s))) ∧
  (∀ (port : PortId) (tag : Byte) (s : State), loadEnded s = true →
     exec (.readClock port tag) s =
       .next (answered port 3
         [14, 0, tag, BitVec.ofNat 8 (s.clock.time.year / 256), BitVec.ofNat 8 s.clock.time.year,
           BitVec.ofNat 8 s.clock.time.month, BitVec.ofNat 8 s.clock.time.day, BitVec.ofNat 8 s.clock.time.hour,
           BitVec.ofNat 8 s.clock.time.minute, BitVec.ofNat 8 s.clock.time.second,
           if s.clock.isSet then 1 else 0, if s.cfg.timebase = .tickIn then 1 else 0,
           if s.clock.active = .tickIn then 1 else 0,
           if s.clock.time = ⟨2099, 12, 31, 23, 59, 59⟩ then 1 else 0] id s)) ∧
  ((∀ (n : Nat) (z : Int),
     u8 n = [BitVec.ofNat 8 n] ∧ u16 n = [BitVec.ofNat 8 (n / 256), BitVec.ofNat 8 n] ∧ i16 z = u16 (z % 65536).toNat ∧
       flag8 false = [0] ∧ flag8 true = [1] ∧ opt8 none = [0xFF] ∧ opt8 (some n) = u8 n ∧ opt16 none = [0, 0] ∧
       opt16 (some n) = u16 n ∧ optI16 none = [0, 0] ∧ optI16 (some z) = i16 z) ∧
     [Svc.a, .b].map svcCode = [1, 2] ∧
     [SvcState.undetermined, .verifying, .onAir, .changing, .standby, .held].map svcStateCode = [0, 1, 2, 3, 4, 5] ∧
     [HoldCause.interlock, .deviation, .verifyFail, .pointDisturbed, .transferFault].map holdCode = [1, 2, 3, 4, 5] ∧
     (∀ v d t f : Bool, causesCode ⟨v, d, t, f⟩ = v.toNat + 2 * d.toNat + 4 * t.toNat + 8 * f.toNat) ∧
     [Mode.manual, .auto].map modeCode = [0, 1] ∧
     [Source.portA, .portB, .portSite, .schedule, .fallback].map sourceCode = [1, 2, 3, 4, 5] ∧
     (∀ due : Nat, [Settle.notNeeded, .delay due, .confirm due, .settled].map settleCode = [0, 1, 2, 3]) ∧
     [Sensed.at1, .at2, .moving, .conflict, .unknown].map sensedCode = [1, 2, 3, 4, 5] ∧
     [Health.unused, .init, .ok, .faulted].map healthCode = [0, 1, 2, 3] ∧
     [InterlockState.closed, .opened, .latched].map interlockStateCode = [0, 1, 2] ∧
     [Mask.a, .b, .ab].map maskCode = [1, 2, 3] ∧
     [ParamState.pending, .in_, .out].map paramStateCode = [0, 1, 2] ∧
     [RunDir.none, .in_, .out].map runDirCode = [0, 1, 2] ∧
     [Enforcement.advisory, .cutback, .withdraw].map enforcementCode = [0, 1, 2] ∧
     [Policy.revert, .holdCutback, .withdraw].map policyCode = [0, 1, 2] ∧
     [LastOutcome.none, .valid, .refBeyondCount, .refPhaseRange, .refBelowFloor].map outcomeCode = [0, 1, 2, 3, 4] ∧
     [FrameState.hunt, .count, .data, .check].map frameStateCode = [0, 1, 2, 3] ∧
     [Pos.one, .two].map posCode = [1, 2] ∧ [RollbackCause.fault, .aborted].map causeCode = [1, 2] ∧
     ∀ a b site : Bool, portSetCode ⟨a, b, site⟩ = a.toNat + 2 * b.toNat + 4 * site.toNat) ∧
  (∀ (port : PortId) (s : State),
     statusPayload port s =
       u8 (if s.twoServices = true then 2 else 1) ++
         ([Svc.a, .b].flatMap fun x =>
           if x = .a ∨ s.twoServices = true then
             u8 (svcStateCode (s.svc x).state) ++ flag8 (s.svc x).permit ++ flag8 (s.svc x).cut
           else [0xFF, 0xFF, 0xFF]) ++
         (match s.job with
          | none => [0, 0xFF, 0xFF, 0xFF, 0, 0xFF, 0, 0]
          | some j =>
              u8 (match j.phase with
                | .muting => 1
                | .transfer => 2
                | .paused _ => 3
                | .rollback => 4) ++
                opt8 (match j.phase with
                  | .paused .transfer => some 2
                  | .paused .rollback => some 4
                  | .muting | .transfer | .rollback => none) ++
                opt8 (j.rollbackCause.map causeCode) ++ opt8 (j.stage.map Fin.val) ++
                u8 j.changing.length ++
                (j.changing.flatMap fun c =>
                  u8 (svcCode c.svc) ++ u8 c.target.val ++ u8 (sourceCode c.source) ++ flag8 c.revert ++
                    flag8 c.reassert) ++
                opt8 (j.collateral.map svcCode) ++ u8 j.moves.length ++
                (j.moves.flatMap fun m =>
                  u8 m.point.val ++ opt8 (m.fromPos.map posCode) ++ u8 (posCode m.toPos) ++ u8 m.stage.val ++
                    flag8 m.driven) ++
                u8 ((j.settle.get .a).isSome.toNat + (j.settle.get .b).isSome.toNat) ++
                [Svc.a, .b].flatMap fun x =>
                  match j.settle.get x with
                  | some st => u8 (svcCode x) ++ u8 (settleCode st)
                  | none => []) ++
         flag8 s.clock.isSet ++ flag8 s.dirty ++
         flag8 (match s.store with
           | .saving .. => true
           | .idle | .loading .. => false) ++
         flag8 s.imageValid ++ u8 (s.ports.get port).queue.length ++ flag8 (s.ports.get port).overflow ++
         s.cfg.routes.toList.flatMap fun p => u8 (portSetCode p)) ∧
  (∀ s : State,
     (∀ first : Fin 32,
       pointsPayload first s =
         ((List.finRange 8).flatMap fun e => u8 (healthCode (s.exp e).health)) ++
           u8 (if s.expAttn = true then 0 else 1) ++ u8 (min 31 (first.val + 15)) ++
           (((List.finRange 32).drop first.val).take 16).flatMap fun i =>
             match s.cfg.points[i] with
             | some r =>
                 [1] ++ u8 r.drive.exp.val ++ u8 r.drive.line.val ++ u8 r.sense1.exp.val ++ u8 r.sense1.line.val ++
                   u8 r.sense2.exp.val ++ u8 r.sense2.line.val ++ u8 (maskCode r.hot) ++ u8 r.stage.val ++
                   u16 r.transit ++ opt8 ((s.point i).commanded.map posCode) ++ u8 (sensedCode (s.point i).sensed) ++
                   flag8 ((s.exp r.sense1.exp).lines[r.sense1.line].debounce.isSome ||
                     (s.exp r.sense2.exp).lines[r.sense2.line].debounce.isSome) ++
                   flag8 (s.point i).underDrive
             | none => [0] ++ List.replicate 8 0xFF ++ [0, 0] ++ [0xFF, 0xFF] ++ [0, 0]) ∧
       interlocksPayload s =
         (List.finRange 4).flatMap fun k =>
           (match s.cfg.interlocks[k] with
            | some c =>
                [1] ++ u8 (maskCode c.mask) ++ flag8 c.motionInhibit ++ flag8 c.latched ++ flag8 c.activeHigh
            | none => [0, 0xFF, 0xFF, 0xFF, 0xFF]) ++
             u8 (interlockStateCode (s.interlock k).state) ++ opt8 ((s.interlock k).accepted.map Bool.toNat) ++
             flag8 (s.interlock k).debounce.isSome) ∧
  (∀ (x : Svc) (s : State),
     (∀ carries : Fin 12 → Prop,
       (∀ i, carries i ↔ ∃ k p t, (s.table x).slot = some k ∧ (s.cfg.patterns.get x)[k] = some p ∧ i ≠ p.refTower ∧
         p.towers[i] = some t) →
       ∃ rows : Fin 12 → List Byte,
         (∀ (i : Fin 12) (r : TowerRow), (s.table x).rows[i] = r →
           (carries i → rows i =
             flag8 r.noReading ++ opt16 r.ratio ++ flag8 r.saturated ++ optI16 r.phase ++ [1] ++ optI16 r.ratioErr ++
               optI16 r.phaseErr ++ u8 (paramStateCode r.ratioState) ++ u8 (paramStateCode r.phaseState) ++
               u8 (runDirCode r.ratioRun.dir) ++ u8 r.ratioRun.count ++ u8 (runDirCode r.phaseRun.dir) ++
               u8 r.phaseRun.count) ∧
             (¬ carries i → rows i =
               flag8 r.noReading ++ opt16 r.ratio ++ flag8 r.saturated ++ optI16 r.phase ++ [0] ++ [0, 0, 0, 0] ++
                 List.replicate 6 0xFF)) ∧
           tablePayload x s =
             opt8 ((s.table x).slot.map Fin.val) ++ u16 (s.table x).valid ++ u16 (s.table x).invalid ++
               u8 (outcomeCode (s.table x).outcome) ++ flag8 (s.receiver x).stale ++ (List.finRange 12).flatMap rows) ∧
       rawPayload x s =
         u8 (frameStateCode (s.receiver x).frame) ++ flag8 (s.receiver x).stale ++ flag8 (s.receiver x).frameError ++
           u16 (s.receiver x).goodCount.toNat ++
           match (s.receiver x).lastGood with
           | some frame => u8 frame.length ++ frame.flatMap fun e => u16 e.magnitude ++ i16 e.phase
           | none => [0xFF]) ∧
  (∀ (x : Svc) (s : State),
     (∀ (k : Fin 4) (usage : List Byte),
       usage =
         flag8 (decide ((s.svc x).inForce = some k)) ++
           flag8 (match (s.svc x).request with
             | some r => decide (r.target = k)
             | none => false) ++
           flag8 (match s.job with
             | some j => match j.changing.find? fun c => c.svc == x with
               | some c => decide (c.target = k)
               | none => false
             | none => false) ++
           flag8 (decide ((s.svc x).previous = some k)) →
       ((s.cfg.patterns.get x)[k] = none → slotPayload x k s = [1] ++ usage) ∧
         ∀ (p : Pattern) (absent : Fin 32 → Prop), (s.cfg.patterns.get x)[k] = some p →
           (∀ i, absent i ↔ p.map[i] ≠ none ∧ s.cfg.points[i] = none) →
           ∃ (pairs : List (Fin 32 × Pos)) (valid : List Byte),
             (∀ i pos, (i, pos) ∈ pairs ↔ p.map[i] = some pos) ∧ pairs.Pairwise (fun a b => a.1 < b.1) ∧
               ((∀ i, ¬ absent i) → valid = [1, 0xFF]) ∧
               (∀ i, absent i → (∀ n, n < i → ¬ absent n) → valid = [0] ++ u8 i.val) ∧
               slotPayload x k s =
                 [0] ++ p.label.toList ++ u16 p.power ++ u8 p.cutback ++ u8 p.refTower.val ++ u8 p.window ++
                   u8 p.persistence ++ u8 (policyCode p.policy) ++
                   (p.towers.toList.flatMap fun entry => match entry with
                     | some t =>
                         [1] ++ u16 t.ratio ++ i16 t.phase ++ u16 t.ratioTol ++ u16 t.phaseTol ++
                           u8 (enforcementCode t.ratioEnf) ++ u8 (enforcementCode t.phaseEnf)
                     | none => [0] ++ [0, 0, 0, 0, 0, 0, 0, 0] ++ [0xFF, 0xFF]) ++
                   u8 pairs.length ++ (pairs.flatMap fun q => u8 q.1.val ++ u8 (posCode q.2)) ++ valid ++ usage) ∧
       schedulePayload x s =
         ((s.cfg.rows.get x).toList.flatMap fun row =>
           u8 row.length ++ row.flatMap fun e => u16 e.minute ++ u8 e.slot.val) ++
           u8 (modeCode (s.svc x).mode) ++
           if s.clock.isSet = true then
             match scheduledPattern s x with
             | some (k, month) => u8 k.val ++ u8 month
             | none => [0xFF, 0xFF]
           else [Config.notComputedSlot, 0xFF]) ∧
  (∀ (port : PortId) (tag svc b : Byte) (s : State), loadEnded s = true →
     (svc ≠ 1 ∧ svc ≠ 2 ∨ svc = 2 ∧ s.twoServices = false →
       exec (.readService port tag svc) s = .next (answered port 4 (shortFrame 7 tag) id s) ∧
         exec (.readConformanceTable port tag svc b) s = .next (answered port 5 (shortFrame 7 tag) id s) ∧
         exec (.readConformanceRaw port tag svc) s = .next (answered port 5 (shortFrame 7 tag) id s) ∧
         exec (.readPattern port tag svc b) s = .next (answered port 5 (shortFrame 7 tag) id s) ∧
         exec (.readSchedule port tag svc) s = .next (answered port 4 (shortFrame 7 tag) id s)) ∧
       (32 ≤ b.toNat → exec (.readPoints port tag b) s = .next (answered port 4 (shortFrame 8 tag) id s)) ∧
       ∀ x, ReadsService s svc x →
         (4 ≤ b.toNat → exec (.readPattern port tag svc b) s = .next (answered port 5 (shortFrame 8 tag) id s)) ∧
           (2 ≤ b.toNat →
             exec (.readConformanceTable port tag svc b) s = .next (answered port 5 (shortFrame 8 tag) id s)))

/-- READ_SERVICE (R62): answered OK with the service's items, and the frame-error flag of its receiver cleared once
reported; no other state changes. Its items, encoded as ReadsAnswerAndChangeNothing has them (R62, R191): the record;
the pending request's target, source, tag and revert flag, 0xFF each without one; the ceiling, PERMIT and CUT; the in-
force pattern's power and cutback level; the part in the job, whose byte is open; the whole seconds left in the
window; the staleness and the frame-error flag. READ_EVENTS (R178): up to eight records leave the queue, oldest first,
into the response, with the number left and the overflow marker as it stood; the marker is cleared, and ATTN is
negated when the queue is empty. The layout, and the byte of the part in the job, are the model's (log entries 20,
29). -/
def Obligations.ReadsThatClearWhatTheyReport : Prop :=
  (∀ (port : PortId) (tag svc : Byte) (x : Svc) (s : State), ReadsService s svc x →
     exec (.readService port tag svc) s =
       .next (answered port 4 (okFrame tag (servicePayload x s))
         (fun u => { u with receivers := u.receivers.set x { u.receivers.get x with frameError := false } }) s)) ∧
  (∀ (x : Svc) (s : State) (pattern : Option Pattern),
     pattern = (match (s.svc x).inForce with
       | some k => (s.cfg.patterns.get x)[k]
       | none => none) →
     servicePayload x s =
       u8 (svcStateCode (s.svc x).state) ++ opt8 ((s.svc x).inForce.map Fin.val) ++
         opt8 ((s.svc x).previous.map Fin.val) ++ flag8 (s.svc x).revertMark ++ opt8 ((s.svc x).hold.map holdCode) ++
         u8 (causesCode (s.svc x).causes) ++ u8 (modeCode (s.svc x).mode) ++
         (match (s.svc x).request with
          | some r => u8 r.target.val ++ u8 (sourceCode r.source) ++ [r.tag] ++ flag8 r.revert
          | none => [0xFF, 0xFF, 0xFF, 0xFF]) ++
         u16 (s.svc x).ceiling ++ flag8 (s.svc x).permit ++ flag8 (s.svc x).cut ++
         opt16 (pattern.map Pattern.power) ++ opt16 (pattern.map fun p => p.power * p.cutback / 100) ++
         [Config.jobPartCode (match s.job with
           | some j =>
               if ∃ c ∈ j.changing, c.svc = x then .changing else if j.collateral = some x then .collateral else .none
           | none => .none)] ++
         opt8 ((s.table x).window.map fun w => (w.expiry - s.now) / 1000) ++ flag8 (s.receiver x).stale ++
         flag8 (s.receiver x).frameError) ∧
  (∀ (port : PortId) (tag : Byte) (s : State), loadEnded s = true →
     exec (.readEvents port tag) s =
       .next (answered port 3
         (okFrame tag
           ([BitVec.ofNat 8 (min 8 (s.ports.get port).queue.length),
               BitVec.ofNat 8 ((s.ports.get port).queue.length - 8),
               if (s.ports.get port).overflow then 1 else 0] ++
             ((s.ports.get port).queue.take 8).flatMap recordBytes))
         (fun u =>
           { u with
             ports := u.ports.set port
               { u.ports.get port with
                 queue := (u.ports.get port).queue.drop 8
                 overflow := false
                 attn := !((u.ports.get port).queue.drop 8).isEmpty } }) s))

/-- The response frame never exceeds 255 bytes (R168): every read's payload has at most 252 bytes, while the rows,
frames and the job are of the sizes R154, R108, R77 and R75 give them. The layouts that 11.1 gives only by an order of
items are the model's reading (log entries 14, 29, 52, 58). -/
def Obligations.ReadResponsesFit : Prop :=
  ∀ (s : State) (port : PortId) (x : Svc) (k : Fin 4) (i : Fin 32),
    (∀ j, s.job = some j → j.changing.length ≤ 2 ∧ j.moves.length ≤ 32) →
    (∀ m : Fin 12, (s.cfg.rows.get x)[m].length ≤ 4) →
    (∀ f, (s.receivers.get x).lastGood = some f → f.length ≤ 12) →
      (statusPayload port s).length ≤ 252 ∧ (servicePayload x s).length ≤ 252 ∧ (tablePayload x s).length = 211 ∧
        (rawPayload x s).length ≤ 252 ∧ (pointsPayload i s).length ≤ 250 ∧ (interlocksPayload s).length ≤ 252 ∧
        (eventsPayload (s.ports.get port)).length ≤ 252 ∧ (clockPayload s).length ≤ 252 ∧
        (slotPayload x k s).length ≤ 252 ∧ (schedulePayload x s).length ≤ 252

/-! ## Requests on services and interlocks -/

/-- An accepted request becomes its service's pending request (R66): a request it finds is superseded first, the
service joins the end of the arrival order, and REQUEST_QUEUED is posted last. REQUEST_PATTERN (R63, R65, R66): for a
slot that holds a pattern and is not in force on the air, the request is stored with its port as source, its tag, and
the revert flag clear, and answered QUEUED. REQUEST_PATTERN refused by its checks 3 to 5 in their order (R65). -/
def Obligations.RequestPatternIsStored : Prop :=
  (∀ (x : Svc) (r : Request) (s : State),
     ((s.svc x).request = none →
       storeRequest x r s =
         post (.requestQueued x r.target r.source)
           { s with svcs := s.svcs.set x { s.svcs.get x with request := some r }, arrival := s.arrival ++ [x] }) ∧
       ∀ o, (s.svc x).request = some o →
         storeRequest x r s =
           post (.requestQueued x r.target r.source)
             { post (.requestSuperseded x o.target o.source) s with
               svcs := s.svcs.set x { s.svcs.get x with request := some r }
               arrival := (s.arrival.filter (· != x)) ++ [x] }) ∧
  (∀ (port : PortId) (tag svc : Byte) (x : Svc) (k : Fin 4) (s : State), Takes s port svc x →
     (s.pattern x k).isSome = true →
     ¬((s.svc x).inForce = some k ∧ ((s.svc x).state = .verifying ∨ (s.svc x).state = .onAir)) →
     exec (.requestPattern port tag svc (BitVec.ofNat 8 k.val)) s =
       .next (answered port 5 (shortFrame 3 tag)
         (fun u => finish (storeRequest x
           { target := k
             source := match port with
               | .a => .portA
               | .b => .portB
               | .site => .portSite
             tag := tag
             revert := false } u)) s)) ∧
  (∀ (port : PortId) (tag svc slot : Byte) (x : Svc) (s : State), Takes s port svc x →
     (4 ≤ slot.toNat →
       exec (.requestPattern port tag svc slot) s = .next (answered port 5 (shortFrame 8 tag) id s)) ∧
       ∀ k : Fin 4, slot = BitVec.ofNat 8 k.val →
         (s.pattern x k = none →
           exec (.requestPattern port tag svc slot) s = .next (answered port 5 (shortFrame 9 tag) id s)) ∧
           ((s.pattern x k).isSome = true → (s.svc x).inForce = some k →
             ((s.svc x).state = .verifying ∨ (s.svc x).state = .onAir) →
             exec (.requestPattern port tag svc slot) s = .next (answered port 5 (shortFrame 10 tag) id s)))

/-- ABORT_CHANGE of a service that changes in no job (R68): its pending request is withdrawn with reason ABORTED;
without one, STATE. ABORT_CHANGE at the engine (R95): a job in MUTING is cancelled; one in TRANSFER, or PAUSED from
TRANSFER, posts REQUEST_DROPPED for each changing service and rolls back with cause ABORTED, quietly in a pause; in
ROLLBACK, or PAUSED from it, the request is NOT_ABORTABLE. The rollback it starts (R90, R95, R97): the timers stop,
the under-drive marks are cleared, the waiting drive writes are withdrawn, and the cause is kept. While a drive write
of the job is on the bus it waits for its answer; otherwise rollback is done where nothing is to be driven back, and
else its highest stage begins, or a blocking interlock pauses the engine before it (R93), with no second
TRANSFER_PAUSED where the engine was PAUSED. -/
def Obligations.AbortChangeActsByPhase : Prop :=
  (∀ (port : PortId) (tag svc : Byte) (x : Svc) (s : State), Takes s port svc x →
     (∀ j, s.job = some j → isChanging j x = false) →
     (∀ r, (s.svc x).request = some r →
       exec (.abortChange port tag svc) s =
         .next (answered port 4 (shortFrame 0 tag)
           (fun u => finish (post (.requestDropped x r.target .aborted)
             { u with
               svcs := u.svcs.set x { u.svcs.get x with request := none }
               arrival := u.arrival.filter (· != x) })) s)) ∧
       ((s.svc x).request = none →
         exec (.abortChange port tag svc) s = .next (answered port 4 (shortFrame 14 tag) id s))) ∧
  (∀ (port : PortId) (tag svc : Byte) (x : Svc) (j : Job) (s : State), Takes s port svc x → s.job = some j →
     isChanging j x = true →
     (j.phase = .muting →
       exec (.abortChange port tag svc) s =
         .next (answered port 4 (shortFrame 0 tag) (fun u => finish (cancelJob j .aborted u)) s)) ∧
       (j.phase = .transfer ∨ j.phase = .paused .transfer →
         exec (.abortChange port tag svc) s =
           .next (answered port 4 (shortFrame 0 tag)
             (fun u => finish (startRollback j .aborted (decide (j.phase = .paused .transfer))
               (j.changing.foldl (fun v c => post (.requestDropped c.svc c.target .aborted) v) u))) s)) ∧
       (j.phase = .rollback ∨ j.phase = .paused .rollback →
         exec (.abortChange port tag svc) s = .next (answered port 4 (shortFrame 15 tag) id s))) ∧
  (∀ (j j' : Job) (cause : RollbackCause) (quiet : Bool) (s t : State),
     j' = { j with
             phase := .rollback, rollbackCause := some cause
             moves := j.moves.map fun m => { m with timer := .off } } →
     t = { s with
           points := Vector.ofFn fun n : Fin 32 => { s.point n with underDrive := false }
           bus := { s.bus with
             queue := s.bus.queue.filter fun q => match q with
               | .drive _ _ => false
               | .seq _ _ _ => true } } →
     (driveOnBus s = true ↔ ∃ c e ts, onBus s (.drive e ts true) c) ∧
       (driveOnBus s = true → startRollback j cause quiet s = { t with job := some { j' with awaiting := true } }) ∧
       (driveOnBus s = false →
         ((∀ m ∈ j.moves, m.driven = false ∨ m.fromPos = none) →
           startRollback j cause quiet s = rollbackDone j' { t with job := some j' }) ∧
         ∀ k, (∃ m ∈ j.moves, m.stage = k ∧ m.driven = true ∧ m.fromPos ≠ none) →
           (∀ m ∈ j.moves, m.driven = true → m.fromPos ≠ none → m.stage ≤ k) →
           (blocking s j = none → startRollback j cause quiet s = runRollbackStage j' k { t with job := some j' }) ∧
           ∀ n u, blocking s j = some n →
             u = { t with
                   job := some { j' with phase := .paused .rollback, stage := some k, awaiting := false } } →
             startRollback j cause quiet s =
               if quiet = true then u else postEach (mutedSvcs j) (fun x => .transferPaused x n k) u))

/-- RESUME_SERVICE (R59): a HELD service whose entry check passes enters VERIFYING and is answered OK; otherwise
STATE. SET_MODE (R60): the mode held already changes nothing; MANUAL is set and posted; AUTO is set and posted, and
the scheduled pattern is derived at once; another code is BAD_FIELD. A derivation of one service (R161): it is called
for while the service is present and in AUTO, the clock is set and adoption has finished, where a scheduled pattern
exists and the service is UNDETERMINED or has another slot in force; then SCHEDULE_FIRED DERIVED is posted for the
scheduled slot, and a SCHEDULE request for it is stored. Otherwise nothing changes. -/
def Obligations.ResumeAndModeRequests : Prop :=
  (∀ (port : PortId) (tag svc : Byte) (x : Svc) (s : State), Takes s port svc x →
     ((s.svc x).state = .held → entryCheck s x = .pass →
       exec (.resumeService port tag svc) s =
         .next (answered port 4 (shortFrame 0 tag) (fun u => finish (enterVerifying x u)) s)) ∧
       ((s.svc x).state ≠ .held ∨ entryCheck s x ≠ .pass →
         exec (.resumeService port tag svc) s = .next (answered port 4 (shortFrame 14 tag) id s))) ∧
  (∀ (port : PortId) (tag svc : Byte) (x : Svc) (s : State), Takes s port svc x →
     ((s.svc x).mode = .manual →
       exec (.setMode port tag svc 0) s = .next (answered port 5 (shortFrame 0 tag) id s)) ∧
       ((s.svc x).mode = .auto →
         exec (.setMode port tag svc 1) s = .next (answered port 5 (shortFrame 0 tag) id s)) ∧
       ((s.svc x).mode = .auto →
         exec (.setMode port tag svc 0) s =
           .next (answered port 5 (shortFrame 0 tag)
             (fun u => finish (post (.modeChanged x .manual)
               { u with svcs := u.svcs.set x { u.svcs.get x with mode := .manual } })) s)) ∧
       ((s.svc x).mode = .manual →
         exec (.setMode port tag svc 1) s =
           .next (answered port 5 (shortFrame 0 tag)
             (fun u => finish (deriveOne x (post (.modeChanged x .auto)
               { u with svcs := u.svcs.set x { u.svcs.get x with mode := .auto } }))) s)) ∧
       ∀ mode : Byte, mode ≠ 0 → mode ≠ 1 →
         exec (.setMode port tag svc mode) s = .next (answered port 5 (shortFrame 8 tag) id s)) ∧
  (∀ (x : Svc) (s : State) (due : Svc → Option (Fin 4)) (asks : Fin 4 → Request),
     (∀ y k, due y = some k ↔
       present s y = true ∧ (s.svc y).mode = .auto ∧ s.clock.isSet = true ∧ s.phase = .running ∧
         (∃ m, scheduledPattern s y = some (k, m)) ∧
         ((s.svc y).state = .undetermined ∨ (s.svc y).inForce ≠ some k)) →
     (∀ k, asks k = { target := k, source := .schedule, tag := 0, revert := false }) →
     (due x = none → deriveOne x s = s) ∧
       ∀ k, due x = some k → deriveOne x s = storeRequest x (asks k) (post (.scheduleFired x k .derived) s))

/-- ACK_INTERLOCK from the site port, or from the station port of a present service in the interlock's mask as written
(R23): LATCHED becomes CLOSED with INTERLOCK_CLEARED, and the change is handed on; OPEN and CLOSED are STATE. A
station port outside the mask is NOT_PERMITTED. An index that names no present interlock is BAD_FIELD from the site
port and from the station port of a present service. Station port B in single-service operation is NO_SERVICE where it
passes the permission check: its service in the mask, or no present interlock named. The order in which the change is
handed on is the model's reading (log entries 38, 47). -/
def Obligations.AckInterlockClosesALatchedOne : Prop :=
  (∀ (port : PortId) (tag : Byte) (k : Fin 4) (c : InterlockSettings) (s : State), loadEnded s = true →
    s.interlockRec k = some c →
    ((∀ x, portService port = some x → maskHas c.mask x = true ∧ present s x = true) →
      ((s.interlock k).state = .latched →
        exec (.ackInterlock port tag (BitVec.ofNat 8 k.val)) s =
          .next (answered port 4 (shortFrame 0 tag)
            (fun u => finish (handOn k .latched c.mask (post (.interlockCleared k .latched)
              { u with interlocks := u.interlocks.set k { u.interlock k with state := .closed } }))) s)) ∧
        ((s.interlock k).state ≠ .latched →
          exec (.ackInterlock port tag (BitVec.ofNat 8 k.val)) s =
            .next (answered port 4 (shortFrame 14 tag) id s))) ∧
      (∀ x, portService port = some x → maskHas c.mask x = false →
        exec (.ackInterlock port tag (BitVec.ofNat 8 k.val)) s = .next (answered port 4 (shortFrame 6 tag) id s)) ∧
      (maskHas c.mask .b = true → s.twoServices = false →
        exec (.ackInterlock .b tag (BitVec.ofNat 8 k.val)) s = .next (answered .b 4 (shortFrame 7 tag) id s))) ∧
  ∀ (port : PortId) (tag index : Byte) (s : State), loadEnded s = true →
    (4 ≤ index.toNat ∨ ∃ n : Fin 4, index = BitVec.ofNat 8 n.val ∧ s.interlockRec n = none) →
    ((∀ x, portService port = some x → present s x = true) →
      exec (.ackInterlock port tag index) s = .next (answered port 4 (shortFrame 8 tag) id s)) ∧
      (s.twoServices = false →
        exec (.ackInterlock .b tag index) s = .next (answered .b 4 (shortFrame 7 tag) id s))

/-! ## Configuration writes -/

/-- WRITE_PATTERN for a slot that is not in use (R33 to R35): the empty marker empties the slot; a record whose fields
pass replaces the whole slot, answered OK, or OK_CLAMPED where its verify window or persistence count was clamped. The
dirty flag is set, nothing is posted, and nothing else changes. A slot above 3 is BAD_FIELD. WRITE_PATTERN on a slot
in use is IN_USE (R32, R33): in force, pending target, or target of the job. A slot is in use (R32) where it is in
force for its service, the target of its pending request, or its target in the current job. That a pending request's
target is in use before adoption has finished too is the model's choice (log entry 49). -/
def Obligations.WritePatternReplacesTheSlot : Prop :=
  (∀ (port : PortId) (tag svc : Byte) (x : Svc) (k : Fin 4) (s : State), TakesWrite s port svc x →
     slotInUse s x k = false →
     (exec (.writePattern port tag svc (BitVec.ofNat 8 k.val) none) s =
       .next (answered port 6 (shortFrame 0 tag)
         (fun u => { u with cfg := u.cfg.setPattern x k none, dirty := true }) s)) ∧
       (∀ f p clamped, patternOfFrame f = some (p, clamped) → patternValid s p = true →
         exec (.writePattern port tag svc (BitVec.ofNat 8 k.val) (some f)) s =
           .next (answered port (130 + 2 * f.pairs.length) (shortFrame (if clamped then 2 else 0) tag)
             (fun u => { u with cfg := u.cfg.setPattern x k (some p), dirty := true }) s)) ∧
       (∀ f, (patternOfFrame f = none ∨ ∃ p clamped, patternOfFrame f = some (p, clamped) ∧ patternValid s p = false) →
         exec (.writePattern port tag svc (BitVec.ofNat 8 k.val) (some f)) s =
           .next (answered port (130 + 2 * f.pairs.length) (shortFrame 8 tag) id s)) ∧
       ∀ (slot : Byte) (body : Option PatternFrame), 4 ≤ slot.toNat →
         exec (.writePattern port tag svc slot body) s =
           .next (answered port (requestFrame (.writePattern port tag svc slot body)).length (shortFrame 8 tag) id s)) ∧
  (∀ (port : PortId) (tag svc : Byte) (x : Svc) (k : Fin 4) (body : Option PatternFrame) (s : State),
     TakesWrite s port svc x →
     ((s.svc x).inForce = some k ∨ (∃ r, (s.svc x).request = some r ∧ r.target = k) ∨
       ∃ j c, s.job = some j ∧ j.changing.find? (fun c => c.svc == x) = some c ∧ c.target = k) →
     exec (.writePattern port tag svc (BitVec.ofNat 8 k.val) body) s =
       .next (answered port (requestFrame (.writePattern port tag svc (BitVec.ofNat 8 k.val) body)).length
         (shortFrame 11 tag) id s)) ∧
  (∀ (x : Svc) (k : Fin 4) (s : State),
     slotInUse s x k = true ↔
       (s.svc x).inForce = some k ∨ (∃ r, (s.svc x).request = some r ∧ r.target = k) ∨
         ∃ j c, s.job = some j ∧ j.changing.find? (fun c => c.svc == x) = some c ∧ c.target = k)

/-- The record WRITE_PATTERN stores (R34): every field as written, the fallback policy and both enforcement levels of
every tower entry among them, the verify window clamped to 2-120 s and the persistence count to 1-15, with the clamp
reported exactly when one of them changed; and no field of it lies outside its values. The frames WRITE_PATTERN's
fields refuse (R33, R34): a label character outside 0x20-0x7E; a power, cutback percent, reference tower or policy
code outside its values; a present tower entry with a field or an enforcement code outside its values; a pair whose
point or position is out of range; and a point in two pairs. No other frame is refused here. That the flag bits R34
leaves undefined are not judged is the model's reading (log entry 13). -/
def Obligations.WrittenPatternHoldsTheFields : Prop :=
  (∀ (f : PatternFrame) (p : Pattern) (clamped : Bool), patternOfFrame f = some (p, clamped) →
     patternSound p ∧ p.label = f.label ∧ p.power = f.power.toNat ∧ p.cutback = f.cutback.toNat ∧
       p.refTower.val = f.refTower.toNat ∧ p.window = max 2 (min f.window.toNat 120) ∧
       p.persistence = max 1 (min f.persistence.toNat 15) ∧ policyCode p.policy = f.fallback.toNat ∧
       (clamped = true ↔ p.window ≠ f.window.toNat ∨ p.persistence ≠ f.persistence.toNat) ∧
       (∀ i : Fin 12, (p.towers[i]).isSome = (f.towers[i]).flags.getLsbD 0) ∧
       (∀ (i : Fin 12) t, p.towers[i] = some t →
         t.ratio = (f.towers[i]).ratio.toNat ∧ t.phase = (f.towers[i]).phase.toInt ∧
           t.ratioTol = (f.towers[i]).ratioTol.toNat ∧ t.phaseTol = (f.towers[i]).phaseTol.toNat ∧
           enforcementCode t.ratioEnf = (f.towers[i]).flags.toNat / 2 % 4 ∧
           enforcementCode t.phaseEnf = (f.towers[i]).flags.toNat / 8 % 4) ∧
       ∀ (i : Fin 32) (pos : Pos),
         p.map[i] = some pos ↔ (BitVec.ofNat 8 i.val, BitVec.ofNat 8 (posCode pos)) ∈ f.pairs) ∧
  (∀ f : PatternFrame,
     patternOfFrame f = none ↔
       (∃ k : Fin 8, (f.label[k]).toNat < 0x20 ∨ 0x7E < (f.label[k]).toNat) ∨
         f.power = 0 ∨ 10000 < f.power.toNat ∨ f.cutback.toNat < 10 ∨ 90 < f.cutback.toNat ∨ 11 < f.refTower.toNat ∨
         2 < f.fallback.toNat ∨
         (∃ i : Fin 12, (f.towers[i]).flags.getLsbD 0 = true ∧
           ((f.towers[i]).ratio = 0 ∨ 20000 < (f.towers[i]).ratio.toNat ∨
             (f.towers[i]).phase.toInt < -1800 ∨ 1799 < (f.towers[i]).phase.toInt ∨
             (f.towers[i]).ratioTol = 0 ∨ 500 < (f.towers[i]).ratioTol.toNat ∨
             (f.towers[i]).phaseTol = 0 ∨ 900 < (f.towers[i]).phaseTol.toNat ∨
             (f.towers[i]).flags.toNat / 2 % 4 = 3 ∨ (f.towers[i]).flags.toNat / 8 % 4 = 3)) ∨
         (∃ q ∈ f.pairs, 31 < q.1.toNat ∨ q.2 ≠ 1 ∧ q.2 ≠ 2) ∨ ¬ (f.pairs.map Prod.fst).Nodup)

/-- TUNE_PATTERN (R36, R39): the tuned record replaces the old one and the dirty flag is set; where the slot is in
force the service's outputs are computed again. An empty slot is PATTERN_EMPTY, a field out of range and a slot above
3 BAD_FIELD. What a tuning changes (R36): the cutback percent, the verify window and the persistence count, and in
each named tower its tolerances and enforcement levels; the label, the power, the reference tower, the policy, the map
and every reference stay. The tuning is clamped exactly when the window or the persistence count is stored otherwise
than written, and refused exactly when the cutback percent, or a field of a tower item, lies outside its values, or a
tower is absent or named twice. -/
def Obligations.TunePatternStoresTheTuning : Prop :=
  (∀ (port : PortId) (tag svc cut win per : Byte) (items : List TuneItem) (x : Svc) (k : Fin 4) (s : State),
     TakesWrite s port svc x →
     (∀ p q clamped, s.pattern x k = some p → tunedPattern p cut win per items = some (q, clamped) →
       exec (.tunePattern port tag svc (BitVec.ofNat 8 k.val) cut win per items) s =
         .next (answered port (9 + 7 * items.length) (shortFrame (if clamped then 2 else 0) tag)
           (fun u =>
             let u' : State := { u with cfg := u.cfg.setPattern x k (some q), dirty := true }
             if (u.svc x).inForce = some k then outputs x u' else u') s)) ∧
       (s.pattern x k = none →
         exec (.tunePattern port tag svc (BitVec.ofNat 8 k.val) cut win per items) s =
           .next (answered port (9 + 7 * items.length) (shortFrame 9 tag) id s)) ∧
       (∀ p, s.pattern x k = some p → tunedPattern p cut win per items = none →
         exec (.tunePattern port tag svc (BitVec.ofNat 8 k.val) cut win per items) s =
           .next (answered port (9 + 7 * items.length) (shortFrame 8 tag) id s)) ∧
       ∀ slot : Byte, 4 ≤ slot.toNat →
         exec (.tunePattern port tag svc slot cut win per items) s =
           .next (answered port (9 + 7 * items.length) (shortFrame 8 tag) id s)) ∧
  ((∀ (p q : Pattern) (cut win per : Byte) (items : List TuneItem) (clamped : Bool),
     tunedPattern p cut win per items = some (q, clamped) →
     (clamped = true ↔ q.window ≠ win.toNat ∨ q.persistence ≠ per.toNat) ∧ q.label = p.label ∧ q.power = p.power ∧ q.refTower = p.refTower ∧ q.policy = p.policy ∧ q.map = p.map ∧
       q.cutback = cut.toNat ∧ 10 ≤ q.cutback ∧ q.cutback ≤ 90 ∧ q.window = max 2 (min win.toNat 120) ∧
       q.persistence = max 1 (min per.toNat 15) ∧
       (∀ i : Fin 12, (q.towers[i]).isSome = (p.towers[i]).isSome ∧
         ((∀ it ∈ items, it.tower.toNat ≠ i.val) → q.towers[i] = p.towers[i])) ∧
       (∀ (i : Fin 12) t u, p.towers[i] = some t → q.towers[i] = some u → u.ratio = t.ratio ∧ u.phase = t.phase) ∧
       ∀ it ∈ items, ∃ (i : Fin 12) (u : TowerEntry), i.val = it.tower.toNat ∧ q.towers[i] = some u ∧
         u.ratioTol = it.ratioTol.toNat ∧ u.phaseTol = it.phaseTol.toNat ∧
         BitVec.ofNat 8 (enforcementCode u.ratioEnf) = it.ratioEnf ∧
         BitVec.ofNat 8 (enforcementCode u.phaseEnf) = it.phaseEnf) ∧
   ∀ (p : Pattern) (cut win per : Byte) (items : List TuneItem),
     tunedPattern p cut win per items = none ↔
       cut.toNat < 10 ∨ 90 < cut.toNat ∨
         (∃ it ∈ items, (∀ i : Fin 12, i.val = it.tower.toNat → p.towers[i] = none) ∨
           it.ratioTol = 0 ∨ 500 < it.ratioTol.toNat ∨ it.phaseTol = 0 ∨ 900 < it.phaseTol.toNat ∨
           2 < it.ratioEnf.toNat ∨ 2 < it.phaseEnf.toNat) ∨
         ¬ (items.map TuneItem.tower).Nodup)

/-- WRITE_SCHEDULE_ROW (R155): a row of at most four entries with strictly ascending minutes replaces the month's row
and sets the dirty flag; nothing is posted. Another list is BAD_FIELD, and so is a month outside 1-12. WRITE_ROUTE
(R176): the entry of the kind is replaced and the dirty flag set; a kind outside 1-32 or a code above 7 is BAD_FIELD.
-/
def Obligations.RowAndRouteWritesReplace : Prop :=
  (∀ (port : PortId) (tag svc : Byte) (x : Svc) (m : Fin 12) (entries : List (Half × Byte)) (s : State),
     TakesWrite s port svc x →
     (∀ row : List RowEntry, rowSound row →
       entries = row.map (fun e => (BitVec.ofNat 16 e.minute, BitVec.ofNat 8 e.slot.val)) →
       exec (.writeScheduleRow port tag svc (BitVec.ofNat 8 (m.val + 1)) entries) s =
         .next (answered port (6 + 3 * entries.length) (shortFrame 0 tag)
           (fun u => { u with cfg := u.cfg.setRow x m row, dirty := true }) s)) ∧
       ((¬ ∃ row : List RowEntry, rowSound row ∧
           entries = row.map (fun e => (BitVec.ofNat 16 e.minute, BitVec.ofNat 8 e.slot.val))) →
         exec (.writeScheduleRow port tag svc (BitVec.ofNat 8 (m.val + 1)) entries) s =
           .next (answered port (6 + 3 * entries.length) (shortFrame 8 tag) id s)) ∧
       ∀ month : Byte, (month = 0 ∨ 13 ≤ month.toNat) →
         exec (.writeScheduleRow port tag svc month entries) s =
           .next (answered port (6 + 3 * entries.length) (shortFrame 8 tag) id s)) ∧
  (∀ (tag kind ports : Byte) (s : State), SiteTakes s →
     (∀ (n : Fin 32) (p : PortSet), kind.toNat = n.val + 1 → ports.toNat = portSetCode p →
       exec (.writeRoute .site tag kind ports) s =
         .next (answered .site 5 (shortFrame 0 tag)
           (fun u => { u with cfg := { u.cfg with routes := u.cfg.routes.set n p }, dirty := true }) s)) ∧
       ((kind = 0 ∨ 32 < kind.toNat ∨ 7 < ports.toNat) →
         exec (.writeRoute .site tag kind ports) s = .next (answered .site 5 (shortFrame 8 tag) id s)))

/-- WRITE_POINT on a quiet site (R2, R3, R4): a record whose lines no other present record names, or the absent
marker, is installed with its bus side; a record that breaks the line rule is LINE_CONFLICT, an index or a field out
of range is BAD_FIELD, and a live site is SITE_LIVE. A site is live (R3) while the engine is not IDLE, or a present
service is VERIFYING, ON_AIR, CHANGING or STANDBY. The record a WRITE_POINT frame gives (R3): none for the absent
marker; otherwise each line, the hot mask and the stage as written, and the transit limit clamped to 50-2000 ms and
its 10 ms step, the clamp reported exactly when it changed. A frame is refused exactly where an expander is above 7, a
line above 15, the hot mask 0 or above 3, or the stage above 3. -/
def Obligations.WritePointInstallsTheRecord : Prop :=
  (∀ (tag : Byte) (i : Fin 32) (body : Option PointFrame) (s : State), SiteTakes s →
     (siteLive s = false → ∀ new clamped, pointOperand body = some (new, clamped) →
       (linesDistinct (s.cfg.points.set i new) →
         exec (.writePoint .site tag (BitVec.ofNat 8 i.val) body) s =
           .next (answered .site (requestFrame (.writePoint .site tag (BitVec.ofNat 8 i.val) body)).length
             (shortFrame (if clamped then 2 else 0) tag) (fun u => finish (installPoint i new u)) s)) ∧
         (linesDistinct s.cfg.points → ¬ linesDistinct (s.cfg.points.set i new) →
           exec (.writePoint .site tag (BitVec.ofNat 8 i.val) body) s =
             .next (answered .site (requestFrame (.writePoint .site tag (BitVec.ofNat 8 i.val) body)).length
               (shortFrame 13 tag) id s))) ∧
       (siteLive s = false → ∀ index : Byte, index ≠ 32 → (32 < index.toNat ∨ pointOperand body = none) →
         exec (.writePoint .site tag index body) s =
           .next (answered .site (requestFrame (.writePoint .site tag index body)).length (shortFrame 8 tag) id s)) ∧
       (siteLive s = true → ∀ index : Byte,
         exec (.writePoint .site tag index body) s =
           .next (answered .site (requestFrame (.writePoint .site tag index body)).length (shortFrame 12 tag) id s))) ∧
  (∀ s : State,
     siteLive s = true ↔
       s.job ≠ none ∨ ∃ x, (x = .a ∨ s.twoServices = true) ∧
         ((s.svc x).state = .verifying ∨ (s.svc x).state = .onAir ∨ (s.svc x).state = .changing ∨
           (s.svc x).state = .standby)) ∧
  (pointOperand none = some (none, false) ∧
   ∀ f : PointFrame,
     (pointOperand (some f) = none ↔
       7 < f.driveExp.toNat ∨ 15 < f.driveLine.toNat ∨ 7 < f.sense1Exp.toNat ∨ 15 < f.sense1Line.toNat ∨
         7 < f.sense2Exp.toNat ∨ 15 < f.sense2Line.toNat ∨ f.hot = 0 ∨ 3 < f.hot.toNat ∨ 3 < f.stage.toNat) ∧
       (∀ clamped, pointOperand (some f) ≠ some (none, clamped)) ∧
       ∀ r clamped, pointOperand (some f) = some (some r, clamped) →
         r.drive.exp.val = f.driveExp.toNat ∧ r.drive.line.val = f.driveLine.toNat ∧
           r.sense1.exp.val = f.sense1Exp.toNat ∧ r.sense1.line.val = f.sense1Line.toNat ∧
           r.sense2.exp.val = f.sense2Exp.toNat ∧ r.sense2.line.val = f.sense2Line.toNat ∧
           maskCode r.hot = f.hot.toNat ∧ r.stage.val = f.stage.toNat ∧
           r.transit = max 50 (min f.transit.toNat 2000) - max 50 (min f.transit.toNat 2000) % 10 ∧
           (clamped = true ↔ r.transit ≠ f.transit.toNat))

/-- What installing a record does to the configuration and the point (R4): the map holds the record at its index
alone, the dirty flag is set, and the point is not under drive; it keeps its commanded position where its drive line
is unchanged, is at position 1 on an expander in use, and has none otherwise; its sensed state is the one its lines
give. Other points keep their commanded position and their sensed state. On the bus side (R4, steps 2 to 4, R13): an
expander that goes out of use is UNUSED without an accepted value, its waiting transactions are gone and the result of
one on the bus is discarded; one that comes into use is INIT and its initialisation waits; one that stays in use with
other drive lines has its direction word and its output word waiting, behind every initialisation; and its health,
like every other expander, stays. That each sequence is queued whole is the model's reading (log entry 8). The written
point's sensed state is derived at once and judged as though it had changed (R4, R14, R58), and then the exits from
HELD are tried (R57); nothing else changes but what is said above. A record taken out is not judged. An expander is in
use while a present record names a line of it (R1), and a line is a drive line where a present record has it for its
drive (R7). A claim or a transaction of the bus is addressed to its expander, the EEPROM's to none. That A's exit is
tried before B's, and A is held before B, is the model's choice (log entry 59). -/
def Obligations.InstalledPointIsWrittenAfresh : Prop :=
  (∀ (i : Fin 32) (new : Option PointRec) (s : State),
     (installPoint i new s).cfg = { s.cfg with points := s.cfg.points.set i new } ∧
       (installPoint i new s).dirty = true ∧
       ((installPoint i new s).point i).underDrive = false ∧
       ((installPoint i new s).point i).commanded =
         (match s.pointRec i, new with
           | some o, some n =>
               if o.drive = n.drive then (s.point i).commanded
               else if inUse s.cfg.points n.drive.exp then some .one else none
           | none, some n => if inUse s.cfg.points n.drive.exp then some .one else none
           | _, none => none) ∧
       (∀ r, new = some r → ((installPoint i new s).point i).sensed = deriveSensed (installPoint i new s) r) ∧
       (∀ n, n ≠ i → ((installPoint i new s).point n).commanded = (s.point n).commanded ∧
         ((installPoint i new s).point n).sensed = (s.point n).sensed) ∧
       ∀ (was will moved : Fin 8 → Bool), (∀ e, was e = inUse s.cfg.points e) →
         (∀ e, will e = inUse (s.cfg.points.set i new) e) →
         (∀ e, moved e = true ↔
           ∃ n : Fin 16, isDriveLine s.cfg.points e n ≠ isDriveLine (s.cfg.points.set i new) e n) →
         (∀ e, (installPoint i new s).exp e =
           if was e && !will e then
             { health := .unused, lines := Vector.replicate 16 ⟨none, none⟩, confirm := .none }
           else if !was e && will e then { s.exp e with health := .init }
           else s.exp e) ∧
           (installPoint i new s).bus =
             { s.bus with
               queue :=
                 (s.bus.queue.filter fun q => !(was (claimExp q) && !will (claimExp q))) ++
                   (((List.finRange 8).filter fun e => !was e && will e).flatMap fun e =>
                     [.seq .initDirection e true, .seq .initReadback e true, .seq .initInput e true]) ++
                   (((List.finRange 8).filter fun e => was e && will e && moved e).flatMap fun e =>
                     [.seq .rewriteDirection e true, .seq .rewriteOutput e true])
               current := s.bus.current.map fun c =>
                 { c with
                   discarded := c.discarded || match txnExp c.txn with
                     | some e => was e && !will e
                     | none => false } }) ∧
  (∀ (i : Fin 32) (new : Option PointRec) (s t : State),
     t = { s with
           cfg := { s.cfg with points := s.cfg.points.set i new }
           dirty := true
           points := s.points.set i
             { commanded := ((installPoint i new s).point i).commanded, sensed := .unknown, underDrive := false }
           exps := (installPoint i new s).exps
           bus := (installPoint i new s).bus } →
       (new = none → installPoint i new s = autoExitAll t) ∧
         ∀ r, new = some r →
           installPoint i new s =
             autoExitAll (judgePoint
               { t with points := t.points.set i { t.point i with sensed := deriveSensed t r } } i)) ∧
  (∀ (points : Vector (Option PointRec) 32) (e : Fin 8) (n : Fin 16),
     (inUse points e = true ↔ ∃ (i : Fin 32) (r : PointRec), points[i] = some r ∧
       (r.drive.exp = e ∨ r.sense1.exp = e ∨ r.sense2.exp = e)) ∧
       (isDriveLine points e n = true ↔ ∃ (i : Fin 32) (r : PointRec), points[i] = some r ∧ r.drive = ⟨e, n⟩) ∧
       (∀ i : Fin 32, drivenFrom points e i = true ↔ ∃ r, points[i] = some r ∧ r.drive.exp = e) ∧
       ∀ (ts : List (Fin 32 × Pos)) (step : SeqStep) (flag : Bool),
         claimExp (.drive e ts) = e ∧ claimExp (.seq step e flag) = e ∧ txnExp (.drive e ts flag) = some e ∧
           txnExp (.seq step e flag) = some e ∧ txnExp (.scan e) = some e ∧ txnExp (.retry e) = some e ∧
           txnExp .eeprom = none)

/-- WRITE_SITE_BUS_RECORD on a quiet site (R5): base, speed and debounce interval are stored, the interval clamped to
4-64 ms and its 4 ms step with OK_CLAMPED, and the dirty flag is set. Where the base stays, no expander is touched; a
base outside its values or an unknown speed is BAD_FIELD. A live site, as WritePointInstallsTheRecord has it, is
SITE_LIVE (R3). That its transactions are not held against the entry check as R4's are, and that the exits from HELD
are tried after it, is the model's reading (log entry 32). A new base starts every expander in use again (R5): its
health is INIT, it has no accepted value, and the three steps of its initialisation wait in the drive-write queue; an
expander that is not in use is left alone. The steps wait in ascending expander index behind the claims of the
expanders not in use, every other claim is gone, and the result of a transaction on the bus of an expander in use is
discarded (R5); then every sensed state is derived, and the changes are reported and judged as
ScanReadDebouncesTheLines has it (R14). A base address R5 accepts is one of 0x08 to 0x70 outside the EEPROM's 0x50 to
0x57. That the steps are queued whole and that the change is judged as a disturbance is the model's reading (log
entries 8, 18), and so are the order of what is reported and A before B (log entries 10, 59). -/
def Obligations.WriteSiteBusStoresTheRecord : Prop :=
  (∀ (tag base speed : Byte) (debounce : Half) (s : State), SiteTakes s →
     (siteLive s = true →
       exec (.writeSiteBusRecord .site tag base speed debounce) s =
         .next (answered .site 8 (shortFrame 12 tag) id s)) ∧
     (siteLive s = false →
       (∀ sp d, baseValid base.toNat = true → speedOfCode speed = some sp →
         d = max 4 (min debounce.toNat 64) - max 4 (min debounce.toNat 64) % 4 →
         (base.toNat = s.cfg.base →
           exec (.writeSiteBusRecord .site tag base speed debounce) s =
             .next (answered .site 8 (shortFrame (if d = debounce.toNat then 0 else 2) tag)
               (fun u => finish (autoExitAll
                 { u with cfg := { u.cfg with base := base.toNat, speed := sp, debounce := d }, dirty := true })) s)) ∧
           (base.toNat ≠ s.cfg.base →
             exec (.writeSiteBusRecord .site tag base speed debounce) s =
               .next (answered .site 8 (shortFrame (if d = debounce.toNat then 0 else 2) tag)
                 (fun u => finish (autoExitAll (rebase
                   { u with
                     cfg := { u.cfg with base := base.toNat, speed := sp, debounce := d }, dirty := true }))) s))) ∧
         ((base.toNat < 0x08 ∨ 0x70 < base.toNat ∨ (0x50 ≤ base.toNat ∧ base.toNat ≤ 0x57) ∨ 1 < speed.toNat) →
           exec (.writeSiteBusRecord .site tag base speed debounce) s =
             .next (answered .site 8 (shortFrame 8 tag) id s)))) ∧
  ((∀ (s : State) (e : Fin 8), s.job = none →
     (inUse s.cfg.points e = true →
       ((rebase s).exp e).health = .init ∧ (∀ n : Fin 16, ((rebase s).exp e).lines[n] = LineRec.empty) ∧
         (rebase s).bus.queue.filter (fun c => claimExp c == e) =
           [.seq .initDirection e false, .seq .initReadback e false, .seq .initInput e false]) ∧
       (inUse s.cfg.points e = false → (rebase s).exp e = s.exp e)) ∧
   ∀ (s t : State) (used : Fin 8 → Bool), (∀ e, used e = inUse s.cfg.points e) →
     t = { s with
           exps := Vector.ofFn fun e : Fin 8 =>
             if used e then { health := .init, lines := Vector.replicate 16 ⟨none, none⟩, confirm := .none }
             else s.exp e
           bus := { s.bus with
             queue :=
               (s.bus.queue.filter fun q => !used (claimExp q)) ++
                 ((List.finRange 8).filter used).flatMap fun e =>
                   [.seq .initDirection e false, .seq .initReadback e false, .seq .initInput e false]
             current := s.bus.current.map fun c =>
               { c with
                 discarded := c.discarded || match txnExp c.txn with
                   | some e => used e
                   | none => false } } } →
       rebase s = reportSensed t) ∧
  (∀ base : Nat, baseValid base = true ↔ 0x08 ≤ base ∧ base ≤ 0x70 ∧ ¬(0x50 ≤ base ∧ base ≤ 0x57))

/-- WRITE_INTERLOCK on a quiet site (R19, R22): the settings are replaced, the fresh sample is the accepted level, no
debounce is in progress, and the state is OPEN for the open level, LATCHED where it was LATCHED and the new clearing
mode is LATCHED, and CLOSED otherwise; a change of state posts its event and is handed on. The settings a
WRITE_INTERLOCK frame gives (R19): none are kept of an absent interlock, whatever its other bytes; a present one has
its mask, motion-inhibit setting, clearing mode and active level as written, and is refused exactly where one of them
is outside its values. WRITE_INTERLOCK that makes an interlock absent (R22): CLOSED, no accepted level,
INTERLOCK_CLEARED where it was OPEN or LATCHED. The change is handed on with the mask the interlock had (log entry
17), and no settings are kept, the model's choice (log entry 16). An index outside 0-3 or a setting outside its values
is BAD_FIELD, and a live site, as WritePointInstallsTheRecord has it, is SITE_LIVE (R3, R19). The sample is the
command's operand (log entry 3); the order in which the change is handed on is the model's reading (log entries 38,
47), and a clearing mode code above 1 refused as BAD_FIELD is another reading (log entry 39). -/
def Obligations.WriteInterlockSetsTheState : Prop :=
  (∀ (tag : Byte) (k : Fin 4) (body : InterlockFrame) (pin : Bool) (c : InterlockSettings) (s : State), SiteTakes s →
     siteLive s = false → interlockOfFrame body = some (some c) →
     exec (.writeInterlock .site tag (BitVec.ofNat 8 k.val) body pin) s =
       .next (answered .site 9 (shortFrame 0 tag)
         (fun u =>
           let st : InterlockState :=
             if pin = c.activeHigh then .opened
             else if (u.interlock k).state = .latched ∧ c.latched = true then .latched else .closed
           let v : State :=
             { u with
               cfg := { u.cfg with interlocks := u.cfg.interlocks.set k (some c) }
               dirty := true
               interlocks := u.interlocks.set k { state := st, accepted := some pin, debounce := none } }
           finish
             (if st = (u.interlock k).state then v
              else handOn k (u.interlock k).state c.mask
               (if st = .opened then post (.interlockOpened k (u.interlock k).state) v
                else if st = .closed then post (.interlockCleared k (u.interlock k).state) v else v))) s)) ∧
  (∀ f : InterlockFrame,
     (interlockOfFrame f = none ↔
       1 < f.present.toNat ∨
         f.present = 1 ∧ (f.mask = 0 ∨ 3 < f.mask.toNat ∨ 1 < f.motionInhibit.toNat ∨ 1 < f.clearing.toNat ∨
           1 < f.active.toNat)) ∧
       (interlockOfFrame f = some none ↔ f.present = 0) ∧
       ∀ c, interlockOfFrame f = some (some c) →
         f.present = 1 ∧ maskCode c.mask = f.mask.toNat ∧ (c.motionInhibit = true ↔ f.motionInhibit = 1) ∧
           (c.latched = true ↔ f.clearing = 1) ∧ (c.activeHigh = true ↔ f.active = 1)) ∧
  (∀ (tag : Byte) (k : Fin 4) (body : InterlockFrame) (pin : Bool) (s : State), SiteTakes s →
     (siteLive s = true → ∀ index : Byte,
       exec (.writeInterlock .site tag index body pin) s = .next (answered .site 9 (shortFrame 12 tag) id s)) ∧
     (siteLive s = false → ∀ index : Byte,
       (4 ≤ index.toNat ∨ 1 < body.present.toNat ∨
         (body.present = 1 ∧
           (body.mask = 0 ∨ 3 < body.mask.toNat ∨ 1 < body.motionInhibit.toNat ∨ 1 < body.clearing.toNat ∨
             1 < body.active.toNat))) →
       exec (.writeInterlock .site tag index body pin) s = .next (answered .site 9 (shortFrame 8 tag) id s)) ∧
     (siteLive s = false → body.present = 0 →
       (s.interlockRec k = none ∨ (s.interlock k).state = .closed →
         exec (.writeInterlock .site tag (BitVec.ofNat 8 k.val) body pin) s =
           .next (answered .site 9 (shortFrame 0 tag)
             (fun u => finish
               { u with
                 cfg := { u.cfg with interlocks := u.cfg.interlocks.set k none }
                 dirty := true
                 interlocks := u.interlocks.set k
                   { state := (u.interlock k).state, accepted := none, debounce := none } }) s)) ∧
         ∀ c, s.interlockRec k = some c → (s.interlock k).state ≠ .closed →
           exec (.writeInterlock .site tag (BitVec.ofNat 8 k.val) body pin) s =
             .next (answered .site 9 (shortFrame 0 tag)
               (fun u => finish (handOn k (u.interlock k).state c.mask
                 (post (.interlockCleared k (u.interlock k).state)
                   { u with
                     cfg := { u.cfg with interlocks := u.cfg.interlocks.set k none }
                     dirty := true
                     interlocks := u.interlocks.set k
                       { state := .closed, accepted := none, debounce := none } }))) s)))

/-- WRITE_SERVICE_SETTINGS (R61, R111): the record is replaced, its times clamped to their limits and steps with
OK_CLAMPED, and the dirty flag is set; a new baud rate puts the receiver in HUNT without a partial frame, its other
state kept. A code or a minimum reference magnitude out of range is BAD_FIELD. -/
def Obligations.WriteServiceSettingsReplacesTheRecord : Prop :=
  ∀ (port : PortId) (tag svc : Byte) (x : Svc) (f : SettingsFrame) (s : State), TakesWrite s port svc x →
    (∀ (m : Mode) (mc : MuteConfirm) (b : Baud) (settle mute stale : Nat),
      modeOfCode f.initialMode = some m → muteConfirmOfCode f.muteConfirm = some mc → baudOfCode f.baud = some b →
      1 ≤ f.minRef.toNat →
      settle = max 50 (min f.settle.toNat 1000) - max 50 (min f.settle.toNat 1000) % 10 →
      mute = max 100 (min f.muteTimeout.toNat 5000) - max 100 (min f.muteTimeout.toNat 5000) % 100 →
      stale = max 2 (min f.stale.toNat 60) →
      exec (.writeServiceSettings port tag svc f) s =
        .next (answered port 14
          (shortFrame
            (if settle = f.settle.toNat ∧ mute = f.muteTimeout.toNat ∧ stale = f.stale.toNat then 0 else 2) tag)
          (fun u =>
            { u with
              cfg := { u.cfg with
                settings := u.cfg.settings.set x
                  { initialMode := m, muteConfirm := mc, settle := settle, muteTimeout := mute, stale := stale,
                    baud := b, minRef := f.minRef.toNat } }
              dirty := true
              receivers :=
                if b = (u.cfg.settings.get x).baud then u.receivers
                else u.receivers.set x
                  { u.receivers.get x with frame := .hunt, part := ⟨0, [], 0⟩, gapDue := none } }) s)) ∧
      ((1 < f.initialMode.toNat ∨ 1 < f.muteConfirm.toNat ∨ 2 < f.baud.toNat ∨ f.minRef = 0) →
        exec (.writeServiceSettings port tag svc f) s = .next (answered port 14 (shortFrame 8 tag) id s))

/-- SET_CLOCK (R152): a changed selection becomes the active source at once, with the divider from 0 and the tick-loss
timer started or stopped; a date given is taken, the flag set, CLOCK_SET posted and the services derived; the dirty
flag is set. An invalid date is BAD_FIELD, and so is a timebase code above 1, with or without a date. Both services
derived in one event (R161, R67): SCHEDULE_FIRED DERIVED is posted for A and then for B, for each that is present, in
AUTO, with the clock set, adoption finished, and a scheduled pattern while it is UNDETERMINED or has another slot in
force; and then their SCHEDULE requests are stored, A before B. -/
def Obligations.SetClockSelectsAndSets : Prop :=
  (∀ (tag : Byte) (tb : Timebase) (s : State), SiteTakes s →
     (exec (.setClock .site tag (BitVec.ofNat 8 (timebaseCode tb)) none) s =
       .next (answered .site 5 (shortFrame 0 tag)
         (fun u => finish
           { u with
             cfg := { u.cfg with timebase := tb }
             dirty := true
             clock :=
               if tb = u.cfg.timebase then u.clock
               else { u.clock with
                 active := tb, dividerStart := u.now
                 lossDue := if tb = .tickIn then some (u.now + 2000) else none
                 lastEdge := none } }) s)) ∧
       (∀ d : DateFrame, dateValid (dateOfFrame d) = true →
         exec (.setClock .site tag (BitVec.ofNat 8 (timebaseCode tb)) (some d)) s =
           .next (answered .site 12 (shortFrame 0 tag)
             (fun u =>
               let v : State :=
                 { u with
                   cfg := { u.cfg with timebase := tb }
                   clock := { time := dateOfFrame d, isSet := true, dividerStart := u.now,
                              active := if tb = u.cfg.timebase then u.clock.active else tb
                              lossDue :=
                               if tb = u.cfg.timebase then u.clock.lossDue
                               else if tb = .tickIn then some (u.now + 2000) else none
                              lastEdge := if tb = u.cfg.timebase then u.clock.lastEdge else none } }
               finish { deriveAll (post (.clockSet tb) v) with dirty := true }) s)) ∧
       (∀ d : DateFrame, dateValid (dateOfFrame d) = false →
         exec (.setClock .site tag (BitVec.ofNat 8 (timebaseCode tb)) (some d)) s =
           .next (answered .site 12 (shortFrame 8 tag) id s)) ∧
       ∀ timebase : Byte, 1 < timebase.toNat →
         exec (.setClock .site tag timebase none) s = .next (answered .site 5 (shortFrame 8 tag) id s) ∧
         ∀ d : DateFrame,
           exec (.setClock .site tag timebase (some d)) s = .next (answered .site 12 (shortFrame 8 tag) id s)) ∧
  (∀ (s t u v : State) (due : Svc → Option (Fin 4)) (asks : Fin 4 → Request),
     (∀ y k, due y = some k ↔
       present s y = true ∧ (s.svc y).mode = .auto ∧ s.clock.isSet = true ∧ s.phase = .running ∧
         (∃ m, scheduledPattern s y = some (k, m)) ∧
         ((s.svc y).state = .undetermined ∨ (s.svc y).inForce ≠ some k)) →
     (∀ k, asks k = { target := k, source := .schedule, tag := 0, revert := false }) →
     t = (match due .a with
       | some k => post (.scheduleFired .a k .derived) s
       | none => s) →
     u = (match due .b with
       | some k => post (.scheduleFired .b k .derived) t
       | none => t) →
     v = (match due .a with
       | some k => storeRequest .a (asks k) u
       | none => u) →
       deriveAll s = match due .b with
         | some k => storeRequest .b (asks k) v
         | none => v)

/-! ## Saves, resets, the load -/

/-- SAVE_CONFIG from the site port with no save in flight (R189, R190): answered OK; the image of the configuration is
built, page 0 is asked to be written, and the save is in flight. The dirty flag stays as it is. A save's page (R17,
R190): its write completed, the EEPROM is polled a millisecond later; an acknowledged poll asks for the readback, and
an unacknowledged one changes nothing; a readback that agrees goes on to the next page, or ends the save with
CONFIG_SAVED and the dirty flag clear at page 54; one that differs ends it with MISMATCH. How a save fails (R17,
R190): the page write or the readback that fails, or ten milliseconds of unacknowledged polls, end it with
WRITE_FAILED or READ_FAILED; the dirty flag stays, and no expander is touched; the bus is recovered after a failed
transaction (R6). A poll moment asks for one poll where the EEPROM is free. A transaction of the save that the bus has
not ended at its tenth millisecond fails the save like one that failed. The moments of the polls, and that their
commands carry the time forward, are the model's reading, and the record of the recovery is the model's own (log
entries 5, 27, 45). -/
def Obligations.SaveRunsPageByPage : Prop :=
  (∀ (tag : Byte) (s : State), SiteTakes s →
     exec (.saveConfig .site tag) s =
       .next (answered .site 3 (shortFrame 0 tag)
         (fun u => finish
           { u with
             store := .saving 0 (imageOf u.cfg) .writing
             bus := { u.bus with eeprom := some (.pageWrite 0 ((imageOf u.cfg).take 32)) } }) s)) ∧
  (∀ (s : State) (c : Current) (page : Nat) (image : List Byte) (data : Vector Byte 32),
     s.bus.current = some c → c.txn = .eeprom → c.discarded = false →
     (∀ bytes, c.op = .pageWrite page bytes → s.store = .saving page image .writing →
       exec .eepromPageWriteComplete s =
         .next (finish { busFreed s with store := .saving page image (.polling s.now (s.now + 1)) })) ∧
       (∀ written next, c.op = .ackPoll → s.store = .saving page image (.polling written next) →
         exec (.eepromAckPollEnd true) s =
           .next (finish
             { s with
               store := .saving page image .reading
               bus := { s.bus with current := none, eeprom := some (.pageRead page) } }) ∧
           exec (.eepromAckPollEnd false) s = .next (finish (busFreed s))) ∧
       (c.op = .pageRead page → s.store = .saving page image .reading →
         (data.toList = (image.drop (32 * page)).take 32 → page < 54 →
           exec (.eepromPageReadComplete data) s =
             .next (finish
               { s with
                 store := .saving (page + 1) image .writing
                 bus := { s.bus with
                   current := none
                   eeprom := some (.pageWrite (page + 1) ((image.drop (32 * (page + 1))).take 32)) } })) ∧
           (data.toList = (image.drop (32 * page)).take 32 → page = 54 →
             exec (.eepromPageReadComplete data) s =
               .next (finish (post .configSaved { busFreed s with store := .idle, dirty := false }))) ∧
           (data.toList ≠ (image.drop (32 * page)).take 32 →
             exec (.eepromPageReadComplete data) s =
               .next (finish (post (.configSaveFailed .mismatch)
                 { s with store := .idle, bus := { s.bus with current := none, eeprom := none } }))))) ∧
  (∀ (s : State) (page : Nat) (image : List Byte),
     (∀ c, s.bus.current = some c → c.txn = .eeprom → c.discarded = false →
       (∀ bytes, c.op = .pageWrite page bytes → s.store = .saving page image .writing →
         exec .eepromTransactionFailed s =
           .next (finish (post (.configSaveFailed .writeFailed)
             { s with
               store := .idle
               bus := { s.bus with current := none, eeprom := none, recovered := [.stop, .clocks 9, .stop] } }))) ∧
         (c.op = .pageRead page → s.store = .saving page image .reading →
           exec .eepromTransactionFailed s =
             .next (finish (post (.configSaveFailed .readFailed)
               { s with
                 store := .idle
                 bus := { s.bus with current := none, eeprom := none, recovered := [.stop, .clocks 9, .stop] } })))) ∧
       (∀ c t, s.bus.current = some c → c.txn = .eeprom →
         t = { s with
               now := max s.now (c.grantedAt + 10)
               store := .idle
               bus := { s.bus with current := none, eeprom := none, recovered := [.stop, .clocks 9, .stop] } } →
         (c.discarded = true →
           exec .busTransactionTimeout s =
             .next (finish { busRecovered s with now := max s.now (c.grantedAt + 10) })) ∧
           (c.discarded = false →
             (s.store = .saving page image .writing ∨ ∃ written next, s.store = .saving page image (.polling written next)) →
             exec .busTransactionTimeout s = .next (finish (post (.configSaveFailed .writeFailed) t))) ∧
           (c.discarded = false → s.store = .saving page image .reading →
             exec .busTransactionTimeout s = .next (finish (post (.configSaveFailed .readFailed) t)))) ∧
       ∀ written next, s.store = .saving page image (.polling written next) →
         (s.bus.eeprom = none → (∀ c, s.bus.current = some c → c.txn ≠ .eeprom) →
           exec .eepromPollInterval s =
             .next (finish
               { s with
                 now := max s.now next
                 store := .saving page image (.polling written (next + 1))
                 bus := { s.bus with eeprom := some .ackPoll } })) ∧
           ((s.bus.eeprom ≠ none ∨ ∃ c, s.bus.current = some c ∧ c.txn = .eeprom) →
             exec .eepromPollInterval s =
               .next { s with now := max s.now next, store := .saving page image (.polling written (next + 1)) }) ∧
           exec .eepromPollTimeout s =
             .next (finish (post (.configSaveFailed .writeFailed)
               { s with
                 now := max s.now (written + 10)
                 store := .idle
                 bus := { s.bus with
                   eeprom := none
                   current := s.bus.current.map fun c => if c.txn = .eeprom then { c with discarded := true } else c } })))

/-- What a warm reset keeps and clears (R184): configuration, dirty flag, clock and LATCHED interlocks stay; service
records, the job, requests, tables, receivers, queues, expanders and points take their reset values, each mode the
configured initial mode, and its permit falls before its cutback output (R55); the transaction on the bus is
discarded; the store and the scanner stop. The four ways a reset is taken (R181, R184, R185): a power-on puts every
block at its power-on value with SVCS captured; RESET_N low holds the warm-reset state, and stays so; its release
captures SVCS and starts the part, or starts the image load again where the power-on load had not ended; RESET_PART
does both in one event and answers OK. SVCS is the command's operand, a transaction on the bus runs on with its result
discarded, and the model's own fields of time, queue, bytes shifted out, edges and bus recovery are its choice (log
entries 3, 26, 28, 33, 34, 45); that a power-on is taken while RESET_N is held low, and that a release without an
assertion changes nothing, is its choice too (log entry 51), and so is a save no longer in flight from the reset on
(log entry 60). -/
def Obligations.ResetsAreTaken : Prop :=
  (∀ s : State,
     warmReset s =
       { s with
         phase := .resetHeld
         store := .idle
         bus :=
           { queue := []
             eeprom := none
             current := s.bus.current.map fun c => { c with discarded := true }
             recovered := s.bus.recovered
             scanner := State.reset.bus.scanner }
         exps := State.reset.exps
         points := State.reset.points
         expAttn := false
         interlocks := Vector.ofFn fun k : Fin 4 =>
           { state := if (s.interlock k).state = .latched then .latched else .closed, accepted := none, debounce := none }
         rfdown := ⟨false, false⟩
         svcs :=
           ⟨{ State.reset.svcs.a with
               mode := s.cfg.settings.a.initialMode, edges := edgesTo s.svcs.a false false },
             { State.reset.svcs.b with
               mode := s.cfg.settings.b.initialMode, edges := edgesTo s.svcs.b false false }⟩
         arrival := []
         job := none
         receivers := State.reset.receivers
         tables := State.reset.tables
         ports := ⟨{ State.reset.ports.a with shifted := s.ports.a.shifted },
           { State.reset.ports.b with shifted := s.ports.b.shifted },
           { State.reset.ports.site with shifted := s.ports.site.shifted }⟩ }) ∧
  (∀ (svcs : Bool) (tag : Byte) (s : State),
     (exec (.powerOnReset svcs) s = .next { State.reset with twoServices := svcs, pending := s.pending }) ∧
       (s.phase ≠ .resetHeld → exec .resetNAsserted s = .next (warmReset s)) ∧
       (s.phase = .resetHeld → exec .resetNAsserted s = .next s) ∧
       (s.phase = .resetHeld → s.coldLoaded = true →
         exec (.resetNReleased svcs) s = .next (finish (startBlocks { s with twoServices := svcs }))) ∧
       (s.phase = .resetHeld → s.coldLoaded = false →
         exec (.resetNReleased svcs) s =
           .next (finish
             { s with
               twoServices := svcs, phase := .loading, store := .loading 0 []
               bus := { s.bus with eeprom := some (.pageRead 0) } })) ∧
       (s.phase ≠ .resetHeld → exec (.resetNReleased svcs) s = .next s) ∧
       (loadEnded s = true → s.coldLoaded = true →
         exec (.resetPart .site tag svcs) s =
           .next (answered .site 3 (shortFrame 0 tag)
             (fun u => finish (startBlocks { warmReset u with twoServices := svcs })) s)))

/-- What starts at a load end (R182, R183): the receivers of the present services, with their staleness timers; INIT
and the three steps of its initialisation for every in-use expander, in ascending index; nothing else is asked of the
bus. The image load (R181, R182): a page that is not the last is gathered and the next is asked for; the last ends the
load with the image judged; and a failed page read, or one the bus has not ended at its tenth millisecond (R6), ends
it with no image. A valid image is copied to configuration RAM; without one RAM holds the blank configuration and
ADOPTION_FAILED is posted. Either way the dirty flag is clear, the modes are the configured initial modes, and the
blocks start. The blank configuration (R182, R175), and the timebase of a load end (R150): TICK_IN selected is active
from it, with its 2 s loss timer. That each sequence is queued whole, and that a time-out carries the time forward, is
the model's reading, and the record of the bus recovery is the model's own (log entries 5, 8, 45). -/
def Obligations.LoadEndStartsTheBlocks : Prop :=
  (∀ s : State,
     startBlocks s =
       { s with
         phase := .starting
         receivers :=
           ⟨{ State.reset.receivers.a with started := true, staleDue := some (s.now + s.cfg.settings.a.stale * 1000) },
             if s.twoServices then
               { State.reset.receivers.b with
                 started := true, staleDue := some (s.now + s.cfg.settings.b.stale * 1000) }
             else s.receivers.b⟩
         exps := Vector.ofFn fun e : Fin 8 =>
           if inUse s.cfg.points e then { s.exp e with health := .init } else s.exp e
         bus := { s.bus with
           queue := s.bus.queue ++ ((List.finRange 8).filter (inUse s.cfg.points)).flatMap fun e =>
             [.seq .initDirection e false, .seq .initReadback e false, .seq .initInput e false] } }) ∧
  (∀ (s : State) (c : Current) (data : Vector Byte 32) (page : Nat) (buffer : List Byte),
     s.bus.current = some c → c.txn = .eeprom → c.op = .pageRead page → c.discarded = false →
     s.store = .loading page buffer →
     (page < 54 →
       exec (.eepromPageReadComplete data) s =
         .next (finish
           { s with
             store := .loading (page + 1) (buffer ++ data.toList)
             bus := { s.bus with current := none, eeprom := some (.pageRead (page + 1)) } })) ∧
       (page = 54 →
         exec (.eepromPageReadComplete data) s =
           .next (finish (powerOnLoadEnd (configOf ((buffer ++ data.toList).take 1758)) (busFreed s)))) ∧
       (exec .eepromTransactionFailed s = .next (finish (powerOnLoadEnd none (busRecovered s)))) ∧
       (exec .busTransactionTimeout s =
         .next (finish (powerOnLoadEnd none { busRecovered s with now := max s.now (c.grantedAt + 10) }))) ∧
       (∀ (image : Option ConfigRam) (u : State),
         powerOnLoadEnd image u =
           (let cfg := image.getD ConfigRam.blank
            let v := startBlocks (applyTimebase
             { u with
               cfg := cfg, imageValid := image.isSome, dirty := false, coldLoaded := true, store := .idle
               svcs := ⟨{ u.svcs.a with mode := cfg.settings.a.initialMode },
                 { u.svcs.b with mode := cfg.settings.b.initialMode }⟩ })
            if image = none then post (.adoptionFailed none .imageInvalid) v else v))) ∧
  ((∀ blank : ServiceSettings,
     blank = { initialMode := .manual, muteConfirm := .fixed, settle := 200, muteTimeout := 2000, stale := 10,
               baud := .b19200, minRef := 500 } →
     ConfigRam.blank =
       { points := Vector.replicate 32 none, base := 0x30, speed := .khz100, debounce := 16
         interlocks := Vector.replicate 4 none, settings := ⟨blank, blank⟩
         patterns := ⟨Vector.replicate 4 none, Vector.replicate 4 none⟩
         rows := ⟨Vector.replicate 12 [], Vector.replicate 12 []⟩
         routes := Vector.replicate 32 ⟨true, true, true⟩, timebase := .internal }) ∧
     ∀ s : State,
       (s.cfg.timebase = .internal → applyTimebase s = s) ∧
         (s.cfg.timebase = .tickIn →
           applyTimebase s =
             { s with
               clock := { s.clock with
                 active := .tickIn, dividerStart := s.now, lossDue := some (s.now + 2000), lastEdge := none } }))

/-! ## The contactor bus -/

/-- The debounce of a line at a completed read (R13), case by case: an idle line that reads its accepted value does
not change; one that differs becomes pending from this read; a pending line that reads its accepted value is idle
again; one whose candidate has not stood for its interval stays pending; and one whose candidate has takes it as
accepted. The sensed state of a present point (R14): made and open is AT_1, open and made AT_2, both open MOVING, both
made CONFLICT, and UNKNOWN while either line has no accepted value; a made contact reads 0 (R7). A point stands at
position 1 where it is sensed AT_1, at 2 where AT_2, and at neither otherwise. The words the part writes (R7): a bit
of the direction word is 1 exactly for the drive line of a present point, and a bit of the output word exactly for the
drive line of a point commanded to position 2, where no line is named twice. The form of each transaction on the bus
(R6, R17, R180): after the start and the address with write, a write sends its selector, 2 for the direction word and
1 for the output word, and the word's high and low byte; a read sends its selector, 0 for the input word and 1 for the
output word, and receives two bytes after a repeated start and the address with read; a page write sends the two bytes
of the page's first byte address, high byte first, and its data; a page read sends the two address bytes and receives
32; a poll sends nothing more; and a stop ends each. -/
def Obligations.ExpanderLinesGiveSensedStates : Prop :=
  (∀ (now interval : Nat) (acc : Option Bool) (d : Debounce) (bit : Bool),
     (acc = some bit → sampleLine now interval ⟨acc, none⟩ bit = ⟨acc, none⟩) ∧
       (acc ≠ some bit → sampleLine now interval ⟨acc, none⟩ bit = ⟨acc, some ⟨bit, now, interval⟩⟩) ∧
       (acc = some bit → sampleLine now interval ⟨acc, some d⟩ bit = ⟨acc, none⟩) ∧
       (acc ≠ some bit → now - d.start < d.interval → sampleLine now interval ⟨acc, some d⟩ bit = ⟨acc, some d⟩) ∧
       (acc ≠ some bit → d.interval ≤ now - d.start → sampleLine now interval ⟨acc, some d⟩ bit = ⟨some bit, none⟩)) ∧
  (∀ (s : State) (r : PointRec) (a b : Option Bool),
     (s.exp r.sense1.exp).lines[r.sense1.line].accepted = a → (s.exp r.sense2.exp).lines[r.sense2.line].accepted = b →
       (deriveSensed s r = .at1 ↔ a = some false ∧ b = some true) ∧
         (deriveSensed s r = .at2 ↔ a = some true ∧ b = some false) ∧
         (deriveSensed s r = .moving ↔ a = some true ∧ b = some true) ∧
         (deriveSensed s r = .conflict ↔ a = some false ∧ b = some false) ∧
         (deriveSensed s r = .unknown ↔ a = none ∨ b = none)) ∧
  (∀ (st : Sensed) (pos : Pos), sensedAt st pos = true ↔ st = .at1 ∧ pos = .one ∨ st = .at2 ∧ pos = .two) ∧
  (∀ (s : State) (e : Fin 8) (n : Fin 16),
     ((directionWord s e).getLsbD n.val = true ↔ ∃ (i : Fin 32) (r : PointRec), s.pointRec i = some r ∧ r.drive = ⟨e, n⟩) ∧
       ((outputWord s e).getLsbD n.val = true ↔
         ∃ (i : Fin 32) (r : PointRec), s.pointRec i = some r ∧ r.drive = ⟨e, n⟩ ∧ (s.point i).commanded = some .two)) ∧
  (∀ (c : Current) (word : Half) (page : Nat) (data : List Byte) (opening : List BusItem) (sent : Nat → List BusItem),
     opening = [.start, .address c.address false] →
     (∀ n, sent n = [.send (BitVec.ofNat 8 (n / 256)), .send (BitVec.ofNat 8 n)]) →
     (c.op = .writeDirection word → busForm c = opening ++ [.send 2] ++ sent word.toNat ++ [.stop]) ∧
       (c.op = .writeOutput word → busForm c = opening ++ [.send 1] ++ sent word.toNat ++ [.stop]) ∧
       (c.op = .readInput →
         busForm c = opening ++ [.send 0, .repeatedStart, .address c.address true, .receive 2, .stop]) ∧
       (c.op = .readOutput →
         busForm c = opening ++ [.send 1, .repeatedStart, .address c.address true, .receive 2, .stop]) ∧
       (c.op = .pageWrite page data → page < 64 →
         busForm c = opening ++ sent (32 * page) ++ data.map .send ++ [.stop]) ∧
       (c.op = .pageRead page → page < 64 →
         busForm c = opening ++ sent (32 * page) ++ [.repeatedStart, .address c.address true, .receive 32, .stop]) ∧
       (c.op = .ackPoll → busForm c = opening ++ [.stop]))

/-- EXPANDER_INIT_TRANSACTION_COMPLETE by step (R8, R183): after the direction word nothing more changes; the readback
gives each point driven from the expander its commanded position; the input word gives every line its accepted value
without debounce and the expander is OK, its confirmation read due one debounce interval later while start-up runs.
The confirmation read (R183): when it falls due it waits in the drive-write queue, and a due that is not set changes
nothing (log entry 1); when it completes, each line's value is its accepted value with no debounce, and the sensed
states are derived and reported. Once the last transaction that a WRITE_POINT queued has ended (R4, R57), the exits
from HELD are tried; a transaction it did not queue tries none. A transaction whose result is discarded (R184, R4,
R5): when it ends, of whatever kind, the bus is free, or recovered where it failed or timed out (R6), and its result
is not taken. When the read falls due also after a restore, that its command carries the time forward, and that the
bus is busy until a discarded transaction ends, is the model's reading (log entries 5, 19, 33); the order of what is
reported, the record of the recovery, and A's exit tried before B's are too (log entries 10, 45, 59), as are the
readback's points, one that a service on the air lists among them (log entries 22, 62). -/
def Obligations.InitialisationTakesTheExpander : Prop :=
  (∀ (word : Half) (e : Fin 8) (r4 : Bool) (c : Current) (s : State),
     (onBus s (.seq .initDirection e r4) c →
       exec (.expanderInitTransactionComplete word) s = .next (finish (afterTxn c (busFreed s)))) ∧
       (onBus s (.seq .initReadback e r4) c →
         exec (.expanderInitTransactionComplete word) s =
           .next (finish (afterTxn c
             { busFreed s with
               points := Vector.ofFn fun i : Fin 32 =>
                 match s.pointRec i with
                 | some r =>
                     if r.drive.exp = e then
                       { s.point i with commanded := some (if word.getLsbD r.drive.line.val then .two else .one) }
                     else s.point i
                 | none => s.point i }))) ∧
       (onBus s (.seq .initInput e r4) c →
         exec (.expanderInitTransactionComplete word) s =
           .next (finish (afterTxn c (reportSensed
             { busFreed s with
               exps := s.exps.set e
                 { health := .ok
                   lines := Vector.ofFn fun n : Fin 16 => { accepted := some (word.getLsbD n.val), debounce := none }
                   confirm := if s.phase = .starting then .due (s.now + s.cfg.debounce) else .none } }))))) ∧
  (∀ (word : Half) (e : Fin 8) (c : Current) (s : State),
     (∀ t, (s.exp e).confirm = .due t →
       exec (.confirmationReadDue e) s =
         .next (finish
           { s with
             now := max s.now t
             exps := s.exps.set e { s.exp e with confirm := .queued }
             bus := { s.bus with queue := s.bus.queue ++ [.seq .confirmInput e false] } })) ∧
       ((∀ t, (s.exp e).confirm ≠ .due t) → exec (.confirmationReadDue e) s = .next s) ∧
       (onBus s (.seq .confirmInput e false) c →
         exec (.confirmationReadComplete word) s =
           .next (finish (reportSensed
             { busFreed s with
               exps := s.exps.set e
                 { s.exp e with
                   lines := Vector.ofFn fun n : Fin 16 => { accepted := some (word.getLsbD n.val), debounce := none }
                   confirm := .done } })))) ∧
  (∀ (c : Current) (s : State) (step : SeqStep) (e : Fin 8) (ts : List (Fin 32 × Pos)) (flag : Bool),
     (∀ last : Prop,
       (last ↔ txnR4 c.txn = true ∧ (∀ q ∈ s.bus.queue, claimR4 q = false) ∧
         ∀ d, s.bus.current = some d → txnR4 d.txn = false) →
       (last → afterTxn c s = autoExitAll s) ∧ (¬ last → afterTxn c s = s)) ∧
       claimR4 (.seq step e flag) = flag ∧ claimR4 (.drive e ts) = false ∧ txnR4 (.seq step e flag) = flag ∧
       txnR4 (.drive e ts flag) = false ∧ txnR4 (.scan e) = false ∧ txnR4 (.retry e) = false ∧ txnR4 .eeprom = false) ∧
  (∀ (word : Half) (data : Vector Byte 32) (acked : Bool) (c : Current) (s t u : State) (after : State → State),
     s.bus.current = some c → c.discarded = true →
     (∀ v, after v = if txnR4 c.txn = true ∧ v.bus.queue.any claimR4 = false then autoExitAll v else v) →
     t = finish (after (busFreed s)) → u = finish (after (busRecovered s)) →
       ((∃ step e r4, c.txn = .seq step e r4 ∧ isInitStep step = true) →
         exec (.expanderInitTransactionComplete word) s = .next t) ∧
       ((∃ e r4, c.txn = .seq .confirmInput e r4) → exec (.confirmationReadComplete word) s = .next t) ∧
       ((∃ step e r4, c.txn = .seq step e r4 ∧ isRestoreStep step = true) →
         exec (.restoreTransactionComplete word) s = .next t) ∧
       ((∃ e r4, c.txn = .seq .rewriteDirection e r4 ∨ c.txn = .seq .rewriteOutput e r4) →
         exec .directionOutputRewriteComplete s = .next t) ∧
       ((∃ e, c.txn = .scan e) → exec (.scanReadComplete word) s = .next t) ∧
       ((∃ e, c.txn = .retry e) → exec (.retryReadComplete word) s = .next t) ∧
       ((∃ e ts live, c.txn = .drive e ts live) → exec .driveWriteComplete s = .next t) ∧
       ((∃ page, c.op = .pageRead page) →
         exec (.eepromPageReadComplete data) s = .next t ∧ exec .eepromTransactionFailed s = .next u) ∧
       ((∃ page bytes, c.op = .pageWrite page bytes) →
         exec .eepromPageWriteComplete s = .next t ∧ exec .eepromTransactionFailed s = .next u) ∧
       (c.op = .ackPoll → exec (.eepromAckPollEnd acked) s = .next t) ∧
       (txnExp c.txn ≠ none → exec .expanderTransactionFailed s = .next u) ∧
       exec .busTransactionTimeout s =
         .next (finish (after { busRecovered s with now := max s.now (c.grantedAt + 10) })))

/-- SCAN_READ_COMPLETE (R13, R14): every line of the expander is debounced against its bit of the word, and the sensed
states are derived and reported; a completion that is not of a scan read changes nothing (log entry 1). Sensed-state
changes are reported (R14): afterwards every present point has the sensed state its lines give, an absent one keeps
its own, and the lines, the healths, the configuration and the clock stay. The changed points are judged in ascending
order, the Transfer Engine is told, and then the exits from HELD whose check reads a changed point are tried, A before
B (R57). Reported changes at the engine (R88, R89, R97, R99): in TRANSFER the lowest changed point of the stage that
is sensed UNKNOWN or CONFLICT, or has left its position after its limit, is a transfer fault, and without one the
stage is tested; in a rollback stage the lowest changed point that is UNKNOWN after its write was answered, or has
left its position after its limit, is a rollback failure, and without one the stage is tested. A change of no point of
the stage, one while rollback waits for an answer, and one in any other phase, leave the job as it is. The order of
what is reported, A before B in it, is the model's reading (log entries 10, 59), and so is the rank of the reasons
(log entry 11). -/
def Obligations.ScanReadDebouncesTheLines : Prop :=
  (∀ (word : Half) (e : Fin 8) (c : Current) (s : State),
     (onBus s (.scan e) c →
       exec (.scanReadComplete word) s =
         .next (finish (reportSensed
           { busFreed s with
             exps := s.exps.set e
               { s.exp e with
                 lines := Vector.ofFn fun n : Fin 16 =>
                   sampleLine s.now s.cfg.debounce (s.exp e).lines[n] (word.getLsbD n.val) } }))) ∧
       ((∀ d, s.bus.current = some d → ∀ f, d.txn ≠ .scan f) → exec (.scanReadComplete word) s = .next s)) ∧
  (∀ s : State,
     (∀ i, ((reportSensed s).point i).sensed =
       match s.pointRec i with
       | some r => deriveSensed s r
       | none => (s.point i).sensed) ∧
       (reportSensed s).exps = s.exps ∧ (reportSensed s).cfg = s.cfg ∧ (reportSensed s).clock = s.clock ∧
       ∀ (u : State) (changed : List (Fin 32)),
         u = { s with
               points := Vector.ofFn fun i : Fin 32 =>
                 match s.pointRec i with
                 | some r => { s.point i with sensed := deriveSensed s r }
                 | none => s.point i } →
         changed = (List.finRange 32).filter (fun i => decide ((u.point i).sensed ≠ (s.point i).sensed)) →
         judgePoints changed u = changed.foldl (fun v i => judgePoint v i) u ∧
           reportSensed s =
             autoExitReading .b changed (autoExitReading .a changed (engineSensed changed (judgePoints changed u)))) ∧
  (∀ (changed : List (Fin 32)) (s : State) (fwd bwd : Move → FaultReason → Prop),
     (∀ m r, fwd m r ↔
       (s.point m.point).sensed = .unknown ∧ r = .expander ∨ (s.point m.point).sensed = .conflict ∧ r = .conflict ∨
         (s.point m.point).sensed ≠ .unknown ∧ (s.point m.point).sensed ≠ .conflict ∧ m.timer = .spent ∧
           sensedAt (s.point m.point).sensed m.toPos = false ∧ r = .noArrival) →
     (∀ m r, bwd m r ↔
       (s.point m.point).sensed = .unknown ∧ m.timer ≠ .off ∧ r = .expander ∨
         (s.point m.point).sensed ≠ .unknown ∧ m.timer = .spent ∧
           sensedAt (s.point m.point).sensed (backPos m) = false ∧ r = .noArrival) →
     (s.job = none → engineSensed changed s = s) ∧
       ∀ j : Job, s.job = some j →
         (j.stage = none ∨ j.phase = .muting ∨ (∃ d, j.phase = .paused d) ∨ j.phase = .rollback ∧ j.awaiting = true →
           engineSensed changed s = s) ∧
         ∀ (k : Fin 4) (ms : List Move), j.stage = some k →
           (j.phase = .transfer → ms = j.moves.filter (fun m => decide (m.stage = k ∧ m.point ∈ changed)) →
             (ms = [] → engineSensed changed s = s) ∧
               (ms ≠ [] → (∀ m ∈ ms, ∀ r, ¬ fwd m r) → engineSensed changed s = testStage j s) ∧
               ∀ m ∈ ms, ∀ r, fwd m r → ms.Pairwise (fun a b => a.point < b.point) →
                 (∀ n ∈ ms, ∀ q, fwd n q → m.point ≤ n.point) →
                 engineSensed changed s = transferFault j m.point r s) ∧
             (j.phase = .rollback → j.awaiting = false →
               ms = j.moves.filter
                 (fun m => decide (m.stage = k ∧ m.driven = true ∧ m.fromPos ≠ none ∧ m.point ∈ changed)) →
               (ms = [] → engineSensed changed s = s) ∧
                 (ms ≠ [] → (∀ m ∈ ms, ∀ r, ¬ bwd m r) → engineSensed changed s = testRollback j s) ∧
                 ∀ m ∈ ms, ∀ r, bwd m r → ms.Pairwise (fun a b => a.point < b.point) →
                   (∀ n ∈ ms, ∀ q, bwd n q → m.point ≤ n.point) →
                   engineSensed changed s = rollbackFailed j m.point r s))

/-- RETRY_READ_COMPLETE and RESTORE_TRANSACTION_COMPLETE (R16): a retry that completes queues the three steps of the
restore; a read-back output word gives the commanded positions; the input word makes the expander OK and every sensed
state is derived; every point of the expander that is not under drive and does not agree posts POINT_DISTURBED,
whether its sensed state changed or not, the changes are reported to the engine, and EXPANDER_RESTORED is posted after
them. Which points are the expander's, that one under drive is not judged, and that an unchanged one is reported to
the services too, their ascending index, and the exits from HELD after EXPANDER_RESTORED, are the model's choice (log
entry 44). DIRECTION_OUTPUT_REWRITE_COMPLETE (R4, R57): the bus is free,
and with the last of them the exits from HELD are tried. That the restore is queued whole, what the readback sets and
the order of what is reported are the model's reading (log entries 8, 10, 22, 62), and so are the confirmation read
after a restore and A's exit tried before B's (log entries 19, 59). -/
def Obligations.RestoreBringsAnExpanderBack : Prop :=
  (∀ (word : Half) (e : Fin 8) (c : Current) (s : State),
     (onBus s (.retry e) c →
       exec (.retryReadComplete word) s =
         .next (finish
           { s with
             bus := { s.bus with
               current := none
               queue := s.bus.queue ++
                 [.seq .restoreDirection e false, .seq .restoreOutput e false, .seq .restoreInput e false] } })) ∧
       (onBus s (.seq .restoreDirection e false) c ∨
           (onBus s (.seq .restoreOutput e false) c ∧ ∃ w, c.op = .writeOutput w) →
         exec (.restoreTransactionComplete word) s = .next (finish (busFreed s))) ∧
       (onBus s (.seq .restoreOutput e false) c → c.op = .readOutput →
         exec (.restoreTransactionComplete word) s =
           .next (finish
             { busFreed s with
               points := Vector.ofFn fun i : Fin 32 =>
                 match s.pointRec i with
                 | some r =>
                     if r.drive.exp = e then
                       { s.point i with commanded := some (if word.getLsbD r.drive.line.val then .two else .one) }
                     else s.point i
                 | none => s.point i })) ∧
       (onBus s (.seq .restoreInput e false) c →
         ∀ t u : State, ∀ changed judged : List (Fin 32),
           t = { busFreed s with
                 exps := s.exps.set e
                   { health := .ok
                     lines := Vector.ofFn fun n : Fin 16 => { accepted := some (word.getLsbD n.val), debounce := none }
                     confirm := if s.phase = .starting then .due (s.now + s.cfg.debounce) else .none } } →
           u = { t with
                 points := Vector.ofFn fun i : Fin 32 =>
                   match s.pointRec i with
                   | some r => { s.point i with sensed := deriveSensed t r }
                   | none => s.point i } →
           changed = (List.finRange 32).filter (fun i => decide ((u.point i).sensed ≠ (s.point i).sensed)) →
           judged = (List.finRange 32).filter (fun i => decide (i ∈ changed) ||
             match s.pointRec i with
             | some r => decide (r.drive.exp = e ∨ r.sense1.exp = e ∨ r.sense2.exp = e)
             | none => false) →
           exec (.restoreTransactionComplete word) s =
             .next (finish (autoExitAll
               (post (.expanderRestored e) (engineSensed changed (judgePoints judged u))))))) ∧
  (∀ (e : Fin 8) (step : SeqStep) (c : Current) (s : State), (step = .rewriteDirection ∨ step = .rewriteOutput) →
     onBus s (.seq step e true) c →
     exec .directionOutputRewriteComplete s =
       .next (finish (if s.bus.queue.any claimR4 then busFreed s else autoExitAll (busFreed s))))

/-- The scanner's requests (R12): a fast or periodic expiry and an accepted EXP_ATTN begin a pass when none is in
progress and are held while one is; the periodic timer runs on by 250 ms; an assertion before the scanner starts waits
for it. What a pass reads (R12): every in-use expander whose health is OK, in ascending index, and after a periodic
expiry one retry of every FAULTED one; a request during a pass is held, and keeps its retries. A line is pending where
its debounce runs. The start of the scanner and the end of a pass (R12): the scanner is ready from the load end, once
every expander in use is OK or FAULTED, and starts with its periodic timer at 250 ms and the pass an earlier assertion
of EXP_ATTN asked for; a pass has ended when none of its reads stands and none is on the bus, and a held request then
starts the next. That the retries follow the reads, that a timer's command carries the time forward, and that the fast
timer requests at once where its condition first holds after its moment, is the model's reading (log entries 5, 9,
57), and so is a change of EXP_ATTN before the load end, which changes nothing (log entry 1). -/
def Obligations.ScannerRequestsPasses : Prop :=
  (∀ (s : State) (t : Nat),
     (s.bus.scanner.lastStart = some t → s.bus.scanner.on = true → s.bus.scanner.fastArmed = true →
         (s.expAttn = true ∨ anyPending s = true) →
       exec .fastScanTimer s =
         .next (finish (requestPass false
           { s with
             now := max s.now (t + 4)
             bus := { s.bus with scanner := { s.bus.scanner with fastArmed := false } } }))) ∧
       (s.bus.scanner.periodicDue = some t →
         exec .periodicScanTimer s =
           .next (finish (requestPass true
             { s with
               now := max s.now t
               bus := { s.bus with scanner := { s.bus.scanner with periodicDue := some (t + 250) } } }))) ∧
       (loadEnded s = true → s.expAttn = false → s.bus.scanner.on = true →
         exec .expAttnAsserted s = .next (finish (requestPass false { s with expAttn := true }))) ∧
       (loadEnded s = true → s.expAttn = false → s.bus.scanner.on = false →
         exec .expAttnAsserted s =
           .next { s with expAttn := true, bus := { s.bus with scanner := { s.bus.scanner with attnHeld := true } } }) ∧
       (loadEnded s = true → exec .expAttnNegated s = .next { s with expAttn := false }) ∧
       (loadEnded s = false → exec .expAttnAsserted s = .next s ∧ exec .expAttnNegated s = .next s)) ∧
  (∀ (s : State) (periodic : Bool),
     (s.bus.scanner.pass = none →
       requestPass periodic s =
         { s with
           bus := { s.bus with
             scanner := { s.bus.scanner with
               pass := some
                 (((List.finRange 8).filter fun e =>
                     inUse s.cfg.points e && decide ((s.exp e).health = .ok)).map .read ++
                   if periodic then
                     ((List.finRange 8).filter fun e => decide ((s.exp e).health = .faulted)).map .retry
                   else [])
               lastStart := some s.now
               fastArmed := true } } }) ∧
       ∀ items, s.bus.scanner.pass = some items →
         requestPass periodic s =
           { s with
             bus := { s.bus with
               scanner := { s.bus.scanner with held := some (s.bus.scanner.held = some true ∨ periodic = true) } } }) ∧
  (∀ s : State, anyPending s = true ↔ ∃ (e : Fin 8) (n : Fin 16) (d : Debounce), (s.exp e).lines[n].debounce = some d) ∧
  (∀ s : State,
     (scannerReady s = true ↔
       loadEnded s = true ∧ s.bus.scanner.on = false ∧
         ∀ e, inUse s.cfg.points e = true → (s.exp e).health = .ok ∨ (s.exp e).health = .faulted) ∧
       (∀ t : State,
         t = { s with
               bus := { s.bus with
                 scanner := { s.bus.scanner with
                   on := true, attnHeld := false, periodicDue := some (s.now + 250) } } } →
         startScanner s = if s.bus.scanner.attnHeld then requestPass false t else t) ∧
       (passEnded s = true ↔
         ∃ items, s.bus.scanner.pass = some items ∧ (∀ i ∈ items, eligible s i = false) ∧
           ∀ c, s.bus.current = some c → c.discarded = true ∨ ∀ e, c.txn ≠ .scan e ∧ c.txn ≠ .retry e) ∧
       ∀ t : State,
         t = { s with bus := { s.bus with scanner := { s.bus.scanner with pass := none, held := none } } } →
         (s.bus.scanner.held = none → endPass s = t) ∧
           ∀ periodic, s.bus.scanner.held = some periodic → endPass s = requestPass periodic t)

/-- The grant of a drive write (R9): refused, unsent, where the expander is not OK or a permit is asserted over a
point whose commanded position it would change; otherwise the commanded positions take their to-positions and the
output word is sent. The arbiter's claims (R11): with the bus free, the oldest of the drive-write queue goes first,
then the next read of the pass in progress that still stands, then the EEPROM; a busy bus grants nothing.
DRIVE_WRITE_COMPLETE (R87, R101): the answer of a write of the job goes to the Transfer Engine, and that of a job that
has ended is discarded; a completed write of the stage in TRANSFER sets the driven flags and starts the transit limits
of its points, and the stage is tested. Failed answers (R87, R92, R99): a write refused at its grant names its first
point, a transfer fault EXPANDER in TRANSFER, its driven flags clear, and a rollback failure EXPANDER in ROLLBACK; a
write that failed after its word was sent sets the driven flags, and names the lowest of its first point and the
points of the stage the same event made UNKNOWN. Answers in ROLLBACK (R90, R97): a rollback write answered completed
starts the limits of its points again, and the rollback stage is tested. The answer rollback waits for, completed or
failed, sets the driven flags and raises no fault; then rollback is done where nothing is to be driven back, and
otherwise its highest stage begins or is paused. An answer in any other phase changes nothing. That a read whose
expander changed health is skipped is the model's reading (log entry 9). That a permit bars only a point whose
commanded position the write would change is its choice (log entry 54), and so is what an answer in a phase that
drives nothing does, and the point a write that fails names (log entry 12). -/
def Obligations.DriveWritesAreArbitrated : Prop :=
  (∀ (e : Fin 8) (ts : List (Fin 32 × Pos)) (s : State),
     ((s.exp e).health ≠ .ok ∨
         (∃ t ∈ ts, (s.point t.1).commanded ≠ some t.2 ∧
           ∃ x, present s x = true ∧ hotHas s t.1 x = true ∧ (s.svc x).permit = true) →
       grantDrive e ts s = answerNotSent ts s) ∧
       ((s.exp e).health = .ok →
         (∀ t ∈ ts, (s.point t.1).commanded ≠ some t.2 →
           ∀ x, present s x = true → hotHas s t.1 x = true → (s.svc x).permit = false) →
         (grantDrive e ts s).points =
             Vector.ofFn (fun i : Fin 32 =>
               match ts.find? (fun t => t.1 == i) with
               | some t => { s.point i with commanded := some t.2 }
               | none => s.point i) ∧
           (grantDrive e ts s).bus.current = some
             { txn := .drive e ts true, op := .writeOutput (outputWord (grantDrive e ts s) e),
               address := s.cfg.base + e.val, speed := s.cfg.speed, grantedAt := s.now, discarded := false } ∧
           grantDrive e ts s =
             { s with
               points := (grantDrive e ts s).points
               bus := { s.bus with current := (grantDrive e ts s).bus.current } })) ∧
  (∀ s : State,
     (s.bus.current ≠ none → grantNext s = none) ∧
       (s.bus.current = none → ∀ c rest, s.bus.queue = c :: rest →
         grantNext s = some (grantClaim c { s with bus := { s.bus with queue := rest } })) ∧
       (s.bus.current = none → s.bus.queue = [] → ∀ items item rest, s.bus.scanner.pass = some items →
         items.dropWhile (fun i => !eligible s i) = item :: rest →
         grantNext s = some (grantScan item
           { s with bus := { s.bus with scanner := { s.bus.scanner with pass := some rest } } })) ∧
       (s.bus.current = none → s.bus.queue = [] →
         (∀ items, s.bus.scanner.pass = some items → ∀ i ∈ items, eligible s i = false) → ∀ op, s.bus.eeprom = some op →
         grantNext s = some
           { s with
             bus := { s.bus with
               eeprom := none
               current := some
                 { txn := .eeprom, op := op, address := 0x57, speed := s.cfg.speed, grantedAt := s.now,
                   discarded := false } } })) ∧
  (∀ (e : Fin 8) (ts : List (Fin 32 × Pos)) (c : Current) (s : State),
     (onBus s (.drive e ts false) c → exec .driveWriteComplete s = .next (finish (busFreed s))) ∧
       (onBus s (.drive e ts true) c →
         exec .driveWriteComplete s = .next (finish (answerCompleted ts (busFreed s)))) ∧
       ∀ j, s.job = some j → j.phase = .transfer →
         answerCompleted ts s =
           (let j' : Job :=
             { j with
               moves := j.moves.map fun m =>
                 if m.point ∈ ts.map Prod.fst then
                   { m with
                     driven := true
                     timer := .running (s.now + match s.pointRec m.point with
                       | some r => r.transit
                       | none => 0) }
                 else m }
            testStage j' { s with job := some j' })) ∧
  (∀ (i : Fin 32) (pos : Pos) (rest : List (Fin 32 × Pos)) (changed : List (Fin 32)) (s : State),
     (s.job = none → answerNotSent ((i, pos) :: rest) s = s ∧ answerFailedSent ((i, pos) :: rest) changed s = s) ∧
       ∀ j : Job, s.job = some j →
         (j.phase = .muting ∨ (∃ d, j.phase = .paused d) →
           answerNotSent ((i, pos) :: rest) s = s ∧ answerFailedSent ((i, pos) :: rest) changed s = s) ∧
         (j.phase = .transfer → answerNotSent ((i, pos) :: rest) s = transferFault j i .expander s) ∧
         (j.phase = .rollback → answerNotSent ((i, pos) :: rest) s = rollbackFailed j i .expander s) ∧
         ∀ (late : Fin 32 → Prop) (n : Fin 32),
           (∀ p, late p ↔ p ∈ changed ∧ (s.point p).sensed = .unknown ∧
             ∃ m ∈ j.moves, j.stage = some m.stage ∧ m.point = p ∧
               (j.phase = .rollback → m.driven = true ∧ m.fromPos ≠ none ∧ m.timer ≠ .off)) →
           (n = i ∨ late n) → n ≤ i → (∀ p, late p → n ≤ p) →
           (j.phase = .transfer →
             ∀ j' : Job,
               j' = { j with
                       moves := j.moves.map fun m =>
                         if m.point = i ∨ m.point ∈ rest.map Prod.fst then { m with driven := true } else m } →
               answerFailedSent ((i, pos) :: rest) changed s = transferFault j' n .expander { s with job := some j' }) ∧
             (j.phase = .rollback → j.awaiting = false →
               answerFailedSent ((i, pos) :: rest) changed s = rollbackFailed j n .expander s)) ∧
  (∀ (ts : List (Fin 32 × Pos)) (s : State),
     (s.job = none → answerCompleted ts s = s) ∧
       ∀ j : Job, s.job = some j →
         (j.phase = .muting ∨ (∃ d, j.phase = .paused d) → answerCompleted ts s = s) ∧
         (j.phase = .rollback → j.awaiting = false →
           ∀ j' : Job,
             j' = { j with
                     moves := j.moves.map fun m =>
                       if m.point ∈ ts.map Prod.fst then
                         { m with
                           driven := true
                           timer := .running (s.now + match s.pointRec m.point with
                             | some r => r.transit
                             | none => 0) }
                       else m } →
             answerCompleted ts s = testRollback j' { s with job := some j' }) ∧
         (j.phase = .rollback → j.awaiting = true →
           ∀ (j' : Job) (t r : State),
             j' = { j with
                     awaiting := false
                     moves := j.moves.map fun m =>
                       if m.point ∈ ts.map Prod.fst then { m with driven := true } else m } →
             t = { s with job := some j' } →
             (r = answerCompleted ts s ∨ ∃ changed, r = answerFailedSent ts changed s) →
             ((∀ m ∈ j'.moves, m.driven = false ∨ m.fromPos = none) → r = rollbackDone j' t) ∧
               ∀ k, (∃ m ∈ j'.moves, m.stage = k ∧ m.driven = true ∧ m.fromPos ≠ none) →
                 (∀ m ∈ j'.moves, m.driven = true → m.fromPos ≠ none → m.stage ≤ k) →
                 (blocking s j = none → r = runRollbackStage j' k t) ∧
                   ∀ n, blocking s j = some n →
                     r = postEach (mutedSvcs j) (fun x => .transferPaused x n k)
                       { t with job := some { j' with phase := .paused .rollback, stage := some k } }))

/-- A failed transaction to an OK expander (R15): it becomes FAULTED with its lines' values discarded; EXPANDER_FAULT
is posted first, naming the transaction; every sensed state is derived, a point with a sense line on it being UNKNOWN;
the changed points are judged and the Transfer Engine is told; then each point driven from it that is not under drive
by then, and that step 5 did not post, is disturbed. A failure and a time-out are taken alike, the time-out at its
tenth millisecond, and the bus is recovered (R6). After the last transaction a WRITE_POINT queued the exits from HELD
are tried (R57). A failed transaction by health (R8, R15, R16): an expander in INIT becomes FAULTED, the rest of its
initialisation unsent, with EXPANDER_FAULT, and where its output readback has not completed its points have no
commanded position; a FAULTED one stays FAULTED and nothing is posted, a failed restore step taking the rest of its
restore with it; the result of a discarded one is not taken. A time-out of any of them is that failure at its tenth
millisecond (R6). That the rewrites of a WRITE_POINT stay queued, and what one of them that fails leaves waiting, is
the model's reading (log entry 40). The steps of a sequence for an expander: those of initialisation (R8), and those
of a restore (R16). That the time-out carries the time forward, what the Transfer Engine is told of a write that fails
and a point that turns UNKNOWN at once, the order of what is reported, and the record of the recovery are the model's
(log entries 5, 10, 12, 45, 63), and so are the ascending index of the points disturbed at step 6 and the exits from
HELD after it (log entry 63), a discarded transaction's end, a confirmation read that a fault drops, the
points a failed initialisation leaves without a commanded position, and A before B in what is reported (log entries
19, 33, 59, 62). -/
def Obligations.FailureFaultsAnExpander : Prop :=
  (∀ (c : Current) (e : Fin 8) (s : State),
     (s.bus.current = some c → c.discarded = false → txnExp c.txn = some e → (s.exp e).health = .ok →
       ∀ after : State → State,
         (∀ t, after t = if txnR4 c.txn = true ∧ t.bus.queue.any claimR4 = false then autoExitAll t else t) →
         exec .expanderTransactionFailed s = .next (finish (after (failOk c e (busRecovered s)))) ∧
           exec .busTransactionTimeout s =
             .next (finish (after (failOk c e { busRecovered s with now := max s.now (c.grantedAt + 10) })))) ∧
       (∀ (t u v : State) (changed posted : List (Fin 32)),
         t = post
           (.expanderFault e
             (match c.txn, c.op with
               | .drive _ _ _, _ => .driveWrite
               | _, .writeDirection _ => .directionWrite
               | _, .writeOutput _ => .outputWrite
               | _, .readOutput => .outputReadback
               | _, _ => .inputRead))
           { s with
             exps := s.exps.set e
               { health := .faulted, lines := Vector.replicate 16 ⟨none, none⟩, confirm := .none }
             bus := { s.bus with queue := s.bus.queue.filter fun q => !isStepOf (· == .confirmInput) e q } } →
         u = { t with
               points := Vector.ofFn fun i : Fin 32 =>
                 match s.pointRec i with
                 | some r => { s.point i with sensed := deriveSensed t r }
                 | none => s.point i } →
         changed = (List.finRange 32).filter (fun i => decide ((u.point i).sensed ≠ (s.point i).sensed)) →
         posted = changed.filter (fun i => decide ((u.point i).underDrive = false ∧
           ¬ ((u.point i).commanded = some .one ∧ (u.point i).sensed = .at1) ∧
           ¬ ((u.point i).commanded = some .two ∧ (u.point i).sensed = .at2))) →
         v = (match c.txn with
               | .drive _ ts true => answerFailedSent ts changed (judgePoints changed u)
               | _ => engineSensed changed (judgePoints changed u)) →
         failOk c e s =
           autoExitReading .b changed (autoExitReading .a changed
             ((List.finRange 32).foldl
               (fun w i =>
                 if drivenFrom w.cfg.points e i = true ∧ (w.point i).underDrive = false ∧ i ∉ posted then disturb i w
                 else w) v))) ∧
       (∀ n, (failOk c e s).exp n =
         if n = e then { health := .faulted, lines := Vector.replicate 16 ⟨none, none⟩, confirm := .none }
         else s.exp n) ∧
       ∀ i r, s.pointRec i = some r → (r.sense1.exp = e ∨ r.sense2.exp = e) →
         ((failOk c e s).point i).sensed = .unknown) ∧
  (∀ (c : Current) (e : Fin 8) (s : State) (after : State → State), s.bus.current = some c → txnExp c.txn = some e →
     (∀ t, after t = if txnR4 c.txn = true ∧ t.bus.queue.any claimR4 = false then autoExitAll t else t) →
     (c.discarded = true → exec .expanderTransactionFailed s = .next (finish (after (busRecovered s)))) ∧
       exec .busTransactionTimeout s = exec .expanderTransactionFailed { s with now := max s.now (c.grantedAt + 10) } ∧
       (c.discarded = false → (s.exp e).health = .init → (∃ step r4, c.txn = .seq step e r4) →
         exec .expanderTransactionFailed s =
           .next (finish (after (post
             (.expanderFault e
               (match c.op with
                 | .writeDirection _ => .directionWrite
                 | .writeOutput _ => .outputWrite
                 | .readOutput => .outputReadback
                 | _ => .inputRead))
             { s with
               exps := s.exps.set e
                 { health := .faulted, lines := Vector.replicate 16 ⟨none, none⟩, confirm := .none }
               points :=
                 if (∃ r4, c.txn = .seq .initReadback e r4 ∨ .seq .initReadback e r4 ∈ s.bus.queue) then
                   Vector.ofFn fun i : Fin 32 =>
                     match s.pointRec i with
                     | some r => if r.drive.exp = e then { s.point i with commanded := none } else s.point i
                     | none => s.point i
                 else s.points
               bus := { s.bus with
                 current := none
                 recovered := [.stop, .clocks 9, .stop]
                 queue := s.bus.queue.filter fun q =>
                   !isStepOf isInitStep e q && !isStepOf (· == .confirmInput) e q } })))) ∧
       (c.discarded = false → (s.exp e).health = .faulted → (∀ f ts, c.txn ≠ .drive f ts true) →
         ((∃ step r4, c.txn = .seq step e r4 ∧ isRestoreStep step = true) →
           exec .expanderTransactionFailed s =
             .next (finish (after
               { busRecovered s with
                 bus := { (busRecovered s).bus with
                   queue := s.bus.queue.filter fun q => !isStepOf isRestoreStep e q } }))) ∧
         ((∀ step r4, c.txn = .seq step e r4 → isRestoreStep step = false) →
           exec .expanderTransactionFailed s = .next (finish (after (busRecovered s)))))) ∧
  (∀ (kind : SeqStep → Bool) (e f : Fin 8) (step : SeqStep) (r4 : Bool) (ts : List (Fin 32 × Pos)),
     isStepOf kind e (.seq step f r4) = (kind step && decide (f = e)) ∧ isStepOf kind e (.drive f ts) = false ∧
       (isInitStep step = true ↔ step = .initDirection ∨ step = .initReadback ∨ step = .initInput) ∧
       (isRestoreStep step = true ↔ step = .restoreDirection ∨ step = .restoreOutput ∨ step = .restoreInput))

/-! ## Pins, records, services -/

/-- INTERLOCK_FIRST_SAMPLE, INTERLOCK_PIN_LEVEL_CHANGE and INTERLOCK_LEVEL_ACCEPTED (R20): the first sample after a
reset is accepted without debounce; a later sample that differs from the accepted level starts a debounce of the
interval then set, or leaves the one that runs, and one that equals it ends it; a level accepted replaces the accepted
one. A change of an interlock's state (R21, R56, R57, R94): the state is set, INTERLOCK_OPENED or INTERLOCK_CLEARED is
posted with the state it left, and the change is handed on: CLOSED to OPEN holds the services on or near the air in
its effective mask, A before B; CLOSED tries their exits from HELD; and the engine is told of every change. A change
is handed on with the state the interlock left, by a WRITE_INTERLOCK or an ACK_INTERLOCK too. A mask names A, B or
both, an absent service B is in no effective mask (R1, R19), and a present point is hot for the services of its
effective mask. An interlock and a service (R56, R57): an interlock that became effective-open takes a VERIFYING or
ON_AIR service of its effective mask to HELD with cause INTERLOCK, and leaves any other as it is; a service HELD with
cause INTERLOCK whose entry check passes enters VERIFYING, and any other stays; a cleared interlock tries the exits of
its effective mask, A before B; and a change of points tries the exit of a service whose in-force pattern lists one,
or whose hot mask has one. That an acceptance carries the time forward and the order in which a change is handed on
are the model's reading (log entries 5, 31, 38, 47), and so are an exit of both services tried for A before B (log
entry 59), and a first sample where a level is already accepted, which changes nothing (log entry 1). -/
def Obligations.InterlocksFollowTheirPins : Prop :=
  (∀ (k : Fin 4) (high : Bool) (c : InterlockSettings) (s : State), loadEnded s = true → s.interlockRec k = some c →
     ((s.interlock k).accepted = none →
       exec (.interlockFirstSample k high) s =
         .next (finish (moveInterlock k c.mask (if high = c.activeHigh then .opened else (s.interlock k).state)
           { s with
             interlocks := s.interlocks.set k
               { state := (s.interlock k).state, accepted := some high, debounce := none } }))) ∧
       (∀ a, (s.interlock k).accepted = some a →
         exec (.interlockFirstSample k high) s = .next s ∧
         exec (.interlockPinLevelChange k high) s =
           .next
             { s with
               interlocks := s.interlocks.set k
                 { s.interlock k with
                   debounce :=
                     if a = high then none
                     else some ((s.interlock k).debounce.getD
                       { candidate := high, start := s.now, interval := s.cfg.debounce }) } }) ∧
       (∀ d, (s.interlock k).accepted = some (!high) → (s.interlock k).debounce = some d →
         exec (.interlockLevelAccepted k high) s =
           .next (finish (moveInterlock k c.mask
             (if high = c.activeHigh then .opened
              else if (s.interlock k).state = .opened then (if c.latched then .latched else .closed)
              else (s.interlock k).state)
             { s with
               now := max s.now (d.start + d.interval)
               interlocks := s.interlocks.set k
                 { state := (s.interlock k).state, accepted := some high, debounce := none } })))) ∧
  (∀ (k : Fin 4) (m : Mask) (st : InterlockState) (s : State),
     (st = (s.interlock k).state → moveInterlock k m st s = s) ∧
       ∀ v : State, v = { s with interlocks := s.interlocks.set k { s.interlock k with state := st } } →
         ((s.interlock k).state = .closed → st = .opened →
           moveInterlock k m st s =
             engineInterlock k (interlockHold k .b (interlockHold k .a (post (.interlockOpened k .closed) v)))) ∧
           ((s.interlock k).state = .latched → st = .opened →
             moveInterlock k m st s = engineInterlock k (post (.interlockOpened k .latched) v)) ∧
           ((s.interlock k).state ≠ .closed → st = .closed →
             moveInterlock k m st s = engineInterlock k (exitMask m (post (.interlockCleared k (s.interlock k).state) v))) ∧
           ((s.interlock k).state ≠ .latched → st = .latched → moveInterlock k m st s = engineInterlock k v)) ∧
  (∀ (k : Fin 4) (left : InterlockState) (m : Mask) (x : Svc) (i : Fin 32) (s : State),
     (left = .closed → (s.interlock k).state = .opened →
       handOn k left m s = engineInterlock k (interlockHold k .b (interlockHold k .a s))) ∧
       ((s.interlock k).state = .closed → handOn k left m s = engineInterlock k (exitMask m s)) ∧
       ((s.interlock k).state = .latched ∨ left ≠ .closed ∧ (s.interlock k).state = .opened →
         handOn k left m s = engineInterlock k s) ∧
       (maskHas m x = true ↔ m = .ab ∨ m = .a ∧ x = .a ∨ m = .b ∧ x = .b) ∧
       (present s x = true ↔ x = .a ∨ s.twoServices = true) ∧
       (effHas s m x = true ↔ maskHas m x = true ∧ present s x = true) ∧
       (hotHas s i x = true ↔ ∃ r, s.cfg.points[i] = some r ∧ effHas s r.hot x = true)) ∧
  (∀ (k : Fin 4) (x : Svc) (m : Mask) (changed : List (Fin 32)) (s : State) (caught exits reads : Prop),
     (caught ↔ (∃ c, s.interlockRec k = some c ∧ effHas s c.mask x = true) ∧
       ((s.svc x).state = .verifying ∨ (s.svc x).state = .onAir)) →
     (exits ↔ present s x = true ∧ (s.svc x).state = .held ∧ (s.svc x).hold = some .interlock ∧
       entryCheck s x = .pass) →
     (reads ↔ ∃ i ∈ changed, hotHas s i x = true ∨ ∃ p, inForcePattern s x = some p ∧ (p.map[i]).isSome = true) →
     (caught → interlockHold k x s = toHeld x .interlock s) ∧ (¬ caught → interlockHold k x s = s) ∧
       (exits → autoExit x s = enterVerifying x s) ∧ (¬ exits → autoExit x s = s) ∧
       (reads → autoExitReading x changed s = autoExit x s) ∧ (¬ reads → autoExitReading x changed s = s) ∧
       autoExitAll s = autoExit .b (autoExit .a s) ∧
       ∀ t : State, t = (if effHas s m .a = true then autoExit .a s else s) →
         exitMask m s = if effHas s m .b = true then autoExit .b t else t)

/-- An event posted (R174, R175, R177): the record with the clock's time joins the queue of each port its routing
entry selects, a station port only for its own service or none; at 32 records it is dropped and the overflow marker
set. Nothing else changes. While RESET_N is held low no record joins a queue (R164, R184; log entry 24). A record's 13
bytes (R192): kind, service code or 0, presence, slot, subject, detail and time stamp, 0 where absent; and the kind,
the service, the slot, the subject and the detail each event has. The routing entry of a record is that of its kind,
kind 1 first (R175). That TRANSFER_PAUSED, TRANSFER_RESUMED, ROLLBACK_FAILED, MODE_CHANGED and the records of the site
hold no slot is the model's reading (log entry 35), and so is that an event posted while RESET_N is held low is lost
(log entry 24). -/
def Obligations.PostedRecordsAreRouted : Prop :=
  (∀ (e : Event) (s : State), (s.phase = .resetHeld → post e s = s) ∧ (s.phase ≠ .resetHeld →
       post e s = { s with ports := (post e s).ports } ∧
         ∀ port : PortId,
           (post e s).ports.get port =
             (if (match port with
                 | .site => (routeOf s.cfg.routes e).site
                 | .a => (routeOf s.cfg.routes e).a && decide (eventService e ≠ some .b)
                 | .b => (routeOf s.cfg.routes e).b && decide (eventService e ≠ some .a)) = true then
               if (s.ports.get port).queue.length < 32 then
                 { s.ports.get port with queue := (s.ports.get port).queue ++ [⟨e, s.clock.time⟩], attn := true }
               else { s.ports.get port with overflow := true }
             else s.ports.get port))) ∧
  ((∀ (e : Event) (d : DateTime),
     recordBytes ⟨e, d⟩ =
       u8 (eventKind e) ++ u8 ((eventService e).elim 0 svcCode) ++
         u8 ((eventSlot e).isSome.toNat + 2 * (eventSubject e).isSome.toNat + 4 * (eventDetail e).isSome.toNat) ++
         u8 ((eventSlot e).elim 0 Fin.val) ++ u8 ((eventSubject e).getD 0) ++ i16 ((eventDetail e).getD 0) ++
         u8 (d.year - 2000) ++ u8 d.month ++ u8 d.day ++ u8 d.hour ++ u8 d.minute ++ u8 d.second) ∧
     ∀ fields : Event → Nat × Option Svc × Option (Fin 4) × Option Nat × Option Int,
       (∀ e, fields e = (eventKind e, eventService e, eventSlot e, eventSubject e, eventDetail e)) →
       ∀ (x y : Svc) (k ilk stage : Fin 4) (slot : Option (Fin 4)) (i : Fin 32) (ex : Fin 8) (n : Nat) (z : Int)
         (q : Source) (t : Fin 12) (m : Mode) (sensed : Sensed) (left : InterlockState) (cause : HoldCause)
         (tb : Timebase),
         fields (.requestQueued x k q) = (1, some x, some k, none, some (sourceCode q : Int)) ∧
           fields (.requestSuperseded x k q) = (2, some x, some k, none, some (sourceCode q : Int)) ∧
           fields (.requestDropped x k .patternEmpty) = (3, some x, some k, none, some 1) ∧
           fields (.requestDropped x k .patternInvalid) = (3, some x, some k, none, some 2) ∧
           fields (.requestDropped x k .alreadyInForce) = (3, some x, some k, none, some 3) ∧
           fields (.requestDropped x k .incompatible) = (3, some x, some k, none, some 4) ∧
           fields (.requestDropped x k .aborted) = (3, some x, some k, none, some 5) ∧
           fields (.requestDropped x k (.muteTimeout y)) = (3, some x, some k, some (svcCode y), some 6) ∧
           fields (.changeStarted x k n) = (4, some x, some k, none, some (n : Int)) ∧
           fields (.standbyEntered x slot) = (5, some x, slot, none, none) ∧
           fields (.transferDone x slot n) = (6, some x, slot, none, some (n : Int)) ∧
           fields (.transferPaused x ilk stage) = (7, some x, none, some ilk.val, some (stage.val : Int)) ∧
           fields (.transferResumed x stage) = (8, some x, none, none, some (stage.val : Int)) ∧
           fields (.transferFault x slot i .noArrival) = (9, some x, slot, some i.val, some 1) ∧
           fields (.transferFault x slot i .conflict) = (9, some x, slot, some i.val, some 2) ∧
           fields (.transferFault x slot i .expander) = (9, some x, slot, some i.val, some 3) ∧
           fields (.rollbackDone x slot .fault) = (10, some x, slot, none, some 1) ∧
           fields (.rollbackDone x slot .aborted) = (10, some x, slot, none, some 2) ∧
           fields (.rollbackFailed x i .noArrival) = (11, some x, none, some i.val, some 1) ∧
           fields (.rollbackFailed x i .conflict) = (11, some x, none, some i.val, some 2) ∧
           fields (.rollbackFailed x i .expander) = (11, some x, none, some i.val, some 3) ∧
           fields (.verified x slot n) = (12, some x, slot, none, some (n : Int)) ∧
           fields (.verifyFailed x slot none .noRevert) = (13, some x, slot, none, some 2) ∧
           fields (.verifyFailed x slot (some ⟨t, .ratio⟩) .revert) = (13, some x, slot, some t.val, some 1) ∧
           fields (.verifyFailed x slot (some ⟨t, .phase⟩) .holdCutback) = (13, some x, slot, some (t.val + 16), some 3) ∧
           fields (.verifyFailed x slot none .withdraw) = (13, some x, slot, none, some 4) ∧
           fields (.paramOut x slot ⟨t, .ratio⟩ z) = (14, some x, slot, some t.val, some z) ∧
           fields (.paramIn x slot ⟨t, .phase⟩ z) = (15, some x, slot, some (t.val + 16), some z) ∧
           fields (.ceilingChanged x slot n) = (16, some x, slot, none, some (n : Int)) ∧
           fields (.serviceHeld x slot cause) = (17, some x, slot, none, some (holdCode cause : Int)) ∧
           fields (.interlockOpened ilk left) = (18, none, none, some ilk.val, some (interlockStateCode left : Int)) ∧
           fields (.interlockCleared ilk left) = (19, none, none, some ilk.val, some (interlockStateCode left : Int)) ∧
           fields (.monitorStale x slot n) = (20, some x, slot, none, some (n : Int)) ∧
           fields (.monitorResumed x slot) = (21, some x, slot, none, none) ∧
           fields (.pointDisturbed i sensed) = (22, none, none, some i.val, some (sensedCode sensed : Int)) ∧
           fields (.expanderFault ex .directionWrite) = (23, none, none, some ex.val, some 1) ∧
           fields (.expanderFault ex .outputWrite) = (23, none, none, some ex.val, some 2) ∧
           fields (.expanderFault ex .inputRead) = (23, none, none, some ex.val, some 3) ∧
           fields (.expanderFault ex .outputReadback) = (23, none, none, some ex.val, some 4) ∧
           fields (.expanderFault ex .driveWrite) = (23, none, none, some ex.val, some 5) ∧
           fields (.expanderRestored ex) = (24, none, none, some ex.val, none) ∧
           fields (.scheduleFired x k .requested) = (25, some x, some k, none, some 1) ∧
           fields (.scheduleFired x k .noChange) = (25, some x, some k, none, some 2) ∧
           fields (.scheduleFired x k .derived) = (25, some x, some k, none, some 3) ∧
           fields (.clockSet tb) = (26, none, none, none, some (if tb = .tickIn then 1 else 0 : Int)) ∧
           fields .timebaseLost = (27, none, none, none, none) ∧ fields .configSaved = (28, none, none, none, none) ∧
           fields (.configSaveFailed .writeFailed) = (29, none, none, none, some 1) ∧
           fields (.configSaveFailed .readFailed) = (29, none, none, none, some 2) ∧
           fields (.configSaveFailed .mismatch) = (29, none, none, none, some 3) ∧
           fields (.patternAdopted x k .single) = (30, some x, some k, none, some 1) ∧
           fields (.patternAdopted x k .scheduled) = (30, some x, some k, none, some 2) ∧
           fields (.adoptionFailed (some x) .ambiguous) = (31, some x, none, none, some 1) ∧
           fields (.adoptionFailed (some x) .noMatch) = (31, some x, none, none, some 2) ∧
           fields (.adoptionFailed none .imageInvalid) = (31, none, none, none, some 3) ∧
           fields (.modeChanged x m) = (32, some x, none, none, some (modeCode m : Int))) ∧
  (∀ (e : Event) (routes : Vector PortSet 32) (n : Fin 32), eventKind e = n.val + 1 → routeOf routes e = routes[n])

/-- A service's outputs computed again (R52, R53, R55): PERMIT_x high exactly while the service is VERIFYING or ON_AIR
with no interlock of its effective mask effective-open; the ceiling 0, the cutback level or the authorised power;
CUT_x high while the permit is high and the ceiling below the authorised power; CEILING_CHANGED exactly when the
ceiling moved. The edges of the two outputs come in their order: a cutback edge before a permit that rises, a permit
that falls before the cutback edge, and with the permit unmoved the cutback alone. That the edges stand in a field
until the next transition that moves an output is the model's choice (log entry 26). One record for one transition is
the model's reading (log entry 23). -/
def Obligations.OutputsFollowTheState : Prop :=
  ∀ (x : Svc) (s : State), ∃ (permit : Bool) (ceiling : Nat) (cut : Bool) (edges : List OutputEdge),
    (permit = true ↔ ((s.svc x).state = .verifying ∨ (s.svc x).state = .onAir) ∧
      ∀ k c, s.interlockRec k = some c → effHas s c.mask x = true → (s.interlock k).state = .closed) ∧
      (permit = false → ceiling = 0 ∧ cut = false) ∧
      (∀ p, permit = true → inForcePattern s x = some p →
        ((s.svc x).causes = ⟨false, false, false, false⟩ → ceiling = p.power) ∧
          ((s.svc x).causes ≠ ⟨false, false, false, false⟩ → ceiling = p.power * p.cutback / 100) ∧
          cut = decide (ceiling < p.power)) ∧
      (permit = true → (s.svc x).permit = false →
        edges = if (s.svc x).cut = cut then [.permit true] else [.cut cut, .permit true]) ∧
      (permit = false → (s.svc x).permit = true →
        edges = if (s.svc x).cut = cut then [.permit false] else [.permit false, .cut cut]) ∧
      ((s.svc x).permit = permit → edges = if (s.svc x).cut = cut then (s.svc x).edges else [.cut cut]) ∧
      outputs x s =
        (let t : State :=
          { s with
            svcs := s.svcs.set x
              { s.svc x with permit := permit, ceiling := ceiling, cut := cut, edges := edges } }
         if ceiling = (s.svc x).ceiling then t else post (.ceilingChanged x (s.svc x).inForce ceiling) t)

/-- Entry to HELD (R50): the cause is recorded, SERVICE_HELD is posted before CEILING_CHANGED, the cause set is empty,
the permit, the cutback output and the ceiling are down, and the verify window is closed; the other service's record
stays. A changed point (R14) that is under drive or agrees is left alone, and any other is disturbed. A disturbed
point (R14, R58): POINT_DISTURBED is posted with the point and its sensed state; then each present service that is
VERIFYING or ON_AIR and lists the point, or is in its effective hot mask, goes to HELD with cause POINT_DISTURBED, A
before B; every other service keeps its record. One record for one transition, the record of the edges, and A held
before B, are the model's (log entries 23, 26, 59). -/
def Obligations.HeldWithdrawsThePermit : Prop :=
  (∀ (x : Svc) (cause : HoldCause) (s : State),
     (toHeld x cause s).svc x =
         { s.svc x with
           state := .held, hold := some cause, causes := ⟨false, false, false, false⟩, permit := false, cut := false
           ceiling := 0, edges := edgesTo (s.svc x) false false } ∧
       (toHeld x cause s).svc (otherSvc x) = s.svc (otherSvc x) ∧
       (toHeld x cause s).tables = s.tables.set x { s.table x with window := none } ∧
       (toHeld x cause s).ports =
         (if (s.svc x).ceiling = 0 then post (.serviceHeld x (s.svc x).inForce cause) s
          else post (.ceilingChanged x (s.svc x).inForce 0) (post (.serviceHeld x (s.svc x).inForce cause) s)).ports ∧
       toHeld x cause s =
         { s with
           svcs := (toHeld x cause s).svcs, tables := (toHeld x cause s).tables, ports := (toHeld x cause s).ports }) ∧
  (∀ (i : Fin 32) (s : State) (reached : Svc → Bool),
     (∀ x, reached x = true ↔ present s x = true ∧ ((s.svc x).state = .verifying ∨ (s.svc x).state = .onAir) ∧
       ((∃ p, inForcePattern s x = some p ∧ (p.map[i]).isSome = true) ∨ hotHas s i x = true)) →
     (∀ t u : State, t = post (.pointDisturbed i (s.point i).sensed) s →
       u = (if reached .a then toHeld .a .pointDisturbed t else t) →
       disturb i s = if reached .b then toHeld .b .pointDisturbed u else u) ∧
       (∀ x, (reached x = true →
           ((disturb i s).svc x).state = .held ∧ ((disturb i s).svc x).hold = some .pointDisturbed ∧
             ((disturb i s).svc x).permit = false) ∧
         (reached x = false → (disturb i s).svc x = s.svc x)) ∧
       ∀ ok : Prop, (ok ↔ (s.point i).underDrive = true ∨
           (s.point i).commanded = some .one ∧ (s.point i).sensed = .at1 ∨
           (s.point i).commanded = some .two ∧ (s.point i).sensed = .at2) →
         (ok → judgePoint s i = s) ∧ (¬ ok → judgePoint s i = disturb i s))

/-- The entry check and its outcomes (R46): without an in-force pattern UNDETERMINED, with no hold cause, no cutback
cause, ceiling 0, both outputs low and no event but a CEILING_CHANGED where the ceiling was not 0 already (R45, R53),
all else as it was; with a listed pair out of place, a hot-mask point unsettled or driven from a FAULTED expander, or
a WRITE_POINT transaction outstanding, HELD with cause POINT_DISTURBED; with an interlock effective-open, HELD with
cause INTERLOCK; otherwise VERIFYING. Entry to VERIFYING of a service whose entry check passes (R46, R115, R128): no
hold cause, the causes exactly VERIFY, the permit high, the ceiling at the cutback level; every parameter PENDING with
no run, both counts 0; and a verify window of the in-force pattern's length. CEILING_CHANGED with the new ceiling is
posted exactly where the ceiling moved (R53), and nothing else changes. One record for one transition, and the record
of the edges, are the model's (log entries 23, 26). -/
def Obligations.EntryCheckDecidesTheState : Prop :=
  (∀ (x : Svc) (s : State),
     (inForcePattern s x = none →
       throughEntryCheck x s =
           outputs x
             { s with
               svcs := s.svcs.set x
                 { s.svc x with state := .undetermined, hold := none, causes := ⟨false, false, false, false⟩ } } ∧
         ∀ t : State,
           t = { s with
                 svcs := s.svcs.set x
                   { s.svc x with
                     state := .undetermined, hold := none, causes := ⟨false, false, false, false⟩, ceiling := 0
                     permit := false, cut := false, edges := edgesTo (s.svc x) false false } } →
           ((s.svc x).ceiling = 0 → throughEntryCheck x s = t) ∧
             ((s.svc x).ceiling ≠ 0 → throughEntryCheck x s = post (.ceilingChanged x (s.svc x).inForce 0) t)) ∧
       ∀ p, inForcePattern s x = some p →
         ∀ pointsOk interlocksOk : Prop,
           (pointsOk ↔
             (∀ (i : Fin 32) pos, p.map[i] = some pos →
               (s.pointRec i).isSome = true ∧ (s.point i).commanded = some pos ∧ sensedAt (s.point i).sensed pos = true) ∧
             (∀ i r, s.pointRec i = some r → effHas s r.hot x = true →
               ((s.point i).sensed = .at1 ∨ (s.point i).sensed = .at2) ∧ (s.exp r.drive.exp).health ≠ .faulted) ∧
             (∀ q ∈ s.bus.queue, claimR4 q = false) ∧ ∀ c, s.bus.current = some c → txnR4 c.txn = false) →
           (interlocksOk ↔
             ∀ k c, s.interlockRec k = some c → effHas s c.mask x = true → (s.interlock k).state = .closed) →
           (¬ pointsOk → throughEntryCheck x s = toHeld x .pointDisturbed s) ∧
             (pointsOk → ¬ interlocksOk → throughEntryCheck x s = toHeld x .interlock s) ∧
             (pointsOk → interlocksOk → throughEntryCheck x s = enterVerifying x s)) ∧
  (∀ (x : Svc) (p : Pattern) (s : State), inForcePattern s x = some p → entryCheck s x = .pass →
     (enterVerifying x s).svc x =
         { s.svc x with
           state := .verifying, hold := none, causes := ⟨true, false, false, false⟩, permit := true
           ceiling := p.power * p.cutback / 100, cut := decide (p.power * p.cutback / 100 < p.power)
           edges := edgesTo (s.svc x) true (decide (p.power * p.cutback / 100 < p.power)) } ∧
       (enterVerifying x s).table x =
         { slot := (s.svc x).inForce, valid := 0, invalid := 0, outcome := .none,
           rows := Vector.replicate 12
             { noReading := true, ratio := none, saturated := false, phase := none, ratioErr := none, phaseErr := none,
               ratioState := .pending, phaseState := .pending, ratioRun := ⟨.none, 0⟩, phaseRun := ⟨.none, 0⟩ },
           window := some { length := p.window, expiry := s.now + p.window * 1000 } } ∧
       (enterVerifying x s).svc (otherSvc x) = s.svc (otherSvc x) ∧
       ∀ t : State,
         t = { s with
               svcs := s.svcs.set x ((enterVerifying x s).svc x)
               tables := s.tables.set x ((enterVerifying x s).table x) } →
         (p.power * p.cutback / 100 = (s.svc x).ceiling → enterVerifying x s = t) ∧
           (p.power * p.cutback / 100 ≠ (s.svc x).ceiling →
             enterVerifying x s = post (.ceilingChanged x (s.svc x).inForce (p.power * p.cutback / 100)) t))

/-! ## Formation and the engine -/

/-- Formation's head (R71 to R73): an empty target, an invalid pattern and a slot in force on the air drop the request
with their reason, in that order; otherwise, with no other request pending, the head is dropped INCOMPATIBLE where its
target disagrees with the other service's in-force pattern, and starts a single job where it does not. What the screen
judges (R31, R71): a pattern is valid where every point it lists is present, and a slot counts as in force already
while its service is VERIFYING or ON_AIR in it. A request dropped at formation (R69): its record is gone, its service
leaves the arrival order, and REQUEST_DROPPED carries its target and the reason. Where the other service's request
fails its own screen, it is dropped with its reason and the head is taken alone (R72, R73). Formation with both
services pending (R72, R73): targets that are compatible form a joint job of both, A first, whatever is in force;
targets that are not leave the head to be taken alone, started or dropped INCOMPATIBLE by the other service's in-force
pattern, and the other request pending. Two patterns are compatible when no switch point is listed in both with
different positions (R41). That a joint job's record lists A first is the model's choice (log entry 53). -/
def Obligations.FormationJudgesTheHead : Prop :=
  (∀ (x : Svc) (rest : List Svc) (r : Request) (s : State), s.arrival = x :: rest → (s.svc x).request = some r →
     (s.pattern x r.target = none → formationPass s = dropRequest x .patternEmpty s) ∧
       ∀ p, s.pattern x r.target = some p →
         (patternValid s p = false → formationPass s = dropRequest x .patternInvalid s) ∧
           (patternValid s p = true → inForceOnAir s x r.target = true →
             formationPass s = dropRequest x .alreadyInForce s) ∧
           (patternValid s p = true → inForceOnAir s x r.target = false → (s.svc (otherSvc x)).request = none →
             (∀ q, inForcePattern s (otherSvc x) = some q → compatible p q = false →
               formationPass s = dropRequest x .incompatible s) ∧
             ((∀ q, inForcePattern s (otherSvc x) = some q → compatible p q = true) →
               formationPass s =
                 startJob [{ svc := x, target := r.target, source := r.source, revert := r.revert,
                             reassert := decide ((s.svc x).inForce = some r.target) }] s))) ∧
  (∀ (x : Svc) (k : Fin 4) (p : Pattern) (s : State),
     (patternValid s p = true ↔ ∀ i : Fin 32, p.map[i] ≠ none → s.cfg.points[i] ≠ none) ∧
       (inForceOnAir s x k = true ↔
         (s.svc x).inForce = some k ∧ ((s.svc x).state = .verifying ∨ (s.svc x).state = .onAir))) ∧
  (∀ (x : Svc) (reason : DropReason) (s : State),
     ((s.svc x).request = none → dropRequest x reason s = s) ∧
       ∀ r, (s.svc x).request = some r →
         dropRequest x reason s =
           post (.requestDropped x r.target reason)
             { s with
               svcs := s.svcs.set x { s.svcs.get x with request := none }, arrival := s.arrival.filter (· != x) }) ∧
  (∀ (x : Svc) (rest : List Svc) (r q : Request) (p : Pattern) (s u : State) (reason : DropReason),
     s.arrival = x :: rest → (s.svc x).request = some r → (s.svc (otherSvc x)).request = some q →
     s.pattern x r.target = some p → patternValid s p = true → inForceOnAir s x r.target = false →
     (s.pattern (otherSvc x) q.target = none ∧ reason = .patternEmpty ∨
       (∃ pq, s.pattern (otherSvc x) q.target = some pq ∧
         (patternValid s pq = false ∧ reason = .patternInvalid ∨
           patternValid s pq = true ∧ inForceOnAir s (otherSvc x) q.target = true ∧ reason = .alreadyInForce))) →
     u = dropRequest (otherSvc x) reason s →
     (∀ f, inForcePattern s (otherSvc x) = some f → compatible p f = false →
       formationPass s = dropRequest x .incompatible u) ∧
       ((∀ f, inForcePattern s (otherSvc x) = some f → compatible p f = true) →
         formationPass s =
           startJob [{ svc := x, target := r.target, source := r.source, revert := r.revert,
                       reassert := decide ((s.svc x).inForce = some r.target) }] u)) ∧
  (∀ (x : Svc) (rest : List Svc) (r q : Request) (p pq : Pattern) (s : State), s.arrival = x :: rest →
     (s.svc x).request = some r → (s.svc (otherSvc x)).request = some q →
     s.pattern x r.target = some p → patternValid s p = true → inForceOnAir s x r.target = false →
     s.pattern (otherSvc x) q.target = some pq → patternValid s pq = true →
     inForceOnAir s (otherSvc x) q.target = false →
     ∀ entry : Svc → Request → Changing,
       (∀ y u, entry y u =
         { svc := y, target := u.target, source := u.source, revert := u.revert
           reassert := decide ((s.svc y).inForce = some u.target) }) →
       (compatible p pq = true → x = .a → formationPass s = startJob [entry .a r, entry .b q] s) ∧
         (compatible p pq = true → x = .b → formationPass s = startJob [entry .a q, entry .b r] s) ∧
         (compatible p pq = false →
           (∀ f, inForcePattern s (otherSvc x) = some f → compatible p f = false →
             formationPass s = dropRequest x .incompatible s) ∧
           ((∀ f, inForcePattern s (otherSvc x) = some f → compatible p f = true) →
             formationPass s = startJob [entry x r] s))) ∧
  (∀ p q : Pattern,
     (compatible p q = true ↔
       ∀ (i : Fin 32) (a b : Pos), p.map[i] = some a → q.map[i] = some b → a = b) ∧
       compatible p q = compatible q p ∧ compatible p p = true ∧
       ((∀ i : Fin 32, p.map[i] = none) → compatible p q = true))

/-- The move list (R75): a point has an entry exactly where a changing service's target lists it and its commanded
position is not the listed one, or the job re-asserts and the pair is not sensed in place; the entries stand in
ascending stage and within a stage in ascending point index, undriven, each from the commanded position to the listed
one. A changing service lists a point where its target slot's pattern does (R75). A job's start (R49, R76 to R78, R81,
R83): the collateral service is the present one that does not change, is VERIFYING or ON_AIR, and is in the effective
hot mask of a point of the move list; each muted service has its settle state, NOT_NEEDED where its permit was low,
and otherwise its settle delay, its mute timeout, or SETTLED where RFDOWN_x is accepted. The job record holds what
formation formed, in MUTING, its stage the lowest that has entries; each muted service, A before B, is CHANGING, or
STANDBY for the collateral one, with its permit, cutback and ceiling down, no cause and its window closed; the
requests of the changing services are taken; CHANGE_STARTED, STANDBY_ENTERED and CEILING_CHANGED are posted in that
order; nothing else changes. Then, in the same event, MUTING is tested (R84): while a service still has to settle that
is the state; where every settle state is NOT_NEEDED or SETTLED the job leaves MUTING, with an empty move list as a
change that has succeeded, and otherwise with the beginning of its lowest stage. The record of the edges is the
model's own (log entry 26). -/
def Obligations.JobsAreFormedAndStarted : Prop :=
  (∀ (cs : List Changing) (s : State),
     (∀ m : Move, m ∈ moveList s cs ↔
       ∃ r pos, s.pointRec m.point = some r ∧ cs.findSome? (fun c => listedBy s c m.point) = some pos ∧
         (∃ c ∈ cs, ∃ q, listedBy s c m.point = some q ∧
           ((s.point m.point).commanded ≠ some q ∨
             c.reassert = true ∧ sensedAt (s.point m.point).sensed q = false)) ∧
         m = { point := m.point, fromPos := (s.point m.point).commanded, toPos := pos, stage := r.stage,
               driven := false, timer := .off }) ∧
       (moveList s cs).Pairwise (fun a b => a.stage < b.stage ∨ a.stage = b.stage ∧ a.point < b.point)) ∧
  (∀ (c : Changing) (i : Fin 32) (pos : Pos) (s : State),
     listedBy s c i = some pos ↔ ∃ p, (s.cfg.patterns.get c.svc)[c.target] = some p ∧ p.map[i] = some pos) ∧
  (∀ (cs : List Changing) (s : State) (j : Job), cs ≠ [] → j = formedJob s cs →
     j.changing = cs ∧ j.moves = moveList s cs ∧ j.phase = .muting ∧
       (∀ y, j.collateral = some y ↔
         present s y = true ∧ (∀ c ∈ cs, c.svc ≠ y) ∧ ((s.svc y).state = .verifying ∨ (s.svc y).state = .onAir) ∧
           ∃ m ∈ j.moves, hotHas s m.point y = true) ∧
       (∀ x, j.settle.get x =
         if x ∈ mutedSvcs j then
           some (if (s.svc x).permit = false then .notNeeded
             else match (s.cfg.settings.get x).muteConfirm with
               | .fixed => .delay (s.now + (s.cfg.settings.get x).settle)
               | .confirm =>
                   if s.rfdown.get x then .settled else .confirm (s.now + (s.cfg.settings.get x).muteTimeout))
         else none) ∧
       (j.rollbackCause = none ∧ j.awaiting = false ∧
         ∀ k, j.stage = some k ↔ (∃ m ∈ j.moves, m.stage = k) ∧ ∀ m ∈ j.moves, k ≤ m.stage) ∧
       (∀ x, isChanging j x = true ↔ ∃ c ∈ cs, c.svc = x) ∧
       mutedSvcs j = [.a, .b].filter (fun x => isChanging j x || j.collateral == some x) ∧
       ∀ (t u v : State) (taken : Svc → Service),
         t = cs.foldl (fun w c => post (.changeStarted c.svc c.target j.moves.length) w) s →
         u = (match j.collateral with
           | some y => post (.standbyEntered y (s.svc y).inForce) t
           | none => t) →
         (∀ x, taken x =
           if x ∈ mutedSvcs j then
             { s.svc x with
               state := if isChanging j x then .changing else .standby
               hold := none
               causes := ⟨false, false, false, false⟩
               request := if isChanging j x then none else (s.svc x).request
               ceiling := 0
               permit := false
               cut := false
               edges := edgesTo (s.svc x) false false }
           else s.svc x) →
         v = { s with
               job := some j
               arrival := s.arrival.filter fun x => !isChanging j x
               svcs := ⟨taken .a, taken .b⟩
               tables :=
                 ⟨if .a ∈ mutedSvcs j then { s.tables.a with window := none } else s.tables.a,
                   if .b ∈ mutedSvcs j then { s.tables.b with window := none } else s.tables.b⟩
               ports :=
                 ((mutedSvcs j).foldl
                   (fun w x => if (s.svc x).ceiling = 0 then w else post (.ceilingChanged x (s.svc x).inForce 0) w)
                   u).ports } →
           startJob cs s = testSettled j v ∧
             ((∃ x d, j.settle.get x = some (.delay d) ∨ j.settle.get x = some (.confirm d)) → startJob cs s = v) ∧
             ((∀ x, j.settle.get x = none ∨ j.settle.get x = some .notNeeded ∨ j.settle.get x = some .settled) →
               (j.moves = [] → startJob cs s = succeed j v) ∧
                 ∀ k, j.stage = some k → startJob cs s = beginStage j k v))

/-- SETTLE_DELAY_EXPIRY and MUTE_TIMEOUT (R82, R84, R85): a delay that runs out settles its service and MUTING is
tested; a mute timeout cancels the job; either is nothing where its timer does not run (log entry 1). MUTING ends when
every settle state is settled: with an empty move list the change has succeeded, and otherwise the lowest stage
begins. RFDOWN_ACCEPTED and RFDOWN_NEGATED (R81, R83): the accepted level is kept for a present service from the load
end; in MUTING an acceptance settles a service that waits for it, and a return to the negated level is not read. That
a timer's command carries the time forward, and that a command whose timer does not run, or whose pin is not sampled,
changes nothing, is the model's choice (log entries 1, 5). -/
def Obligations.MutingEndsOrIsCancelled : Prop :=
  (∀ (x : Svc) (due : Nat) (s : State),
     (∀ j, s.job = some j → j.phase = .muting →
       (j.settle.get x = some (.delay due) →
         exec (.settleDelayExpiry x) s =
           .next (finish (testSettled { j with settle := j.settle.set x (some .settled) }
             { s with now := max s.now due, job := some { j with settle := j.settle.set x (some .settled) } })) ∧
           exec (.muteTimeout x) s = .next s) ∧
         (j.settle.get x = some (.confirm due) →
           exec (.muteTimeout x) s = .next (finish (cancelJob j (.muteTimeout x) { s with now := max s.now due })) ∧
             exec (.settleDelayExpiry x) s = .next s)) ∧
       (s.job = none → exec (.settleDelayExpiry x) s = .next s ∧ exec (.muteTimeout x) s = .next s) ∧
       ∀ j : Job,
         ((∀ y, j.settle.get y = none ∨ j.settle.get y = some .notNeeded ∨ j.settle.get y = some .settled) →
           (j.moves = [] → testSettled j s = succeed j s) ∧
             ∀ m ms, j.moves = m :: ms →
               ∃ k, nextStage j 0 = some k ∧ (∀ n ∈ j.moves, k ≤ n.stage) ∧ testSettled j s = beginStage j k s) ∧
           ∀ y d, (j.settle.get y = some (.delay d) ∨ j.settle.get y = some (.confirm d)) → testSettled j s = s) ∧
  (∀ (x : Svc) (s : State),
     (loadEnded s = true → present s x = true →
       (exec (.rfdownNegated x) s = .next { s with rfdown := s.rfdown.set x false }) ∧
       ((∀ j d, s.job = some j → j.phase = .muting → j.settle.get x ≠ some (.confirm d)) →
         exec (.rfdownAccepted x) s = .next { s with rfdown := s.rfdown.set x true }) ∧
       ∀ j d, s.job = some j → j.phase = .muting → j.settle.get x = some (.confirm d) →
         exec (.rfdownAccepted x) s =
           .next (finish (testSettled { j with settle := j.settle.set x (some .settled) }
             { s with
               rfdown := s.rfdown.set x true
               job := some { j with settle := j.settle.set x (some .settled) } }))) ∧
       (loadEnded s = false ∨ present s x = false →
         exec (.rfdownAccepted x) s = .next s ∧ exec (.rfdownNegated x) s = .next s))

/-- A stage about to begin (R86, R93): with a blocking interlock the engine is PAUSED from TRANSFER, TRANSFER_PAUSED
naming the lowest one; a point sensed CONFLICT or UNKNOWN is a transfer fault before any write; otherwise the phase is
TRANSFER, the stage's points are under drive, and one drive write for each expander concerned joins the queue in
ascending index. A change of an interlock at the engine (R93, R94): a PAUSED engine resumes, with TRANSFER_RESUMED for
each service of the job, when the interlock's effective mask includes a muted service and no blocking interlock
remains; the blocking one is the lowest that is OPEN or LATCHED with motion-inhibit over a muted service. Otherwise
the job is left as it is. The stage tested (R88): complete when every entry's write has been answered completed and
every point is at position; then its marks and timers go and the next stage with entries begins, or the change has
succeeded; an incomplete stage waits. A successful change's effect on the record (R44): a target that differs from the
old in-force slot takes its place, the old slot becomes the previous one, and the revert mark follows the request's
revert flag; a re-assert changes the mark alone. The three endings that release (R100, R102, R103): TRANSFER_DONE with
the number of driven entries after each changing service takes its target, REQUEST_DROPPED for each changing service,
or ROLLBACK_DONE for each muted one; then each muted service goes through the entry check, A before B, the under-drive
marks are cleared, and the engine is IDLE. -/
def Obligations.StagesRunInOrder : Prop :=
  (∀ (j : Job) (k : Fin 4) (s : State),
     (∀ i, blocking s j = some i →
       beginStage j k s =
         postEach (mutedSvcs j) (fun x => .transferPaused x i k)
           { s with job := some { j with stage := some k, phase := .paused .transfer } }) ∧
       (blocking s j = none →
         (∀ m ∈ stageMoves j k, (s.point m.point).sensed ≠ .conflict ∧ (s.point m.point).sensed ≠ .unknown) →
         beginStage j k s =
           { s with
             job := some { j with stage := some k, phase := .transfer }
             points := Vector.ofFn fun i : Fin 32 =>
               { s.point i with
                 underDrive := (s.point i).underDrive || ((stageMoves j k).map Move.point).contains i }
             bus := { s.bus with
               queue := s.bus.queue ++ (List.finRange 8).filterMap fun e =>
                 let ts := ((stageMoves j k).map fun m => (m.point, m.toPos)).filter fun t =>
                   drivenFrom s.cfg.points e t.1
                 if ts = [] then none else some (.drive e ts) } }) ∧
       ∀ m ∈ stageMoves j k, blocking s j = none →
         ((s.point m.point).sensed = .conflict ∨ (s.point m.point).sensed = .unknown) →
         ∃ i reason,
           (reason = .conflict ∧ (s.point i).sensed = .conflict ∨ reason = .expander ∧ (s.point i).sensed = .unknown) ∧
           (∃ n ∈ stageMoves j k, n.point = i) ∧
           ((stageMoves j k).Pairwise (fun a b => a.point < b.point) → i ≤ m.point) ∧
           beginStage j k s =
             transferFault { j with stage := some k } i reason { s with job := some { j with stage := some k } }) ∧
  (∀ (j : Job) (k l : Fin 4) (s : State) (covers blocks : Fin 4 → Prop),
     (∀ n, covers n ↔ ∃ c x, s.interlockRec n = some c ∧ x ∈ mutedSvcs j ∧ effHas s c.mask x = true) →
     (∀ n, blocks n ↔
       covers n ∧ (s.interlock n).state ≠ .closed ∧ ∃ c, s.interlockRec n = some c ∧ c.motionInhibit = true) →
     (∀ n, blocking s j = some n ↔ blocks n ∧ ∀ m, m < n → ¬ blocks m) ∧
       (blocking s j = none ↔ ∀ n, ¬ blocks n) ∧
       (s.job = some j → j.stage = some l →
         (covers k → blocking s j = none → j.phase = .paused .transfer →
           engineInterlock k s =
             beginStage { j with phase := .transfer } l (postEach (mutedSvcs j) (fun x => .transferResumed x l) s)) ∧
         (covers k → blocking s j = none → j.phase = .paused .rollback →
           engineInterlock k s =
             runRollbackStage j l (postEach (mutedSvcs j) (fun x => .transferResumed x l) s)) ∧
         (¬ covers k ∨ blocking s j ≠ none ∨ (∀ d, j.phase ≠ .paused d) → engineInterlock k s = s))) ∧
  (∀ (j : Job) (k : Fin 4) (s : State), j.stage = some k →
     ((∃ m ∈ stageMoves j k, m.timer = .off ∨ sensedAt (s.point m.point).sensed m.toPos = false) → testStage j s = s) ∧
       ((∀ m ∈ stageMoves j k, m.timer ≠ .off ∧ sensedAt (s.point m.point).sensed m.toPos = true) →
         ∀ (j' : Job) (t : State), j' = { j with moves := j.moves.map fun m => { m with timer := .off } } →
           t = { s with
                 job := some j'
                 points := Vector.ofFn fun i : Fin 32 => { s.point i with underDrive := false } } →
           ((∀ m ∈ j.moves, m.stage ≤ k) → testStage j s = succeed j' t) ∧
             ∀ l, k < l → (∃ m ∈ j.moves, m.stage = l) → (∀ m ∈ j.moves, m.stage ≤ k ∨ l ≤ m.stage) →
               testStage j s = beginStage j' l t)) ∧
  (∀ (c : Changing) (s : State),
     ((s.svc c.svc).inForce ≠ some c.target →
       applyChange c s =
         { s with
           svcs := s.svcs.set c.svc
             { s.svc c.svc with
               inForce := some c.target, previous := (s.svc c.svc).inForce, revertMark := c.revert } }) ∧
       ((s.svc c.svc).inForce = some c.target →
         applyChange c s = { s with svcs := s.svcs.set c.svc { s.svc c.svc with revertMark := c.revert } })) ∧
  (∀ (j : Job) (s : State) (release : State → State),
     (∀ u, release u =
       (let v := (mutedSvcs j).foldl (fun t x => throughEntryCheck x t) u
        { v with
          points := Vector.ofFn fun i : Fin 32 => { v.point i with underDrive := false }
          job := none })) →
     succeed j s =
         release (j.changing.foldl
           (fun t c =>
             post (.transferDone c.svc (some c.target) (j.moves.filter Move.driven).length) (applyChange c t)) s) ∧
       (∀ reason, cancelJob j reason s =
         release (j.changing.foldl (fun t c => post (.requestDropped c.svc c.target reason) t) s)) ∧
       (∀ cause, j.rollbackCause = some cause →
         rollbackDone j s = release (postEach (mutedSvcs j) (fun x => .rollbackDone x (s.svc x).inForce cause) s)) ∧
       (∀ x, x ∈ mutedSvcs j ↔ (∃ c ∈ j.changing, c.svc = x) ∨ j.collateral = some x) ∧
       (mutedSvcs j).Pairwise (fun x y => x = .a ∧ y = .b))

/-- TRANSIT_LIMIT_EXPIRY (R87, R89, R99): the limit is spent; in TRANSFER a point not at its to-position is a transfer
fault NO_ARRIVAL; in ROLLBACK a point not at its from-position is a rollback failure, CONFLICT where it is sensed so
and NO_ARRIVAL otherwise; a point that stands in position is no fault; a limit that does not run changes nothing (log
entry 1). A transfer fault (R90, R97): TRANSFER_FAULT for each service of the job; the waiting drive writes are
withdrawn, the point timers stopped and every mark cleared; the engine is in ROLLBACK with cause FAULT. It waits while
a drive write of the job is on the bus; otherwise the rollback stages run, the highest first, and a blocking interlock
pauses the engine before it (R93), TRANSFER_PAUSED naming the lowest one. TRANSFER_FAULT carries a changing service's
target, and the collateral service's in-force slot. A rollback stage (R96, R97): its entries are those of the stage
that were driven and had a commanded position before; their points are under drive and a drive write to the from-
positions for each expander joins the queue. The stage is complete when each of them has its timer started and stands
at its from-position; then the next lower rollback stage runs, or rollback is done. A rollback failure (R101, R49):
the waiting drive writes are withdrawn; ROLLBACK_FAILED for each service of the job, A before B; each changing service
is UNDETERMINED with no in-force slot and its revert mark clear, the collateral one HELD with cause TRANSFER_FAULT;
the marks are cleared and the engine is IDLE. Commanded positions stay as last written. The rank of the reasons, that
a limit's command carries the time forward, and that it changes nothing where the limit does not run, is the model's
reading (log entries 1, 5, 11); so is one CEILING_CHANGED for one transition (log entry 23). -/
def Obligations.FaultsRollTheJobBack : Prop :=
  (∀ (i : Fin 32) (due : Nat) (j : Job) (m : Move) (s : State), s.job = some j →
     j.moves.find? (fun m => m.point == i) = some m →
     ((∀ d, m.timer ≠ .running d) → exec (.transitLimitExpiry i) s = .next s) ∧
       (m.timer = .running due →
         ∀ (j' : Job) (t : State),
           j' = { j with moves := j.moves.map fun n => if n.point = i then { n with timer := .spent } else n } →
           t = { s with now := max s.now due, job := some j' } →
           (j.phase = .transfer →
             (sensedAt (s.point i).sensed m.toPos = true → exec (.transitLimitExpiry i) s = .next (finish t)) ∧
               (sensedAt (s.point i).sensed m.toPos = false →
                 exec (.transitLimitExpiry i) s = .next (finish (transferFault j' i .noArrival t)))) ∧
             (j.phase = .rollback →
               (sensedAt (s.point i).sensed (backPos m) = true → exec (.transitLimitExpiry i) s = .next (finish t)) ∧
                 (sensedAt (s.point i).sensed (backPos m) = false →
                   exec (.transitLimitExpiry i) s =
                     .next (finish (rollbackFailed j' i
                       (if (s.point i).sensed = .conflict then .conflict else .noArrival) t)))))) ∧
  (∀ (j : Job) (i : Fin 32) (reason : FaultReason) (s : State) (j' : Job) (t : State),
     j' = { j with
             phase := .rollback, rollbackCause := some .fault
             moves := j.moves.map fun m => { m with timer := .off } } →
     t = { postEach (mutedSvcs j) (fun x => .transferFault x (faultSlot j s x) i reason) s with
           points := Vector.ofFn fun n : Fin 32 => { s.point n with underDrive := false }
           bus := { s.bus with
             queue := s.bus.queue.filter fun q => match q with
               | .drive _ _ => false
               | .seq _ _ _ => true } } →
     (driveOnBus s = true → transferFault j i reason s = { t with job := some { j' with awaiting := true } }) ∧
       (driveOnBus s = false →
         ((∀ m ∈ j.moves, m.driven = false ∨ m.fromPos = none) →
           transferFault j i reason s = rollbackDone j' { t with job := some j' }) ∧
         ∀ k, (∃ m ∈ j.moves, m.stage = k ∧ m.driven = true ∧ m.fromPos ≠ none) →
           (∀ m ∈ j.moves, m.driven = true → m.fromPos ≠ none → m.stage ≤ k) →
           (blocking s j = none →
             transferFault j i reason s = runRollbackStage j' k { t with job := some j' }) ∧
           ∀ n, blocking s j = some n →
             transferFault j i reason s =
               postEach (mutedSvcs j) (fun x => .transferPaused x n k)
                 { t with
                   job := some { j' with phase := .paused .rollback, stage := some k, awaiting := false } })) ∧
  (∀ (j : Job) (x : Svc) (s : State),
     (∀ c, j.changing.find? (fun c => c.svc == x) = some c → faultSlot j s x = some c.target) ∧
       ((∀ c ∈ j.changing, c.svc ≠ x) → faultSlot j s x = (s.svc x).inForce)) ∧
  (∀ (j : Job) (k : Fin 4) (s : State) (back : List Move),
     back = j.moves.filter (fun m => decide (m.stage = k ∧ m.driven = true ∧ m.fromPos ≠ none)) →
     runRollbackStage j k s =
         { s with
           job := some { j with
             phase := .rollback, stage := some k, awaiting := false
             moves := j.moves.map fun m => { m with timer := .off } }
           points := Vector.ofFn fun i : Fin 32 =>
             { s.point i with underDrive := (s.point i).underDrive || (back.map Move.point).contains i }
           bus := { s.bus with
             queue := s.bus.queue ++ (List.finRange 8).filterMap fun e =>
               let ts := (back.map fun m => (m.point, m.fromPos.getD m.toPos)).filter fun t =>
                 drivenFrom s.cfg.points e t.1
               if ts = [] then none else some (.drive e ts) } } ∧
       (j.stage = some k →
         ((∃ m ∈ back, m.timer = .off ∨ ∀ pos, m.fromPos = some pos → sensedAt (s.point m.point).sensed pos = false) →
           testRollback j s = s) ∧
         ((∀ m ∈ back, m.timer ≠ .off ∧ ∀ pos, m.fromPos = some pos → sensedAt (s.point m.point).sensed pos = true) →
           ∀ (j' : Job) (t : State), j' = { j with moves := j.moves.map fun m => { m with timer := .off } } →
             t = { s with
                   job := some j'
                   points := Vector.ofFn fun i : Fin 32 => { s.point i with underDrive := false } } →
             ((∀ m ∈ j.moves, m.driven = true → m.fromPos ≠ none → k ≤ m.stage) →
               testRollback j s = rollbackDone j' t) ∧
             ∀ l, l < k → (∃ m ∈ j.moves, m.stage = l ∧ m.driven = true ∧ m.fromPos ≠ none) →
               (∀ m ∈ j.moves, m.driven = true → m.fromPos ≠ none → m.stage ≤ l ∨ k ≤ m.stage) →
               (blocking s j = none → testRollback j s = runRollbackStage j' l t) ∧
               ∀ i, blocking s j = some i →
                 testRollback j s =
                   postEach (mutedSvcs j) (fun x => .transferPaused x i l)
                     { t with
                       job := some { j' with phase := .paused .rollback, stage := some l, awaiting := false } }))) ∧
  (∀ (j : Job) (i : Fin 32) (reason : FaultReason) (s : State),
     (rollbackFailed j i reason s).job = none ∧
       (∀ n, ((rollbackFailed j i reason s).point n).underDrive = false ∧
         ((rollbackFailed j i reason s).point n).commanded = (s.point n).commanded) ∧
       (∀ q ∈ (rollbackFailed j i reason s).bus.queue, ∀ e ts, q ≠ .drive e ts) ∧
       (∀ x,
         (isChanging j x = true →
           ((rollbackFailed j i reason s).svc x).state = .undetermined ∧
             ((rollbackFailed j i reason s).svc x).inForce = none ∧
             ((rollbackFailed j i reason s).svc x).revertMark = false ∧
             ((rollbackFailed j i reason s).svc x).previous = (s.svc x).previous ∧
             ((rollbackFailed j i reason s).svc x).permit = false) ∧
           (isChanging j x = false → j.collateral = some x →
             ((rollbackFailed j i reason s).svc x).state = .held ∧
               ((rollbackFailed j i reason s).svc x).hold = some .transferFault ∧
               ((rollbackFailed j i reason s).svc x).inForce = (s.svc x).inForce) ∧
           (isChanging j x = false → j.collateral ≠ some x → (rollbackFailed j i reason s).svc x = s.svc x)) ∧
       ∀ t u : State,
         t = postEach (mutedSvcs j) (fun x => .rollbackFailed x i reason)
           { s with
             bus := { s.bus with
               queue := s.bus.queue.filter fun q => match q with
                 | .drive _ _ => false
                 | .seq _ _ _ => true
               current := s.bus.current.map fun c => match c.txn with
                 | .drive e ts _ => { c with txn := .drive e ts false }
                 | _ => c } } →
         u = (mutedSvcs j).foldl
           (fun v x =>
             if isChanging j x then
               outputs x
                 { v with
                   svcs := v.svcs.set x
                     { v.svc x with
                       state := .undetermined, inForce := none, revertMark := false, hold := none
                       causes := ⟨false, false, false, false⟩ } }
             else toHeld x .transferFault v) t →
         rollbackFailed j i reason s =
           { u with job := none, points := Vector.ofFn fun n : Fin 32 => { u.point n with underDrive := false } })

/-- What can follow a command within its event (log entry 7) leaves the site alone: the configuration, the store, the
clock, the pins, the receivers, the expanders, every sensed state and the queue; and where nothing follows, nothing
changes. One thing follows at a time, by the model's reading: where adoption is ready it decides (R186), else the
scanner starts where it is ready (R12, R183), else a pass that has ended ends (R12), else formation runs (R70), else
the bus is granted (R11). Formation runs with no job, adoption finished and a request waiting. What follows is what
the event comes to, until nothing follows, at most 64 things. A grant (R11): the bus is granted to nothing exactly
when it is busy or nothing waits, a read of a pass waiting while its expander is OK and a retry while it is FAULTED; a
step of an expander's sequence (R7, R16, R17) and a read of a pass are on the bus at the expander's address and the
bus's speed; a drive write is taken as DriveWritesAreArbitrated has it. The order of what follows is the model's
reading (log entry 7), and so are a read whose expander changed health, which no longer waits, and the output word of
a restore, which reads back where a point has no commanded position (log entries 9, 22). -/
def Obligations.EndOfEventKeepsTheSite : Prop :=
  (∀ s : State, KeepsSite s (finish s) ∧ (advance s = none → finish s = s)) ∧
  (∀ s : State,
     (adoptionReady s = true → advance s = some (adoptAll s)) ∧
       (adoptionReady s = false → scannerReady s = true → advance s = some (startScanner s)) ∧
       (adoptionReady s = false → scannerReady s = false → passEnded s = true → advance s = some (endPass s)) ∧
       (adoptionReady s = false → scannerReady s = false → passEnded s = false → formationReady s = true →
         advance s = some (formationPass s)) ∧
       (adoptionReady s = false → scannerReady s = false → passEnded s = false → formationReady s = false →
         advance s = grantNext s) ∧
       (formationReady s = true ↔ s.job = none ∧ s.phase = .running ∧ s.arrival ≠ []) ∧
       (∀ t, advance s = some t → finish s = settleFor 63 t ∧ ∀ n, settleFor (n + 1) s = settleFor n t) ∧
       settleFor 0 s = s ∧ (∀ n, advance s = none → settleFor n s = s) ∧
       ∀ n, n ≤ 64 → advance (settleFor n s) = none → finish s = settleFor n s) ∧
  (∀ s : State,
     (grantNext s = none ↔
       s.bus.current ≠ none ∨
         s.bus.queue = [] ∧ s.bus.eeprom = none ∧
           ∀ items, s.bus.scanner.pass = some items → ∀ i ∈ items, eligible s i = false) ∧
       ∀ e : Fin 8,
         (eligible s (.read e) = true ↔ (s.exp e).health = .ok) ∧
           (eligible s (.retry e) = true ↔ (s.exp e).health = .faulted) ∧
           (∀ ts, grantClaim (.drive e ts) s = grantDrive e ts s) ∧
           ∀ (step : SeqStep) (r4 : Bool) (c : Current),
             c.address = s.cfg.base + e.val → c.speed = s.cfg.speed → c.grantedAt = s.now → c.discarded = false →
             (c.txn = .scan e → c.op = .readInput → grantScan (.read e) s = { s with bus := { s.bus with current := some c } }) ∧
               (c.txn = .retry e → c.op = .readInput →
                 grantScan (.retry e) s = { s with bus := { s.bus with current := some c } }) ∧
               (c.txn = .seq step e r4 →
                 c.op = (match step with
                   | .initDirection | .restoreDirection | .rewriteDirection => .writeDirection (directionWord s e)
                   | .rewriteOutput => .writeOutput (outputWord s e)
                   | .restoreOutput =>
                       if ∀ i : Fin 32, drivenFrom s.cfg.points e i = true → (s.point i).commanded ≠ none then
                         .writeOutput (outputWord s e)
                       else .readOutput
                   | .initReadback => .readOutput
                   | .initInput | .restoreInput | .confirmInput => .readInput) →
                 grantClaim (.seq step e r4) s = { s with bus := { s.bus with current := some c } }))

/-! ## Monitors, readings, verification -/

/-- MONITOR_BYTE_RECEIVED before a frame is judged, and MONITOR_FRAMING_ERROR (R108, R109, R110): the mark, the count,
the data; a bad count, a bad check and a framing error lose the frame with the frame-error flag set; the gap timer
runs 20 ms from each byte taken. A receiver that has not started takes nothing (R106). A good frame (R109, R112, R113,
R143): it replaces the last good frame, the count goes up by one, the line is LIVE with its staleness timer restarted,
the receiver hunts and the frame-error flag stays; a line that was STALE posts MONITOR_RESUMED, and an ON_AIR service
loses the cause STALE; then a VERIFYING or ON_AIR service has the reading evaluated. A frame's entries (11.3): a
magnitude, unsigned, and a phase, signed, of two bytes each, high byte first. GAP_TIMER_EXPIRY and
STALENESS_TIMER_EXPIRY (R110, R112, R143): a gap discards the partial frame and leaves the frame-error flag; a stale
line posts MONITOR_STALE with the timeout in seconds, stops the timer, and gives an ON_AIR service the cause STALE
with its outputs computed again. That a timer's command carries the time forward, and changes nothing where the timer
is stopped, is the model's choice (log entries 1, 5), and so is MONITOR_STALE with the timeout set at the expiry (log
entry 46); one CEILING_CHANGED for one transition is its reading (log entry 23). -/
def Obligations.MonitorReceiverFollowsItsTable : Prop :=
  (∀ (x : Svc) (b : Byte) (s : State),
     ((s.receivers.get x).started = false →
       exec (.monitorByteReceived x b) s = .next s ∧ exec (.monitorFramingError x) s = .next s) ∧
       ((s.receivers.get x).started = true →
         ∀ (r lost : Receiver), r = s.receivers.get x →
           lost = { r with frame := .hunt, part := ⟨0, [], 0⟩, gapDue := none, frameError := true } →
           (r.frame = .hunt →
             exec (.monitorFramingError x) s = .next s ∧
               (b ≠ 0xC3 → exec (.monitorByteReceived x b) s = .next s) ∧
               (b = 0xC3 →
                 exec (.monitorByteReceived x b) s =
                   .next
                     { s with
                       receivers := s.receivers.set x
                         { r with frame := .count, part := ⟨0, [], 0⟩, gapDue := some (s.now + 20) } })) ∧
             (r.frame ≠ .hunt →
               exec (.monitorFramingError x) s = .next { s with receivers := s.receivers.set x lost }) ∧
             (r.frame = .count →
               (1 ≤ b.toNat → b.toNat ≤ 12 →
                 exec (.monitorByteReceived x b) s =
                   .next
                     { s with
                       receivers := s.receivers.set x
                         { r with frame := .data, part := ⟨b.toNat, [], b⟩, gapDue := some (s.now + 20) } }) ∧
                 (b = 0 ∨ 13 ≤ b.toNat →
                   exec (.monitorByteReceived x b) s = .next { s with receivers := s.receivers.set x lost })) ∧
             (r.frame = .data →
               exec (.monitorByteReceived x b) s =
                 .next
                   { s with
                     receivers := s.receivers.set x
                       { r with
                         frame := if r.part.bytes.length + 1 = 4 * r.part.count then .check else .data
                         part := ⟨r.part.count, r.part.bytes ++ [b], r.part.sum + b⟩
                         gapDue := some (s.now + 20) } }) ∧
             (r.frame = .check → r.part.sum + b ≠ 0 →
               exec (.monitorByteReceived x b) s = .next { s with receivers := s.receivers.set x lost }))) ∧
  (∀ (x : Svc) (b : Byte) (s : State) (r : Receiver) (frame : List MonitorEntry) (t u : State),
     r = s.receivers.get x → r.started = true → r.frame = .check → r.part.sum + b = 0 → frame = entriesOf r.part.bytes →
     t = { s with
           receivers := s.receivers.set x
             { r with
               frame := .hunt, part := ⟨0, [], 0⟩, gapDue := none, lastGood := some frame
               goodCount := r.goodCount + 1, stale := false
               staleDue := some (s.now + (s.cfg.settings.get x).stale * 1000) } } →
     u = (if r.stale then
           let v := post (.monitorResumed x (s.svc x).inForce) t
           if (s.svc x).state = .onAir then
             { v with svcs := v.svcs.set x { v.svc x with causes := { (v.svc x).causes with stale := false } } }
           else v
          else t) →
       ((s.svc x).state = .verifying ∨ (s.svc x).state = .onAir →
         exec (.monitorByteReceived x b) s = .next (evaluate x frame u)) ∧
         ((s.svc x).state ≠ .verifying → (s.svc x).state ≠ .onAir → exec (.monitorByteReceived x b) s = .next u)) ∧
  (entriesOf [] = [] ∧
     ∀ (a b c d : Byte) (rest : List Byte),
       entriesOf (a :: b :: c :: d :: rest) =
         ⟨256 * a.toNat + b.toNat,
           if c.toNat < 128 then (256 * c.toNat + d.toNat : Int) else (256 * c.toNat + d.toNat : Int) - 65536⟩ ::
             entriesOf rest) ∧
  (∀ (x : Svc) (due : Nat) (s : State),
     ((s.receivers.get x).gapDue = some due →
       exec (.gapTimerExpiry x) s =
         .next
           { s with
             now := max s.now due
             receivers := s.receivers.set x
               { s.receivers.get x with frame := .hunt, part := ⟨0, [], 0⟩, gapDue := none } }) ∧
       ((s.receivers.get x).gapDue = none → exec (.gapTimerExpiry x) s = .next s) ∧
       ((s.receivers.get x).staleDue = none → exec (.stalenessTimerExpiry x) s = .next s) ∧
       ((s.receivers.get x).staleDue = some due →
         ∀ t : State,
           t = post (.monitorStale x (s.svc x).inForce (s.cfg.settings.get x).stale)
             { s with
               now := max s.now due
               receivers := s.receivers.set x { s.receivers.get x with stale := true, staleDue := none } } →
           ((s.svc x).state ≠ .onAir → exec (.stalenessTimerExpiry x) s = .next t) ∧
             ((s.svc x).state = .onAir →
               exec (.stalenessTimerExpiry x) s =
                 .next (outputs x
                   { t with svcs := t.svcs.set x { t.svc x with causes := { (t.svc x).causes with stale := true } } }))))

/-- A reading judged (R114, R116): the first of its three tests that fails makes it invalid and gives the outcome, the
invalid count goes up by one and no row changes; a reading that passes them is valid: the valid count goes up by one,
the outcome is VALID, every row is updated, and the records of the rows are posted in tower order (R117, R125). -/
def Obligations.ReadingIsValidOrNot : Prop :=
  ∀ (x : Svc) (p : Pattern) (frame : List MonitorEntry) (s : State), inForcePattern s x = some p →
    1 ≤ (s.cfg.settings.get x).minRef →
    ∀ (t : ConfTable) (why : LastOutcome), t = s.table x →
      ((frame.length ≤ p.refTower.val ∧ why = .refBeyondCount ∨
          (∃ k, frame[p.refTower.val]? = some k ∧
            ((k.phase < -1800 ∨ 1799 < k.phase) ∧ why = .refPhaseRange ∨
              -1800 ≤ k.phase ∧ k.phase ≤ 1799 ∧ k.magnitude < (s.cfg.settings.get x).minRef ∧
                why = .refBelowFloor)) →
        ∀ u : State,
          u = { s with
                tables := s.tables.set x { t with invalid := min 65535 (t.invalid + 1), outcome := why } } →
          evaluate x frame s = if (s.svc x).state = .onAir then outputs x u else u) ∧
        ∀ k, frame[p.refTower.val]? = some k → -1800 ≤ k.phase → k.phase ≤ 1799 →
          (s.cfg.settings.get x).minRef ≤ k.magnitude →
          evaluate x frame s = handReading x p (updateTable x p k frame s) ∧
            ∀ row : Fin 12 → TowerRow × List Event,
              (∀ i : Fin 12, row i = updateRow x t.slot p k frame i t.rows[i]) →
              updateTable x p k frame s =
                ((List.finRange 12).flatMap fun i => (row i).2).foldl (fun u e => post e u)
                  { s with
                    tables := s.tables.set x
                      { t with
                        valid := min 65535 (t.valid + 1), outcome := .valid
                        rows := Vector.ofFn fun i => (row i).1 } })

/-- R123: a run after a tolerance result, case by case: a result in the run's direction counts on, stopping at 15, and
any other starts a run of 1. -/
def Obligations.RunsCountAgreeingReadings : Prop :=
  ∀ (c : Nat) (d : RunDir),
    stepRun ⟨.none, 0⟩ true = ⟨.in_, 1⟩ ∧ stepRun ⟨.none, 0⟩ false = ⟨.out, 1⟩ ∧
      (c ≤ 15 → stepRun ⟨.in_, c⟩ true = ⟨.in_, if c = 15 then 15 else c + 1⟩) ∧ stepRun ⟨.in_, c⟩ false = ⟨.out, 1⟩ ∧
      (c ≤ 15 → stepRun ⟨.out, c⟩ false = ⟨.out, if c = 15 then 15 else c + 1⟩) ∧ stepRun ⟨.out, c⟩ true = ⟨.in_, 1⟩ ∧
      ∀ (n : Nat) (isIn : Bool) (st : ParamState), 1 ≤ n → c ≤ 15 →
        (stepParam n (stepRun ⟨d, c⟩ isIn) st =
          if n ≤ (stepRun ⟨d, c⟩ isIn).count then (if isIn then .in_ else .out) else st)

/-- A valid reading's effect on a tower's row (R117 to R122): a tower beyond the frame, or whose phase is out of
range, keeps its row; any other has its ratio and relative phase measured against the reference tower; the two
parameters of a tower that carries them have their errors stored and are judged against their tolerances, a saturated
ratio always out, and PARAM_IN or PARAM_OUT with the error for each that changes state, the ratio's before the phase's
(R124). R118: the measured ratio is the quotient in milli-ratio rounded half up, 65535 with the saturated flag where
the quotient exceeds it; a magnitude of 0 measures 0, and the reference tower 1000. R120: the ratio error is the
departure in per-mil of the reference ratio, rounded half away from zero, with the sign of the departure, saturated to
−999 to +999. Normalised angles (R119, R121): 3600 is added or subtracted until the angle lies in −1800 to +1799, once
at most for the difference of two phases in that range; the relative phase and the phase error are such differences.
-/
def Obligations.ReadingsAreMeasured : Prop :=
  (∀ (x : Svc) (slot : Option (Fin 4)) (p : Pattern) (ref : MonitorEntry) (frame : List MonitorEntry) (i : Fin 12)
     (row : TowerRow),
     (frame.length ≤ i.val → updateRow x slot p ref frame i row = (row, [])) ∧
       ∀ e, frame[i.val]? = some e →
         ((e.phase < -1800 ∨ 1799 < e.phase) → updateRow x slot p ref frame i row = (row, [])) ∧
           (-1800 ≤ e.phase → e.phase ≤ 1799 →
             ∀ new : TowerRow, new = (updateRow x slot p ref frame i row).1 →
               new.noReading = false ∧ new.ratio = some (measuredRatio e.magnitude ref.magnitude) ∧
                 new.saturated = ratioSaturated e.magnitude ref.magnitude ∧
                 new.phase = some (normalise (e.phase - ref.phase)) ∧
                 (i = p.refTower ∨ p.towers[i] = none →
                   new.ratioErr = row.ratioErr ∧ new.phaseErr = row.phaseErr ∧ new.ratioState = row.ratioState ∧
                     new.phaseState = row.phaseState ∧ new.ratioRun = row.ratioRun ∧ new.phaseRun = row.phaseRun ∧
                     (updateRow x slot p ref frame i row).2 = []) ∧
                 ∀ t, i ≠ p.refTower → p.towers[i] = some t →
                   ∀ er ep : Int, er = ratioError (measuredRatio e.magnitude ref.magnitude) t.ratio →
                     ep = phaseError (normalise (e.phase - ref.phase)) t.phase →
                     new.ratioErr = some er ∧ new.phaseErr = some ep ∧
                       new.ratioRun = stepRun row.ratioRun (!new.saturated && decide (er.natAbs ≤ t.ratioTol)) ∧
                       new.phaseRun = stepRun row.phaseRun (decide (ep.natAbs ≤ t.phaseTol)) ∧
                       new.ratioState = stepParam p.persistence new.ratioRun row.ratioState ∧
                       new.phaseState = stepParam p.persistence new.phaseRun row.phaseState ∧
                       (updateRow x slot p ref frame i row).2 =
                         (if new.ratioState = row.ratioState then []
                           else if new.ratioState = .in_ then [.paramIn x slot ⟨i, .ratio⟩ er]
                           else [.paramOut x slot ⟨i, .ratio⟩ er]) ++
                           (if new.phaseState = row.phaseState then []
                             else if new.phaseState = .in_ then [.paramIn x slot ⟨i, .phase⟩ ep]
                             else [.paramOut x slot ⟨i, .phase⟩ ep]))) ∧
  (∀ m ref : Nat, 0 < ref →
     (∀ q : Nat, q * (2 * ref) ≤ 2 * m * 1000 + ref → 2 * m * 1000 + ref < (q + 1) * (2 * ref) →
       (65535 < q → measuredRatio m ref = 65535 ∧ ratioSaturated m ref = true) ∧
         (q ≤ 65535 → measuredRatio m ref = q ∧ ratioSaturated m ref = false)) ∧
       measuredRatio 0 ref = 0 ∧ measuredRatio ref ref = 1000) ∧
  (∀ r ref : Nat, 0 < ref → ref ≤ 20000 →
     (∀ q : Nat, r = ref + q ∨ ref = r + q →
       ∀ e : Nat, e * (2 * ref) ≤ 2 * q * 1000 + ref → 2 * q * 1000 + ref < (e + 1) * (2 * ref) →
         (ref ≤ r → ratioError r ref = min (e : Int) 999) ∧ (r < ref → ratioError r ref = -(min (e : Int) 999))) ∧
       ratioError 0 ref = -999) ∧
  (∀ z : Int,
     (-1800 ≤ normalise z ∧ normalise z ≤ 1799 ∧ ∃ n : Int, normalise z = z + 3600 * n) ∧
       (-3599 ≤ z → z ≤ 3599 → normalise z = z ∨ normalise z = z + 3600 ∨ normalise z = z - 3600) ∧
       ∀ phi ref : Int, phaseError phi ref = normalise (phi - ref) ∧ phaseError phi phi = 0)

/-- The success test (R129, R130, R47): at a valid reading in VERIFYING with at least one valid reading and every
enforced parameter IN, VERIFIED is posted with the count, the window closes, and the service is ON_AIR with its
outputs computed; otherwise nothing changes. In any state but VERIFYING and ON_AIR a reading is handed nowhere. A
valid reading in ON_AIR (R140 to R145): a WITHDRAW parameter that is OUT holds the service with cause DEVIATION;
otherwise DEVIATION is present exactly while a CUTBACK parameter is OUT, VERIFY_FAIL goes when every enforced
parameter is IN, and the outputs are computed once. One record for one transition is the model's reading (log entry
23). -/
def Obligations.HandedReadingActsByState : Prop :=
  (∀ (x : Svc) (p : Pattern) (s : State),
     ((s.svc x).state = .verifying →
       ((s.table x).valid = 0 ∨ firstNotIn p (s.table x) ≠ none → handReading x p s = s) ∧
         (1 ≤ (s.table x).valid → firstNotIn p (s.table x) = none →
           handReading x p s = outputs x
             (let v := post (.verified x (s.svc x).inForce (s.table x).valid) s
              { v with
                tables := v.tables.set x { v.table x with window := none }
                svcs := v.svcs.set x
                 { v.svc x with
                   state := .onAir
                   causes := ⟨false, anyOut p (s.table x) .cutback, (s.receivers.get x).stale, false⟩ } }))) ∧
       ((s.svc x).state ≠ .verifying → (s.svc x).state ≠ .onAir → handReading x p s = s) ∧
       (firstNotIn p (s.table x) = none ↔
         ∀ (i : Fin 12) t, i ≠ p.refTower → p.towers[i] = some t →
           (t.ratioEnf = .advisory ∨ ((s.table x).rows[i]).ratioState = .in_) ∧
             (t.phaseEnf = .advisory ∨ ((s.table x).rows[i]).phaseState = .in_))) ∧
  (∀ (x : Svc) (p : Pattern) (s : State), (s.svc x).state = .onAir →
     (anyOut p (s.table x) .withdraw = true → handReading x p s = toHeld x .deviation s) ∧
       (anyOut p (s.table x) .withdraw = false →
         handReading x p s = outputs x
           { s with
             svcs := s.svcs.set x
               { s.svc x with
                 causes :=
                   { (s.svc x).causes with
                     deviation := anyOut p (s.table x) .cutback
                     verifyFail :=
                       (s.svc x).causes.verifyFail && decide (firstNotIn p (s.table x) ≠ none) } } }) ∧
       ∀ enf : Enforcement, anyOut p (s.table x) enf = true ↔
         ∃ (i : Fin 12) (t : TowerEntry), i ≠ p.refTower ∧ p.towers[i] = some t ∧
           (t.ratioEnf = enf ∧ ((s.table x).rows[i]).ratioState = .out ∨
             t.phaseEnf = enf ∧ ((s.table x).rows[i]).phaseState = .out))

/-- R134: the revert test of a service holds exactly when its previous slot is present, that slot holds a pattern, and
its revert mark is clear. The first enforced parameter that is not IN (R133): of the parameters of the towers a
pattern carries beside its reference tower that are not advisory and not IN, the one of the lowest tower, and of one
tower the ratio before the phase; none when there is no such parameter. VERIFY_WINDOW_EXPIRY (R132, R133, R135, R138,
R139): VERIFY_FAILED names the first enforced parameter that is not IN and the action of the policy. REVERT holds the
service with cause VERIFY_FAIL and stores a FALLBACK request for the previous slot; NO_REVERT and WITHDRAW hold it;
HOLD_CUTBACK takes it to ON_AIR with VERIFY_FAIL, or to HELD with cause DEVIATION where a WITHDRAW parameter is OUT.
That the expiry carries the time forward is the model's choice (log entry 5), and one CEILING_CHANGED for one
transition its reading (log entry 23). -/
def Obligations.WindowExpiryAppliesThePolicy : Prop :=
  (∀ (x : Svc) (s : State),
     (revertSlot s x ≠ none ↔
       ∃ k, (s.svc x).previous = some k ∧ (s.pattern x k).isSome = true ∧ (s.svc x).revertMark = false) ∧
       ∀ k, revertSlot s x = some k → (s.svc x).previous = some k) ∧
  (∀ (p : Pattern) (t : ConfTable) (lacks : Param → Prop),
     (∀ q, lacks q ↔ q.tower ≠ p.refTower ∧ ∃ te, p.towers[q.tower] = some te ∧
       match q.kind with
       | .ratio => te.ratioEnf ≠ .advisory ∧ (t.rows[q.tower]).ratioState ≠ .in_
       | .phase => te.phaseEnf ≠ .advisory ∧ (t.rows[q.tower]).phaseState ≠ .in_) →
     (firstNotIn p t = none ↔ ∀ q, ¬ lacks q) ∧
       ∀ q, firstNotIn p t = some q ↔
         lacks q ∧ ∀ r, lacks r → q.tower < r.tower ∨ q.tower = r.tower ∧ (q.kind = .ratio ∨ r.kind = .phase)) ∧
  (∀ (x : Svc) (p : Pattern) (w : VerifyWindow) (s : State), (s.table x).window = some w →
     inForcePattern s x = some p → (s.svc x).state = .verifying →
     ∀ (failed : VerifyAction → State) (u : State),
       u = { s with now := max s.now w.expiry, tables := s.tables.set x { s.table x with window := none } } →
       (∀ a, failed a = post (.verifyFailed x (s.svc x).inForce (firstNotIn p (s.table x)) a) u) →
       (∀ k, p.policy = .revert → revertSlot s x = some k →
         exec (.verifyWindowExpiry x) s =
           .next (finish (storeRequest x { target := k, source := .fallback, tag := 0, revert := true }
             (toHeld x .verifyFail (failed .revert))))) ∧
         (p.policy = .revert → revertSlot s x = none →
           exec (.verifyWindowExpiry x) s = .next (finish (toHeld x .verifyFail (failed .noRevert)))) ∧
         (p.policy = .withdraw →
           exec (.verifyWindowExpiry x) s = .next (finish (toHeld x .verifyFail (failed .withdraw)))) ∧
         (p.policy = .holdCutback →
           ∀ t : State,
             t = { failed .holdCutback with
                   svcs := s.svcs.set x
                     { s.svc x with
                       state := .onAir
                       causes := ⟨false, anyOut p (s.table x) .cutback, (s.receivers.get x).stale, true⟩ } } →
             exec (.verifyWindowExpiry x) s =
               .next (finish
                 (if anyOut p (s.table x) .withdraw then toHeld x .deviation t else outputs x t))))

/-! ## The clock, the schedule, adoption -/

/-- One second later (R148): each date of the range but its last steps to a date of the range, exactly one second on,
with the carries of the calendar. The months' lengths (R148): February has 29 days in a year that 4 divides.
SECOND_DIVIDER_STEP, TICK_IN_EDGE_ACCEPTED and TICK_LOSS_TIMEOUT (R149, R150, R151): a completed divider steps the
clock while the source is INTERNAL and gives no step while it is TICK_IN; an accepted edge makes TICK_IN the source,
starts the divider and the 2 s loss timer again and gives one step, and is not read while the selection is INTERNAL; a
loss takes two steps, posts TIMEBASE_LOST and leaves INTERNAL with the divider from 0. At the end of the range the
clock holds (R148). That a timer's command carries the time forward, and changes nothing where its timer is stopped,
is the model's choice (log entries 1, 5). -/
def Obligations.ClockTakesItsSteps : Prop :=
  (∀ d : DateTime, dateValid d = true → d ≠ ⟨2099, 12, 31, 23, 59, 59⟩ →
     dateValid (nextSecond d) = true ∧
       (d.second < 59 → nextSecond d = { d with second := d.second + 1 }) ∧
       (d.second = 59 → d.minute < 59 → nextSecond d = { d with second := 0, minute := d.minute + 1 }) ∧
       (d.second = 59 → d.minute = 59 → d.hour < 23 → nextSecond d = { d with second := 0, minute := 0, hour := d.hour + 1 }) ∧
       (d.second = 59 → d.minute = 59 → d.hour = 23 →
         (d.day < daysInMonth d.year d.month → nextSecond d = ⟨d.year, d.month, d.day + 1, 0, 0, 0⟩) ∧
           (d.day = daysInMonth d.year d.month →
             (d.month < 12 → nextSecond d = ⟨d.year, d.month + 1, 1, 0, 0, 0⟩) ∧
               (d.month = 12 → nextSecond d = ⟨d.year + 1, 1, 1, 0, 0, 0⟩)))) ∧
  (∀ year : Nat,
     ([1, 3, 5, 7, 8, 10, 12].map (daysInMonth year) = [31, 31, 31, 31, 31, 31, 31]) ∧
       [4, 6, 9, 11].map (daysInMonth year) = [30, 30, 30, 30] ∧
       daysInMonth year 2 = if year % 4 = 0 then 29 else 28) ∧
  (∀ s : State,
     (s.clock.active = .internal →
       exec .secondDividerStep s =
         .next (clockStep
           { s with
             now := max s.now (s.clock.dividerStart + 1000)
             clock := { s.clock with dividerStart := s.clock.dividerStart + 1000 } })) ∧
       (s.clock.active = .tickIn → exec .secondDividerStep s = .next s) ∧
       (s.cfg.timebase = .internal → exec .tickInEdgeAccepted s = .next s) ∧
       (s.cfg.timebase = .tickIn →
         ∀ now, now = (match s.clock.lastEdge with
             | some e => max s.now (e + 500)
             | none => s.now) →
           exec .tickInEdgeAccepted s =
             .next (clockStep
               { s with
                 now := now
                 clock :=
                   { s.clock with
                     active := .tickIn, dividerStart := now, lossDue := some (now + 2000), lastEdge := some now } })) ∧
       (s.clock.lossDue = none → exec .tickLossTimeout s = .next s) ∧
       (∀ due, s.clock.lossDue = some due →
         ∀ t : State,
           t = clockStep (clockStep
             { s with now := max s.now due, clock := { s.clock with active := .internal, lossDue := none } }) →
           exec .tickLossTimeout s =
             .next (post .timebaseLost { t with clock := { t.clock with dividerStart := t.now } })) ∧
       (s.clock.time = ⟨2099, 12, 31, 23, 59, 59⟩ → clockStep s = s) ∧
       (s.clock.time ≠ ⟨2099, 12, 31, 23, 59, 59⟩ →
         ∀ t : State, t = { s with clock := { s.clock with time := nextSecond s.clock.time } } →
           clockStep s = if t.clock.time.second = 0 then finish (fireAll t) else t))

/-- Firing (R157, R158): at a step into second 0 an entry of the month's row at the clock's minute fires for a present
service in AUTO with the clock set and adoption finished; SCHEDULE_FIRED is posted for A and then B, and then the
SCHEDULE requests of those not already in force on the air are stored, A before B (R67). Nothing else fires. The row
of a month is its entry of the service's twelve (R154). -/
def Obligations.ScheduleFiresAtItsMinute : Prop :=
  ((∀ (s : State) (ka kb : Fin 4), firing s .a = some ka → firing s .b = some kb →
     ∀ (detail : Svc → Fin 4 → FiredDetail) (asks : Fin 4 → Request) (t u : State),
       (∀ x k, detail x k = if inForceOnAir s x k then .noChange else .requested) →
       (∀ k, asks k = { target := k, source := .schedule, tag := 0, revert := false }) →
       t = post (.scheduleFired .b kb (detail .b kb)) (post (.scheduleFired .a ka (detail .a ka)) s) →
       u = (if inForceOnAir s .a ka then t else storeRequest .a (asks ka) t) →
       fireAll s = if inForceOnAir s .b kb then u else storeRequest .b (asks kb) u) ∧
   ∀ (x : Svc) (s : State),
     (∀ k, firing s x = some k ↔
       present s x = true ∧ (s.svc x).mode = .auto ∧ s.clock.isSet = true ∧ s.phase = .running ∧
         ((monthRow s x s.clock.time.month).find? fun e =>
           decide (e.minute = s.clock.time.hour * 60 + s.clock.time.minute)).map RowEntry.slot = some k) ∧
       (firing s .a = none → firing s .b = none → fireAll s = s) ∧
       ∀ k, firing s x = some k → firing s (otherSvc x) = none →
         (inForceOnAir s x k = true → fireAll s = post (.scheduleFired x k .noChange) s) ∧
           (inForceOnAir s x k = false →
             fireAll s =
               storeRequest x { target := k, source := .schedule, tag := 0, revert := false }
                 (post (.scheduleFired x k .requested) s))) ∧
  (∀ (x : Svc) (m : Fin 12) (s : State), monthRow s x (m.val + 1) = (s.cfg.rows.get x)[m])

/-- The scheduled pattern (R160): the last entry of the current month's row at or before the current minute; otherwise
the last entry of the nearest earlier month that has one, at most eleven months back and over the year's start;
otherwise none. -/
def Obligations.ScheduledPatternWasLastDue : Prop :=
  ∀ (x : Svc) (s : State) (month minute : Nat), month = s.clock.time.month → 1 ≤ month → month ≤ 12 →
    minute = s.clock.time.hour * 60 + s.clock.time.minute →
    (∀ m : Fin 12, rowSound (s.cfg.rows.get x)[m]) →
    (∀ e ∈ monthRow s x month, e.minute ≤ minute →
      (∀ f ∈ monthRow s x month, f.minute ≤ minute → f.minute ≤ e.minute) →
      scheduledPattern s x = some (e.slot, month)) ∧
      ((∀ e ∈ monthRow s x month, minute < e.minute) →
        (∀ n, 1 ≤ n → n ≤ 11 → ∀ row e, monthRow s x ((month + 11 - n) % 12 + 1) = row ++ [e] →
          (∀ i, 1 ≤ i → i < n → monthRow s x ((month + 11 - i) % 12 + 1) = []) →
          scheduledPattern s x = some (e.slot, (month + 11 - n) % 12 + 1)) ∧
        ((∀ n, 1 ≤ n → n ≤ 11 → monthRow s x ((month + 11 - n) % 12 + 1) = []) → scheduledPattern s x = none))

/-- Adoption (R186 to R188): it is decided when every in-use expander is settled and every present interlock sampled;
one candidate is adopted as SINGLE; of several, in AUTO with the clock set, the scheduled pattern where it is one of
them; otherwise nothing, with AMBIGUOUS or NO_MATCH. An adopted service goes through the entry check. Once each
present service, A before B, has been judged, adoption has finished, and both are derived (R161). That an interlock
with an accepted level counts as sampled, where a WRITE_INTERLOCK's fresh sample gave it too, is the model's choice
(log entry 50). -/
def Obligations.AdoptionChoosesAPattern : Prop :=
  ∀ (x : Svc) (s : State),
    (∀ t u : State, t = adoptService s .a → u = (if s.twoServices then adoptService t .b else t) →
      adoptAll s = deriveAll { u with phase := .running }) ∧
    (adoptionReady s = true ↔
      s.phase = .starting ∧
        (∀ e, inUse s.cfg.points e = true → (s.exp e).health = .faulted ∨ (s.exp e).confirm = .done) ∧
        ∀ k, (s.interlockRec k).isSome = true → (s.interlock k).accepted ≠ none) ∧
      (∀ k, k ∈ candidates s x ↔
        ∃ p, s.pattern x k = some p ∧ patternValid s p = true ∧
          ∀ (i : Fin 32) pos, p.map[i] = some pos →
            (s.pointRec i).isSome = true ∧ (s.point i).commanded = some pos ∧ sensedAt (s.point i).sensed pos = true) ∧
      (candidates s x = [] → adoptService s x = post (.adoptionFailed (some x) .noMatch) s) ∧
      (∀ k, candidates s x = [k] →
        adoptService s x = throughEntryCheck x
          (post (.patternAdopted x k .single) { s with svcs := s.svcs.set x { s.svc x with inForce := some k } })) ∧
      ∀ a b rest, candidates s x = a :: b :: rest →
        (∀ k m, (s.svc x).mode = .auto → s.clock.isSet = true → scheduledPattern s x = some (k, m) →
          k ∈ candidates s x →
          adoptService s x = throughEntryCheck x
            (post (.patternAdopted x k .scheduled) { s with svcs := s.svcs.set x { s.svc x with inForce := some k } })) ∧
        ((¬ ∃ k m, (s.svc x).mode = .auto ∧ s.clock.isSet = true ∧ scheduledPattern s x = some (k, m) ∧
            k ∈ candidates s x) →
          adoptService s x = post (.adoptionFailed (some x) .ambiguous) s)

/-! ## The image -/

/-- The image's CRC and its layout (R180): nine characters give 0x29B1; an image has 1758 bytes and two fill bytes of
0xFF, its mark, version and length in the header, and the CRC of its first 1756 bytes behind them. The CRC (R180) is
taken byte by byte, most significant bit first, with polynomial 0x1021 from 0xFFFF. The bytes of the image, part by
part as 11.4 lays them out, with 0 for what is absent or undefined (R193); numbers as R191 has them, codes as
ReadsAnswerAndChangeNothing states. An image the part builds is valid and holds the configuration (R180, R181, R193):
every field that a write would store survives the image. -/
def Obligations.ImageHoldsTheConfiguration : Prop :=
  (crc16 [0x31, 0x32, 0x33, 0x34, 0x35, 0x36, 0x37, 0x38, 0x39] = 0x29B1 ∧
     ∀ c : ConfigRam, configSound c →
       (imageOf c).length = 1760 ∧ (imageOf c).take 3 = [0x54, 0x4C, 0x01] ∧
         ((imageOf c).drop 6).take 2 = [0x06, 0xDE] ∧
         ((imageOf c).drop 1756).take 2 = halfBytes (crc16 ((imageOf c).take 1756)) ∧
         (imageOf c).drop 1758 = [0xFF, 0xFF]) ∧
  (∀ step : Half → Bool → Half,
     (∀ crc bit, step crc bit = if crc.getLsbD 15 = bit then crc <<< 1 else (crc <<< 1) ^^^ 0x1021) →
     crc16 [] = 0xFFFF ∧
       ∀ (bs : List Byte) (b : Byte),
         crc16 (bs ++ [b]) = [7, 6, 5, 4, 3, 2, 1, 0].foldl (fun crc k => step crc (b.getLsbD k)) (crc16 bs)) ∧
  (∀ (c : ConfigRam) (line : Line → List Byte) (body : List Byte),
     (∀ l, line l = u8 (16 * l.exp.val + l.line.val)) →
     body =
       [0x54, 0x4C, 1] ++ u8 ((if c.timebase = .tickIn then 1 else 0) + if c.speed = .khz400 then 2 else 0) ++ u8 c.base ++
         u8 c.debounce ++ u16 1758 ++
         (c.points.toList.flatMap fun entry => match entry with
           | some r =>
               u8 (1 + 2 * r.stage.val + 8 * maskCode r.hot) ++ line r.drive ++ line r.sense1 ++ line r.sense2 ++
                 u8 (r.transit / 10)
           | none => [0, 0, 0, 0, 0]) ++
         (c.interlocks.toList.flatMap fun entry => match entry with
           | some i =>
               u8 (1 + 2 * maskCode i.mask + (if i.motionInhibit = true then 8 else 0) + (if i.latched = true then 16 else 0) +
                 if i.activeHigh = true then 32 else 0)
           | none => [0]) ++
         ([c.settings.a, c.settings.b].flatMap fun v =>
           u8 (if v.initialMode = .auto then 1 else 0) ++ u8 (if v.muteConfirm = .confirm then 1 else 0) ++
             u8 (v.settle / 10) ++ u8 (v.muteTimeout / 100) ++ u8 v.stale ++
             u8 (match v.baud with
               | .b9600 => 0
               | .b19200 => 1
               | .b38400 => 2) ++
             u16 v.minRef) ++
         ((c.patterns.a.toList ++ c.patterns.b.toList).flatMap fun entry => match entry with
           | some p =>
               [1] ++ p.label.toList ++ u16 p.power ++ u8 p.cutback ++ u8 p.refTower.val ++ u8 p.window ++
                 u8 p.persistence ++ u8 (policyCode p.policy) ++
                 (p.towers.toList.flatMap fun entry => match entry with
                   | some t =>
                       u8 (1 + 2 * enforcementCode t.ratioEnf + 8 * enforcementCode t.phaseEnf) ++ u16 t.ratio ++
                         i16 t.phase ++ u16 t.ratioTol ++ u16 t.phaseTol
                   | none => List.replicate 9 0) ++
                 p.map.toList.flatMap fun entry => match entry with
                   | some pos => u8 (posCode pos)
                   | none => [0]
           | none => List.replicate 156 0) ++
         ((c.rows.a.toList ++ c.rows.b.toList).flatMap fun row =>
           (row.flatMap fun e => u16 e.minute ++ u8 e.slot.val) ++
             (List.replicate (4 - row.length) [0, 0, 0xFF]).flatten) ++
         (c.routes.toList.flatMap fun p => u8 (portSetCode p)) →
     imageOf c = body ++ [(crc16 body).extractLsb' 8 8, (crc16 body).extractLsb' 0 8] ++ [0xFF, 0xFF]) ∧
  (∀ c : ConfigRam, configSound c → configOf ((imageOf c).take 1758) = some c)

/-- Which images are invalid (R181, R193), byte by byte: a wrong mark, layout version or length; a stored CRC other
than that of bytes 0 to 1755 (R180); a base address or debounce interval outside R5; a present point whose mask, lines
or transit limit its write would not store, or two sense or drive lines that are the same (R2); a present interlock
without a mask; service settings outside R61; a pattern slot neither empty nor present, or with a field outside R26
and R27, or a map byte above 2; a month row with a slot above 3, a used entry behind an unused one, a minute above
1439, or minutes that do not ascend (R154); a routing byte above 7. Every other image is valid: absent parts and
undefined bits are not judged. That a slot byte of 0xFF is an unused entry whatever its minute, that bits 3 to 7 of a
routing byte are judged, and that a present byte of a pattern slot above 1 makes the image invalid, is the model's
reading (log entries 41, 55, 56). -/
def Obligations.InvalidImagesAreRefused : Prop :=
  ∀ (img : List Byte) (byte half : Nat → Nat),
    (∀ i, byte i = (img[i]?.getD 0).toNat) → (∀ i, half i = 256 * byte i + byte (i + 1)) →
    (configOf img = none ↔
      byte 0 ≠ 0x54 ∨ byte 1 ≠ 0x4C ∨ byte 2 ≠ 1 ∨ half 6 ≠ 1758 ∨ (crc16 (img.take 1756)).toNat ≠ half 1756 ∨
        (byte 4 < 0x08 ∨ 0x70 < byte 4 ∨ 0x50 ≤ byte 4 ∧ byte 4 ≤ 0x57) ∨
        (byte 5 < 4 ∨ 64 < byte 5 ∨ byte 5 % 4 ≠ 0) ∨
        (∃ n p, n < 32 ∧ p = 8 + 5 * n ∧ byte p % 2 = 1 ∧
          (byte p / 8 % 4 = 0 ∨ 128 ≤ byte (p + 1) ∨ 128 ≤ byte (p + 2) ∨ 128 ≤ byte (p + 3) ∨ byte (p + 4) < 5 ∨
            200 < byte (p + 4))) ∨
        (∃ n m k l, n < 32 ∧ m < 32 ∧ 1 ≤ k ∧ k ≤ 3 ∧ 1 ≤ l ∧ l ≤ 3 ∧ (n ≠ m ∨ k ≠ l) ∧ byte (8 + 5 * n) % 2 = 1 ∧
          byte (8 + 5 * m) % 2 = 1 ∧ byte (8 + 5 * n + k) = byte (8 + 5 * m + l)) ∨
        (∃ n, n < 4 ∧ byte (168 + n) % 2 = 1 ∧ byte (168 + n) / 2 % 4 = 0) ∨
        (∃ p, (p = 172 ∨ p = 180) ∧
          (1 < byte p ∨ 1 < byte (p + 1) ∨ byte (p + 2) < 5 ∨ 100 < byte (p + 2) ∨ byte (p + 3) < 1 ∨
            50 < byte (p + 3) ∨ byte (p + 4) < 2 ∨ 60 < byte (p + 4) ∨ 2 < byte (p + 5) ∨ half (p + 6) = 0)) ∨
        (∃ n p, n < 8 ∧ p = 188 + 156 * n ∧
          (1 < byte p ∨
            byte p = 1 ∧
              ((∃ k, 1 ≤ k ∧ k ≤ 8 ∧ (byte (p + k) < 0x20 ∨ 0x7E < byte (p + k))) ∨ half (p + 9) = 0 ∨
                10000 < half (p + 9) ∨ byte (p + 11) < 10 ∨ 90 < byte (p + 11) ∨ 11 < byte (p + 12) ∨
                byte (p + 13) < 2 ∨ 120 < byte (p + 13) ∨ byte (p + 14) < 1 ∨ 15 < byte (p + 14) ∨
                2 < byte (p + 15) ∨
                (∃ t q, t < 12 ∧ q = p + 16 + 9 * t ∧ byte q % 2 = 1 ∧
                  (byte q / 2 % 4 = 3 ∨ byte q / 8 % 4 = 3 ∨ half (q + 1) = 0 ∨ 20000 < half (q + 1) ∨
                    1799 < half (q + 3) ∧ half (q + 3) < 65536 - 1800 ∨ half (q + 5) = 0 ∨ 500 < half (q + 5) ∨
                    half (q + 7) = 0 ∨ 900 < half (q + 7))) ∨
                ∃ m, m < 32 ∧ 2 < byte (p + 124 + m)))) ∨
        (∃ n p, n < 24 ∧ p = 1436 + 12 * n ∧
          ∃ k, k < 4 ∧
            (3 < byte (p + 3 * k + 2) ∧ byte (p + 3 * k + 2) ≠ 0xFF ∨
              byte (p + 3 * k + 2) ≠ 0xFF ∧
                (1439 < half (p + 3 * k) ∨
                  ∃ l, l < k ∧ (byte (p + 3 * l + 2) = 0xFF ∨ half (p + 3 * k) ≤ half (p + 3 * l))))) ∨
        ∃ n, n < 32 ∧ 7 < byte (1724 + n))

/-! ## Invariants -/

/-- The state after reset meets every invariant below. -/
def Obligations.ResetMeetsTheInvariants : Prop :=
  outputsSafe State.reset ∧ portsSound State.reset ∧ clockSound State.reset ∧ arrivalSound State.reset ∧
    configSound State.reset.cfg

/-- Every step keeps the outputs safe (R52, R53, R55): PERMIT_x high only while the service is VERIFYING or ON_AIR and
no interlock of its effective mask is OPEN or LATCHED, ceiling and cutback down while it is low. -/
def Obligations.StepKeepsTheOutputsSafe : Prop := ∀ s t : State, outputsSafe s → StepsTo s t → outputsSafe t

/-- Every step keeps the queues sound (R177). Every step keeps the clock in its range (R147). Every step keeps the
arrival order (R64). -/
def Obligations.StepKeepsQueuesClockAndArrival : Prop :=
  (∀ s t : State, portsSound s → StepsTo s t → portsSound t) ∧
  (∀ s t : State, clockSound s → StepsTo s t → clockSound t) ∧
  (∀ s t : State, arrivalSound s → StepsTo s t → arrivalSound t)

/-- Every step keeps the configuration valid (R2, R154, R180). -/
def Obligations.StepKeepsTheConfigurationValid : Prop :=
  ∀ s t : State, configSound s.cfg → StepsTo s t → configSound t.cfg
end

