-- ==== Sys2Proof/Laws/State.lean ====
section
/-! SUPPORT. The fields of a state after each named update: one lemma for each field and update, true by definition. -/

namespace Sys2Proof.Machine

/-! ## setSvc -/

@[simp] theorem State.setSvc_now (s : State) (x : Svc) (v : Service) : (s.setSvc x v).now = s.now := rfl
@[simp] theorem State.setSvc_phase (s : State) (x : Svc) (v : Service) : (s.setSvc x v).phase = s.phase := rfl
@[simp] theorem State.setSvc_coldLoaded (s : State) (x : Svc) (v : Service) : (s.setSvc x v).coldLoaded = s.coldLoaded := rfl
@[simp] theorem State.setSvc_imageValid (s : State) (x : Svc) (v : Service) : (s.setSvc x v).imageValid = s.imageValid := rfl
@[simp] theorem State.setSvc_twoServices (s : State) (x : Svc) (v : Service) : (s.setSvc x v).twoServices = s.twoServices := rfl
@[simp] theorem State.setSvc_cfg (s : State) (x : Svc) (v : Service) : (s.setSvc x v).cfg = s.cfg := rfl
@[simp] theorem State.setSvc_dirty (s : State) (x : Svc) (v : Service) : (s.setSvc x v).dirty = s.dirty := rfl
@[simp] theorem State.setSvc_store (s : State) (x : Svc) (v : Service) : (s.setSvc x v).store = s.store := rfl
@[simp] theorem State.setSvc_bus (s : State) (x : Svc) (v : Service) : (s.setSvc x v).bus = s.bus := rfl
@[simp] theorem State.setSvc_exps (s : State) (x : Svc) (v : Service) : (s.setSvc x v).exps = s.exps := rfl
@[simp] theorem State.setSvc_points (s : State) (x : Svc) (v : Service) : (s.setSvc x v).points = s.points := rfl
@[simp] theorem State.setSvc_expAttn (s : State) (x : Svc) (v : Service) : (s.setSvc x v).expAttn = s.expAttn := rfl
@[simp] theorem State.setSvc_interlocks (s : State) (x : Svc) (v : Service) : (s.setSvc x v).interlocks = s.interlocks := rfl
@[simp] theorem State.setSvc_rfdown (s : State) (x : Svc) (v : Service) : (s.setSvc x v).rfdown = s.rfdown := rfl
@[simp] theorem State.setSvc_arrival (s : State) (x : Svc) (v : Service) : (s.setSvc x v).arrival = s.arrival := rfl
@[simp] theorem State.setSvc_job (s : State) (x : Svc) (v : Service) : (s.setSvc x v).job = s.job := rfl
@[simp] theorem State.setSvc_receivers (s : State) (x : Svc) (v : Service) : (s.setSvc x v).receivers = s.receivers := rfl
@[simp] theorem State.setSvc_tables (s : State) (x : Svc) (v : Service) : (s.setSvc x v).tables = s.tables := rfl
@[simp] theorem State.setSvc_clock (s : State) (x : Svc) (v : Service) : (s.setSvc x v).clock = s.clock := rfl
@[simp] theorem State.setSvc_ports (s : State) (x : Svc) (v : Service) : (s.setSvc x v).ports = s.ports := rfl
@[simp] theorem State.setSvc_pending (s : State) (x : Svc) (v : Service) : (s.setSvc x v).pending = s.pending := rfl

/-! ## setTable -/

@[simp] theorem State.setTable_now (s : State) (x : Svc) (v : ConfTable) : (s.setTable x v).now = s.now := rfl
@[simp] theorem State.setTable_phase (s : State) (x : Svc) (v : ConfTable) : (s.setTable x v).phase = s.phase := rfl
@[simp] theorem State.setTable_coldLoaded (s : State) (x : Svc) (v : ConfTable) : (s.setTable x v).coldLoaded = s.coldLoaded := rfl
@[simp] theorem State.setTable_imageValid (s : State) (x : Svc) (v : ConfTable) : (s.setTable x v).imageValid = s.imageValid := rfl
@[simp] theorem State.setTable_twoServices (s : State) (x : Svc) (v : ConfTable) : (s.setTable x v).twoServices = s.twoServices := rfl
@[simp] theorem State.setTable_cfg (s : State) (x : Svc) (v : ConfTable) : (s.setTable x v).cfg = s.cfg := rfl
@[simp] theorem State.setTable_dirty (s : State) (x : Svc) (v : ConfTable) : (s.setTable x v).dirty = s.dirty := rfl
@[simp] theorem State.setTable_store (s : State) (x : Svc) (v : ConfTable) : (s.setTable x v).store = s.store := rfl
@[simp] theorem State.setTable_bus (s : State) (x : Svc) (v : ConfTable) : (s.setTable x v).bus = s.bus := rfl
@[simp] theorem State.setTable_exps (s : State) (x : Svc) (v : ConfTable) : (s.setTable x v).exps = s.exps := rfl
@[simp] theorem State.setTable_points (s : State) (x : Svc) (v : ConfTable) : (s.setTable x v).points = s.points := rfl
@[simp] theorem State.setTable_expAttn (s : State) (x : Svc) (v : ConfTable) : (s.setTable x v).expAttn = s.expAttn := rfl
@[simp] theorem State.setTable_interlocks (s : State) (x : Svc) (v : ConfTable) : (s.setTable x v).interlocks = s.interlocks := rfl
@[simp] theorem State.setTable_rfdown (s : State) (x : Svc) (v : ConfTable) : (s.setTable x v).rfdown = s.rfdown := rfl
@[simp] theorem State.setTable_svcs (s : State) (x : Svc) (v : ConfTable) : (s.setTable x v).svcs = s.svcs := rfl
@[simp] theorem State.setTable_arrival (s : State) (x : Svc) (v : ConfTable) : (s.setTable x v).arrival = s.arrival := rfl
@[simp] theorem State.setTable_job (s : State) (x : Svc) (v : ConfTable) : (s.setTable x v).job = s.job := rfl
@[simp] theorem State.setTable_receivers (s : State) (x : Svc) (v : ConfTable) : (s.setTable x v).receivers = s.receivers := rfl
@[simp] theorem State.setTable_clock (s : State) (x : Svc) (v : ConfTable) : (s.setTable x v).clock = s.clock := rfl
@[simp] theorem State.setTable_ports (s : State) (x : Svc) (v : ConfTable) : (s.setTable x v).ports = s.ports := rfl
@[simp] theorem State.setTable_pending (s : State) (x : Svc) (v : ConfTable) : (s.setTable x v).pending = s.pending := rfl

/-! ## setReceiver -/

@[simp] theorem State.setReceiver_now (s : State) (x : Svc) (v : Receiver) : (s.setReceiver x v).now = s.now := rfl
@[simp] theorem State.setReceiver_phase (s : State) (x : Svc) (v : Receiver) : (s.setReceiver x v).phase = s.phase := rfl
@[simp] theorem State.setReceiver_coldLoaded (s : State) (x : Svc) (v : Receiver) : (s.setReceiver x v).coldLoaded = s.coldLoaded := rfl
@[simp] theorem State.setReceiver_imageValid (s : State) (x : Svc) (v : Receiver) : (s.setReceiver x v).imageValid = s.imageValid := rfl
@[simp] theorem State.setReceiver_twoServices (s : State) (x : Svc) (v : Receiver) : (s.setReceiver x v).twoServices = s.twoServices := rfl
@[simp] theorem State.setReceiver_cfg (s : State) (x : Svc) (v : Receiver) : (s.setReceiver x v).cfg = s.cfg := rfl
@[simp] theorem State.setReceiver_dirty (s : State) (x : Svc) (v : Receiver) : (s.setReceiver x v).dirty = s.dirty := rfl
@[simp] theorem State.setReceiver_store (s : State) (x : Svc) (v : Receiver) : (s.setReceiver x v).store = s.store := rfl
@[simp] theorem State.setReceiver_bus (s : State) (x : Svc) (v : Receiver) : (s.setReceiver x v).bus = s.bus := rfl
@[simp] theorem State.setReceiver_exps (s : State) (x : Svc) (v : Receiver) : (s.setReceiver x v).exps = s.exps := rfl
@[simp] theorem State.setReceiver_points (s : State) (x : Svc) (v : Receiver) : (s.setReceiver x v).points = s.points := rfl
@[simp] theorem State.setReceiver_expAttn (s : State) (x : Svc) (v : Receiver) : (s.setReceiver x v).expAttn = s.expAttn := rfl
@[simp] theorem State.setReceiver_interlocks (s : State) (x : Svc) (v : Receiver) : (s.setReceiver x v).interlocks = s.interlocks := rfl
@[simp] theorem State.setReceiver_rfdown (s : State) (x : Svc) (v : Receiver) : (s.setReceiver x v).rfdown = s.rfdown := rfl
@[simp] theorem State.setReceiver_svcs (s : State) (x : Svc) (v : Receiver) : (s.setReceiver x v).svcs = s.svcs := rfl
@[simp] theorem State.setReceiver_arrival (s : State) (x : Svc) (v : Receiver) : (s.setReceiver x v).arrival = s.arrival := rfl
@[simp] theorem State.setReceiver_job (s : State) (x : Svc) (v : Receiver) : (s.setReceiver x v).job = s.job := rfl
@[simp] theorem State.setReceiver_tables (s : State) (x : Svc) (v : Receiver) : (s.setReceiver x v).tables = s.tables := rfl
@[simp] theorem State.setReceiver_clock (s : State) (x : Svc) (v : Receiver) : (s.setReceiver x v).clock = s.clock := rfl
@[simp] theorem State.setReceiver_ports (s : State) (x : Svc) (v : Receiver) : (s.setReceiver x v).ports = s.ports := rfl
@[simp] theorem State.setReceiver_pending (s : State) (x : Svc) (v : Receiver) : (s.setReceiver x v).pending = s.pending := rfl

/-! ## setPoint -/

@[simp] theorem State.setPoint_now (s : State) (i : Fin 32) (v : PointState) : (s.setPoint i v).now = s.now := rfl
@[simp] theorem State.setPoint_phase (s : State) (i : Fin 32) (v : PointState) : (s.setPoint i v).phase = s.phase := rfl
@[simp] theorem State.setPoint_coldLoaded (s : State) (i : Fin 32) (v : PointState) : (s.setPoint i v).coldLoaded = s.coldLoaded := rfl
@[simp] theorem State.setPoint_imageValid (s : State) (i : Fin 32) (v : PointState) : (s.setPoint i v).imageValid = s.imageValid := rfl
@[simp] theorem State.setPoint_twoServices (s : State) (i : Fin 32) (v : PointState) : (s.setPoint i v).twoServices = s.twoServices := rfl
@[simp] theorem State.setPoint_cfg (s : State) (i : Fin 32) (v : PointState) : (s.setPoint i v).cfg = s.cfg := rfl
@[simp] theorem State.setPoint_dirty (s : State) (i : Fin 32) (v : PointState) : (s.setPoint i v).dirty = s.dirty := rfl
@[simp] theorem State.setPoint_store (s : State) (i : Fin 32) (v : PointState) : (s.setPoint i v).store = s.store := rfl
@[simp] theorem State.setPoint_bus (s : State) (i : Fin 32) (v : PointState) : (s.setPoint i v).bus = s.bus := rfl
@[simp] theorem State.setPoint_exps (s : State) (i : Fin 32) (v : PointState) : (s.setPoint i v).exps = s.exps := rfl
@[simp] theorem State.setPoint_expAttn (s : State) (i : Fin 32) (v : PointState) : (s.setPoint i v).expAttn = s.expAttn := rfl
@[simp] theorem State.setPoint_interlocks (s : State) (i : Fin 32) (v : PointState) : (s.setPoint i v).interlocks = s.interlocks := rfl
@[simp] theorem State.setPoint_rfdown (s : State) (i : Fin 32) (v : PointState) : (s.setPoint i v).rfdown = s.rfdown := rfl
@[simp] theorem State.setPoint_svcs (s : State) (i : Fin 32) (v : PointState) : (s.setPoint i v).svcs = s.svcs := rfl
@[simp] theorem State.setPoint_arrival (s : State) (i : Fin 32) (v : PointState) : (s.setPoint i v).arrival = s.arrival := rfl
@[simp] theorem State.setPoint_job (s : State) (i : Fin 32) (v : PointState) : (s.setPoint i v).job = s.job := rfl
@[simp] theorem State.setPoint_receivers (s : State) (i : Fin 32) (v : PointState) : (s.setPoint i v).receivers = s.receivers := rfl
@[simp] theorem State.setPoint_tables (s : State) (i : Fin 32) (v : PointState) : (s.setPoint i v).tables = s.tables := rfl
@[simp] theorem State.setPoint_clock (s : State) (i : Fin 32) (v : PointState) : (s.setPoint i v).clock = s.clock := rfl
@[simp] theorem State.setPoint_ports (s : State) (i : Fin 32) (v : PointState) : (s.setPoint i v).ports = s.ports := rfl
@[simp] theorem State.setPoint_pending (s : State) (i : Fin 32) (v : PointState) : (s.setPoint i v).pending = s.pending := rfl

/-! ## setExp -/

@[simp] theorem State.setExp_now (s : State) (e : Fin 8) (v : Expander) : (s.setExp e v).now = s.now := rfl
@[simp] theorem State.setExp_phase (s : State) (e : Fin 8) (v : Expander) : (s.setExp e v).phase = s.phase := rfl
@[simp] theorem State.setExp_coldLoaded (s : State) (e : Fin 8) (v : Expander) : (s.setExp e v).coldLoaded = s.coldLoaded := rfl
@[simp] theorem State.setExp_imageValid (s : State) (e : Fin 8) (v : Expander) : (s.setExp e v).imageValid = s.imageValid := rfl
@[simp] theorem State.setExp_twoServices (s : State) (e : Fin 8) (v : Expander) : (s.setExp e v).twoServices = s.twoServices := rfl
@[simp] theorem State.setExp_cfg (s : State) (e : Fin 8) (v : Expander) : (s.setExp e v).cfg = s.cfg := rfl
@[simp] theorem State.setExp_dirty (s : State) (e : Fin 8) (v : Expander) : (s.setExp e v).dirty = s.dirty := rfl
@[simp] theorem State.setExp_store (s : State) (e : Fin 8) (v : Expander) : (s.setExp e v).store = s.store := rfl
@[simp] theorem State.setExp_bus (s : State) (e : Fin 8) (v : Expander) : (s.setExp e v).bus = s.bus := rfl
@[simp] theorem State.setExp_points (s : State) (e : Fin 8) (v : Expander) : (s.setExp e v).points = s.points := rfl
@[simp] theorem State.setExp_expAttn (s : State) (e : Fin 8) (v : Expander) : (s.setExp e v).expAttn = s.expAttn := rfl
@[simp] theorem State.setExp_interlocks (s : State) (e : Fin 8) (v : Expander) : (s.setExp e v).interlocks = s.interlocks := rfl
@[simp] theorem State.setExp_rfdown (s : State) (e : Fin 8) (v : Expander) : (s.setExp e v).rfdown = s.rfdown := rfl
@[simp] theorem State.setExp_svcs (s : State) (e : Fin 8) (v : Expander) : (s.setExp e v).svcs = s.svcs := rfl
@[simp] theorem State.setExp_arrival (s : State) (e : Fin 8) (v : Expander) : (s.setExp e v).arrival = s.arrival := rfl
@[simp] theorem State.setExp_job (s : State) (e : Fin 8) (v : Expander) : (s.setExp e v).job = s.job := rfl
@[simp] theorem State.setExp_receivers (s : State) (e : Fin 8) (v : Expander) : (s.setExp e v).receivers = s.receivers := rfl
@[simp] theorem State.setExp_tables (s : State) (e : Fin 8) (v : Expander) : (s.setExp e v).tables = s.tables := rfl
@[simp] theorem State.setExp_clock (s : State) (e : Fin 8) (v : Expander) : (s.setExp e v).clock = s.clock := rfl
@[simp] theorem State.setExp_ports (s : State) (e : Fin 8) (v : Expander) : (s.setExp e v).ports = s.ports := rfl
@[simp] theorem State.setExp_pending (s : State) (e : Fin 8) (v : Expander) : (s.setExp e v).pending = s.pending := rfl

/-! ## setInterlock -/

@[simp] theorem State.setInterlock_now (s : State) (k : Fin 4) (v : Interlock) : (s.setInterlock k v).now = s.now := rfl
@[simp] theorem State.setInterlock_phase (s : State) (k : Fin 4) (v : Interlock) : (s.setInterlock k v).phase = s.phase := rfl
@[simp] theorem State.setInterlock_coldLoaded (s : State) (k : Fin 4) (v : Interlock) : (s.setInterlock k v).coldLoaded = s.coldLoaded := rfl
@[simp] theorem State.setInterlock_imageValid (s : State) (k : Fin 4) (v : Interlock) : (s.setInterlock k v).imageValid = s.imageValid := rfl
@[simp] theorem State.setInterlock_twoServices (s : State) (k : Fin 4) (v : Interlock) : (s.setInterlock k v).twoServices = s.twoServices := rfl
@[simp] theorem State.setInterlock_cfg (s : State) (k : Fin 4) (v : Interlock) : (s.setInterlock k v).cfg = s.cfg := rfl
@[simp] theorem State.setInterlock_dirty (s : State) (k : Fin 4) (v : Interlock) : (s.setInterlock k v).dirty = s.dirty := rfl
@[simp] theorem State.setInterlock_store (s : State) (k : Fin 4) (v : Interlock) : (s.setInterlock k v).store = s.store := rfl
@[simp] theorem State.setInterlock_bus (s : State) (k : Fin 4) (v : Interlock) : (s.setInterlock k v).bus = s.bus := rfl
@[simp] theorem State.setInterlock_exps (s : State) (k : Fin 4) (v : Interlock) : (s.setInterlock k v).exps = s.exps := rfl
@[simp] theorem State.setInterlock_points (s : State) (k : Fin 4) (v : Interlock) : (s.setInterlock k v).points = s.points := rfl
@[simp] theorem State.setInterlock_expAttn (s : State) (k : Fin 4) (v : Interlock) : (s.setInterlock k v).expAttn = s.expAttn := rfl
@[simp] theorem State.setInterlock_rfdown (s : State) (k : Fin 4) (v : Interlock) : (s.setInterlock k v).rfdown = s.rfdown := rfl
@[simp] theorem State.setInterlock_svcs (s : State) (k : Fin 4) (v : Interlock) : (s.setInterlock k v).svcs = s.svcs := rfl
@[simp] theorem State.setInterlock_arrival (s : State) (k : Fin 4) (v : Interlock) : (s.setInterlock k v).arrival = s.arrival := rfl
@[simp] theorem State.setInterlock_job (s : State) (k : Fin 4) (v : Interlock) : (s.setInterlock k v).job = s.job := rfl
@[simp] theorem State.setInterlock_receivers (s : State) (k : Fin 4) (v : Interlock) : (s.setInterlock k v).receivers = s.receivers := rfl
@[simp] theorem State.setInterlock_tables (s : State) (k : Fin 4) (v : Interlock) : (s.setInterlock k v).tables = s.tables := rfl
@[simp] theorem State.setInterlock_clock (s : State) (k : Fin 4) (v : Interlock) : (s.setInterlock k v).clock = s.clock := rfl
@[simp] theorem State.setInterlock_ports (s : State) (k : Fin 4) (v : Interlock) : (s.setInterlock k v).ports = s.ports := rfl
@[simp] theorem State.setInterlock_pending (s : State) (k : Fin 4) (v : Interlock) : (s.setInterlock k v).pending = s.pending := rfl

/-! ## setBus -/

@[simp] theorem State.setBus_now (s : State) (b : Bus) : (s.setBus b).now = s.now := rfl
@[simp] theorem State.setBus_phase (s : State) (b : Bus) : (s.setBus b).phase = s.phase := rfl
@[simp] theorem State.setBus_coldLoaded (s : State) (b : Bus) : (s.setBus b).coldLoaded = s.coldLoaded := rfl
@[simp] theorem State.setBus_imageValid (s : State) (b : Bus) : (s.setBus b).imageValid = s.imageValid := rfl
@[simp] theorem State.setBus_twoServices (s : State) (b : Bus) : (s.setBus b).twoServices = s.twoServices := rfl
@[simp] theorem State.setBus_cfg (s : State) (b : Bus) : (s.setBus b).cfg = s.cfg := rfl
@[simp] theorem State.setBus_dirty (s : State) (b : Bus) : (s.setBus b).dirty = s.dirty := rfl
@[simp] theorem State.setBus_store (s : State) (b : Bus) : (s.setBus b).store = s.store := rfl
@[simp] theorem State.setBus_exps (s : State) (b : Bus) : (s.setBus b).exps = s.exps := rfl
@[simp] theorem State.setBus_points (s : State) (b : Bus) : (s.setBus b).points = s.points := rfl
@[simp] theorem State.setBus_expAttn (s : State) (b : Bus) : (s.setBus b).expAttn = s.expAttn := rfl
@[simp] theorem State.setBus_interlocks (s : State) (b : Bus) : (s.setBus b).interlocks = s.interlocks := rfl
@[simp] theorem State.setBus_rfdown (s : State) (b : Bus) : (s.setBus b).rfdown = s.rfdown := rfl
@[simp] theorem State.setBus_svcs (s : State) (b : Bus) : (s.setBus b).svcs = s.svcs := rfl
@[simp] theorem State.setBus_arrival (s : State) (b : Bus) : (s.setBus b).arrival = s.arrival := rfl
@[simp] theorem State.setBus_job (s : State) (b : Bus) : (s.setBus b).job = s.job := rfl
@[simp] theorem State.setBus_receivers (s : State) (b : Bus) : (s.setBus b).receivers = s.receivers := rfl
@[simp] theorem State.setBus_tables (s : State) (b : Bus) : (s.setBus b).tables = s.tables := rfl
@[simp] theorem State.setBus_clock (s : State) (b : Bus) : (s.setBus b).clock = s.clock := rfl
@[simp] theorem State.setBus_ports (s : State) (b : Bus) : (s.setBus b).ports = s.ports := rfl
@[simp] theorem State.setBus_pending (s : State) (b : Bus) : (s.setBus b).pending = s.pending := rfl

/-! ## setScanner -/

@[simp] theorem State.setScanner_now (s : State) (c : Scanner) : (s.setScanner c).now = s.now := rfl
@[simp] theorem State.setScanner_phase (s : State) (c : Scanner) : (s.setScanner c).phase = s.phase := rfl
@[simp] theorem State.setScanner_coldLoaded (s : State) (c : Scanner) : (s.setScanner c).coldLoaded = s.coldLoaded := rfl
@[simp] theorem State.setScanner_imageValid (s : State) (c : Scanner) : (s.setScanner c).imageValid = s.imageValid := rfl
@[simp] theorem State.setScanner_twoServices (s : State) (c : Scanner) : (s.setScanner c).twoServices = s.twoServices := rfl
@[simp] theorem State.setScanner_cfg (s : State) (c : Scanner) : (s.setScanner c).cfg = s.cfg := rfl
@[simp] theorem State.setScanner_dirty (s : State) (c : Scanner) : (s.setScanner c).dirty = s.dirty := rfl
@[simp] theorem State.setScanner_store (s : State) (c : Scanner) : (s.setScanner c).store = s.store := rfl
@[simp] theorem State.setScanner_exps (s : State) (c : Scanner) : (s.setScanner c).exps = s.exps := rfl
@[simp] theorem State.setScanner_points (s : State) (c : Scanner) : (s.setScanner c).points = s.points := rfl
@[simp] theorem State.setScanner_expAttn (s : State) (c : Scanner) : (s.setScanner c).expAttn = s.expAttn := rfl
@[simp] theorem State.setScanner_interlocks (s : State) (c : Scanner) : (s.setScanner c).interlocks = s.interlocks := rfl
@[simp] theorem State.setScanner_rfdown (s : State) (c : Scanner) : (s.setScanner c).rfdown = s.rfdown := rfl
@[simp] theorem State.setScanner_svcs (s : State) (c : Scanner) : (s.setScanner c).svcs = s.svcs := rfl
@[simp] theorem State.setScanner_arrival (s : State) (c : Scanner) : (s.setScanner c).arrival = s.arrival := rfl
@[simp] theorem State.setScanner_job (s : State) (c : Scanner) : (s.setScanner c).job = s.job := rfl
@[simp] theorem State.setScanner_receivers (s : State) (c : Scanner) : (s.setScanner c).receivers = s.receivers := rfl
@[simp] theorem State.setScanner_tables (s : State) (c : Scanner) : (s.setScanner c).tables = s.tables := rfl
@[simp] theorem State.setScanner_clock (s : State) (c : Scanner) : (s.setScanner c).clock = s.clock := rfl
@[simp] theorem State.setScanner_ports (s : State) (c : Scanner) : (s.setScanner c).ports = s.ports := rfl
@[simp] theorem State.setScanner_pending (s : State) (c : Scanner) : (s.setScanner c).pending = s.pending := rfl

/-! ## setJob -/

@[simp] theorem State.setJob_now (s : State) (j : Job) : (s.setJob j).now = s.now := rfl
@[simp] theorem State.setJob_phase (s : State) (j : Job) : (s.setJob j).phase = s.phase := rfl
@[simp] theorem State.setJob_coldLoaded (s : State) (j : Job) : (s.setJob j).coldLoaded = s.coldLoaded := rfl
@[simp] theorem State.setJob_imageValid (s : State) (j : Job) : (s.setJob j).imageValid = s.imageValid := rfl
@[simp] theorem State.setJob_twoServices (s : State) (j : Job) : (s.setJob j).twoServices = s.twoServices := rfl
@[simp] theorem State.setJob_cfg (s : State) (j : Job) : (s.setJob j).cfg = s.cfg := rfl
@[simp] theorem State.setJob_dirty (s : State) (j : Job) : (s.setJob j).dirty = s.dirty := rfl
@[simp] theorem State.setJob_store (s : State) (j : Job) : (s.setJob j).store = s.store := rfl
@[simp] theorem State.setJob_bus (s : State) (j : Job) : (s.setJob j).bus = s.bus := rfl
@[simp] theorem State.setJob_exps (s : State) (j : Job) : (s.setJob j).exps = s.exps := rfl
@[simp] theorem State.setJob_points (s : State) (j : Job) : (s.setJob j).points = s.points := rfl
@[simp] theorem State.setJob_expAttn (s : State) (j : Job) : (s.setJob j).expAttn = s.expAttn := rfl
@[simp] theorem State.setJob_interlocks (s : State) (j : Job) : (s.setJob j).interlocks = s.interlocks := rfl
@[simp] theorem State.setJob_rfdown (s : State) (j : Job) : (s.setJob j).rfdown = s.rfdown := rfl
@[simp] theorem State.setJob_svcs (s : State) (j : Job) : (s.setJob j).svcs = s.svcs := rfl
@[simp] theorem State.setJob_arrival (s : State) (j : Job) : (s.setJob j).arrival = s.arrival := rfl
@[simp] theorem State.setJob_receivers (s : State) (j : Job) : (s.setJob j).receivers = s.receivers := rfl
@[simp] theorem State.setJob_tables (s : State) (j : Job) : (s.setJob j).tables = s.tables := rfl
@[simp] theorem State.setJob_clock (s : State) (j : Job) : (s.setJob j).clock = s.clock := rfl
@[simp] theorem State.setJob_ports (s : State) (j : Job) : (s.setJob j).ports = s.ports := rfl
@[simp] theorem State.setJob_pending (s : State) (j : Job) : (s.setJob j).pending = s.pending := rfl

/-! ## setPort -/

@[simp] theorem State.setPort_now (s : State) (i : PortId) (p : Port) : (s.setPort i p).now = s.now := rfl
@[simp] theorem State.setPort_phase (s : State) (i : PortId) (p : Port) : (s.setPort i p).phase = s.phase := rfl
@[simp] theorem State.setPort_coldLoaded (s : State) (i : PortId) (p : Port) : (s.setPort i p).coldLoaded = s.coldLoaded := rfl
@[simp] theorem State.setPort_imageValid (s : State) (i : PortId) (p : Port) : (s.setPort i p).imageValid = s.imageValid := rfl
@[simp] theorem State.setPort_twoServices (s : State) (i : PortId) (p : Port) : (s.setPort i p).twoServices = s.twoServices := rfl
@[simp] theorem State.setPort_cfg (s : State) (i : PortId) (p : Port) : (s.setPort i p).cfg = s.cfg := rfl
@[simp] theorem State.setPort_dirty (s : State) (i : PortId) (p : Port) : (s.setPort i p).dirty = s.dirty := rfl
@[simp] theorem State.setPort_store (s : State) (i : PortId) (p : Port) : (s.setPort i p).store = s.store := rfl
@[simp] theorem State.setPort_bus (s : State) (i : PortId) (p : Port) : (s.setPort i p).bus = s.bus := rfl
@[simp] theorem State.setPort_exps (s : State) (i : PortId) (p : Port) : (s.setPort i p).exps = s.exps := rfl
@[simp] theorem State.setPort_points (s : State) (i : PortId) (p : Port) : (s.setPort i p).points = s.points := rfl
@[simp] theorem State.setPort_expAttn (s : State) (i : PortId) (p : Port) : (s.setPort i p).expAttn = s.expAttn := rfl
@[simp] theorem State.setPort_interlocks (s : State) (i : PortId) (p : Port) : (s.setPort i p).interlocks = s.interlocks := rfl
@[simp] theorem State.setPort_rfdown (s : State) (i : PortId) (p : Port) : (s.setPort i p).rfdown = s.rfdown := rfl
@[simp] theorem State.setPort_svcs (s : State) (i : PortId) (p : Port) : (s.setPort i p).svcs = s.svcs := rfl
@[simp] theorem State.setPort_arrival (s : State) (i : PortId) (p : Port) : (s.setPort i p).arrival = s.arrival := rfl
@[simp] theorem State.setPort_job (s : State) (i : PortId) (p : Port) : (s.setPort i p).job = s.job := rfl
@[simp] theorem State.setPort_receivers (s : State) (i : PortId) (p : Port) : (s.setPort i p).receivers = s.receivers := rfl
@[simp] theorem State.setPort_tables (s : State) (i : PortId) (p : Port) : (s.setPort i p).tables = s.tables := rfl
@[simp] theorem State.setPort_clock (s : State) (i : PortId) (p : Port) : (s.setPort i p).clock = s.clock := rfl
@[simp] theorem State.setPort_pending (s : State) (i : PortId) (p : Port) : (s.setPort i p).pending = s.pending := rfl

/-! ## reach -/

@[simp] theorem State.reach_phase (s : State) (t : Nat) : (s.reach t).phase = s.phase := rfl
@[simp] theorem State.reach_coldLoaded (s : State) (t : Nat) : (s.reach t).coldLoaded = s.coldLoaded := rfl
@[simp] theorem State.reach_imageValid (s : State) (t : Nat) : (s.reach t).imageValid = s.imageValid := rfl
@[simp] theorem State.reach_twoServices (s : State) (t : Nat) : (s.reach t).twoServices = s.twoServices := rfl
@[simp] theorem State.reach_cfg (s : State) (t : Nat) : (s.reach t).cfg = s.cfg := rfl
@[simp] theorem State.reach_dirty (s : State) (t : Nat) : (s.reach t).dirty = s.dirty := rfl
@[simp] theorem State.reach_store (s : State) (t : Nat) : (s.reach t).store = s.store := rfl
@[simp] theorem State.reach_bus (s : State) (t : Nat) : (s.reach t).bus = s.bus := rfl
@[simp] theorem State.reach_exps (s : State) (t : Nat) : (s.reach t).exps = s.exps := rfl
@[simp] theorem State.reach_points (s : State) (t : Nat) : (s.reach t).points = s.points := rfl
@[simp] theorem State.reach_expAttn (s : State) (t : Nat) : (s.reach t).expAttn = s.expAttn := rfl
@[simp] theorem State.reach_interlocks (s : State) (t : Nat) : (s.reach t).interlocks = s.interlocks := rfl
@[simp] theorem State.reach_rfdown (s : State) (t : Nat) : (s.reach t).rfdown = s.rfdown := rfl
@[simp] theorem State.reach_svcs (s : State) (t : Nat) : (s.reach t).svcs = s.svcs := rfl
@[simp] theorem State.reach_arrival (s : State) (t : Nat) : (s.reach t).arrival = s.arrival := rfl
@[simp] theorem State.reach_job (s : State) (t : Nat) : (s.reach t).job = s.job := rfl
@[simp] theorem State.reach_receivers (s : State) (t : Nat) : (s.reach t).receivers = s.receivers := rfl
@[simp] theorem State.reach_tables (s : State) (t : Nat) : (s.reach t).tables = s.tables := rfl
@[simp] theorem State.reach_clock (s : State) (t : Nat) : (s.reach t).clock = s.clock := rfl
@[simp] theorem State.reach_ports (s : State) (t : Nat) : (s.reach t).ports = s.ports := rfl
@[simp] theorem State.reach_pending (s : State) (t : Nat) : (s.reach t).pending = s.pending := rfl

/-! ## mapPoints -/

@[simp] theorem State.mapPoints_now (s : State) (f : Fin 32 → PointState → PointState) : (s.mapPoints f).now = s.now := by simp only [State.mapPoints]
@[simp] theorem State.mapPoints_phase (s : State) (f : Fin 32 → PointState → PointState) : (s.mapPoints f).phase = s.phase := by simp only [State.mapPoints]
@[simp] theorem State.mapPoints_coldLoaded (s : State) (f : Fin 32 → PointState → PointState) : (s.mapPoints f).coldLoaded = s.coldLoaded := by simp only [State.mapPoints]
@[simp] theorem State.mapPoints_imageValid (s : State) (f : Fin 32 → PointState → PointState) : (s.mapPoints f).imageValid = s.imageValid := by simp only [State.mapPoints]
@[simp] theorem State.mapPoints_twoServices (s : State) (f : Fin 32 → PointState → PointState) : (s.mapPoints f).twoServices = s.twoServices := by simp only [State.mapPoints]
@[simp] theorem State.mapPoints_cfg (s : State) (f : Fin 32 → PointState → PointState) : (s.mapPoints f).cfg = s.cfg := by simp only [State.mapPoints]
@[simp] theorem State.mapPoints_dirty (s : State) (f : Fin 32 → PointState → PointState) : (s.mapPoints f).dirty = s.dirty := by simp only [State.mapPoints]
@[simp] theorem State.mapPoints_store (s : State) (f : Fin 32 → PointState → PointState) : (s.mapPoints f).store = s.store := by simp only [State.mapPoints]
@[simp] theorem State.mapPoints_bus (s : State) (f : Fin 32 → PointState → PointState) : (s.mapPoints f).bus = s.bus := by simp only [State.mapPoints]
@[simp] theorem State.mapPoints_exps (s : State) (f : Fin 32 → PointState → PointState) : (s.mapPoints f).exps = s.exps := by simp only [State.mapPoints]
@[simp] theorem State.mapPoints_expAttn (s : State) (f : Fin 32 → PointState → PointState) : (s.mapPoints f).expAttn = s.expAttn := by simp only [State.mapPoints]
@[simp] theorem State.mapPoints_interlocks (s : State) (f : Fin 32 → PointState → PointState) : (s.mapPoints f).interlocks = s.interlocks := by simp only [State.mapPoints]
@[simp] theorem State.mapPoints_rfdown (s : State) (f : Fin 32 → PointState → PointState) : (s.mapPoints f).rfdown = s.rfdown := by simp only [State.mapPoints]
@[simp] theorem State.mapPoints_svcs (s : State) (f : Fin 32 → PointState → PointState) : (s.mapPoints f).svcs = s.svcs := by simp only [State.mapPoints]
@[simp] theorem State.mapPoints_arrival (s : State) (f : Fin 32 → PointState → PointState) : (s.mapPoints f).arrival = s.arrival := by simp only [State.mapPoints]
@[simp] theorem State.mapPoints_job (s : State) (f : Fin 32 → PointState → PointState) : (s.mapPoints f).job = s.job := by simp only [State.mapPoints]
@[simp] theorem State.mapPoints_receivers (s : State) (f : Fin 32 → PointState → PointState) : (s.mapPoints f).receivers = s.receivers := by simp only [State.mapPoints]
@[simp] theorem State.mapPoints_tables (s : State) (f : Fin 32 → PointState → PointState) : (s.mapPoints f).tables = s.tables := by simp only [State.mapPoints]
@[simp] theorem State.mapPoints_clock (s : State) (f : Fin 32 → PointState → PointState) : (s.mapPoints f).clock = s.clock := by simp only [State.mapPoints]
@[simp] theorem State.mapPoints_ports (s : State) (f : Fin 32 → PointState → PointState) : (s.mapPoints f).ports = s.ports := by simp only [State.mapPoints]
@[simp] theorem State.mapPoints_pending (s : State) (f : Fin 32 → PointState → PointState) : (s.mapPoints f).pending = s.pending := by simp only [State.mapPoints]

/-! ## writeCfg -/

@[simp] theorem State.writeCfg_now (s : State) (c : ConfigRam) : (s.writeCfg c).now = s.now := rfl
@[simp] theorem State.writeCfg_phase (s : State) (c : ConfigRam) : (s.writeCfg c).phase = s.phase := rfl
@[simp] theorem State.writeCfg_coldLoaded (s : State) (c : ConfigRam) : (s.writeCfg c).coldLoaded = s.coldLoaded := rfl
@[simp] theorem State.writeCfg_imageValid (s : State) (c : ConfigRam) : (s.writeCfg c).imageValid = s.imageValid := rfl
@[simp] theorem State.writeCfg_twoServices (s : State) (c : ConfigRam) : (s.writeCfg c).twoServices = s.twoServices := rfl
@[simp] theorem State.writeCfg_store (s : State) (c : ConfigRam) : (s.writeCfg c).store = s.store := rfl
@[simp] theorem State.writeCfg_bus (s : State) (c : ConfigRam) : (s.writeCfg c).bus = s.bus := rfl
@[simp] theorem State.writeCfg_exps (s : State) (c : ConfigRam) : (s.writeCfg c).exps = s.exps := rfl
@[simp] theorem State.writeCfg_points (s : State) (c : ConfigRam) : (s.writeCfg c).points = s.points := rfl
@[simp] theorem State.writeCfg_expAttn (s : State) (c : ConfigRam) : (s.writeCfg c).expAttn = s.expAttn := rfl
@[simp] theorem State.writeCfg_interlocks (s : State) (c : ConfigRam) : (s.writeCfg c).interlocks = s.interlocks := rfl
@[simp] theorem State.writeCfg_rfdown (s : State) (c : ConfigRam) : (s.writeCfg c).rfdown = s.rfdown := rfl
@[simp] theorem State.writeCfg_svcs (s : State) (c : ConfigRam) : (s.writeCfg c).svcs = s.svcs := rfl
@[simp] theorem State.writeCfg_arrival (s : State) (c : ConfigRam) : (s.writeCfg c).arrival = s.arrival := rfl
@[simp] theorem State.writeCfg_job (s : State) (c : ConfigRam) : (s.writeCfg c).job = s.job := rfl
@[simp] theorem State.writeCfg_receivers (s : State) (c : ConfigRam) : (s.writeCfg c).receivers = s.receivers := rfl
@[simp] theorem State.writeCfg_tables (s : State) (c : ConfigRam) : (s.writeCfg c).tables = s.tables := rfl
@[simp] theorem State.writeCfg_clock (s : State) (c : ConfigRam) : (s.writeCfg c).clock = s.clock := rfl
@[simp] theorem State.writeCfg_ports (s : State) (c : ConfigRam) : (s.writeCfg c).ports = s.ports := rfl
@[simp] theorem State.writeCfg_pending (s : State) (c : ConfigRam) : (s.writeCfg c).pending = s.pending := rfl

/-! ## What an update writes -/

@[simp] theorem State.setBus_bus (s : State) (b : Bus) : (s.setBus b).bus = b := rfl

@[simp] theorem State.setJob_job (s : State) (j : Job) : (s.setJob j).job = some j := rfl

@[simp] theorem State.setScanner_queue (s : State) (c : Scanner) : (s.setScanner c).bus.queue = s.bus.queue := rfl

@[simp] theorem State.setScanner_current (s : State) (c : Scanner) : (s.setScanner c).bus.current = s.bus.current := rfl

@[simp] theorem State.setScanner_eeprom (s : State) (c : Scanner) : (s.setScanner c).bus.eeprom = s.bus.eeprom := rfl

@[simp] theorem State.setScanner_scanner (s : State) (c : Scanner) : (s.setScanner c).bus.scanner = c := rfl

@[simp] theorem State.reach_now (s : State) (t : Nat) : (s.reach t).now = max s.now t := rfl

@[simp] theorem State.writeCfg_cfg (s : State) (c : ConfigRam) : (s.writeCfg c).cfg = c := rfl

@[simp] theorem State.writeCfg_dirty (s : State) (c : ConfigRam) : (s.writeCfg c).dirty = true := rfl

/-! ## Pairs and triples -/

@[simp] theorem Per.get_set_same {α : Type} (p : Per α) (x : Svc) (v : α) : (p.set x v).get x = v := by
  cases x <;> rfl

theorem Per.get_set_other {α : Type} (p : Per α) {x y : Svc} (v : α) (h : x ≠ y) : (p.set x v).get y = p.get y := by
  cases x <;> cases y <;> first | rfl | exact absurd rfl h

@[simp] theorem Per.set_set {α : Type} (p : Per α) (x : Svc) (v w : α) : (p.set x v).set x w = p.set x w := by
  cases x <;> rfl

@[simp] theorem PerPort.get_set_same {α : Type} (p : PerPort α) (i : PortId) (v : α) : (p.set i v).get i = v := by
  cases i <;> rfl

theorem PerPort.get_set_other {α : Type} (p : PerPort α) {i k : PortId} (v : α) (h : i ≠ k) :
    (p.set i v).get k = p.get k := by
  cases i <;> cases k <;> first | rfl | exact absurd rfl h

@[simp] theorem State.svc_setSvc_same (s : State) (x : Svc) (v : Service) : (s.setSvc x v).svc x = v :=
  Per.get_set_same s.svcs x v

theorem State.svc_setSvc_other (s : State) {x y : Svc} (v : Service) (h : x ≠ y) : (s.setSvc x v).svc y = s.svc y :=
  Per.get_set_other s.svcs v h

@[simp] theorem State.table_setTable_same (s : State) (x : Svc) (v : ConfTable) : (s.setTable x v).table x = v :=
  Per.get_set_same s.tables x v

theorem State.table_setTable_other (s : State) {x y : Svc} (v : ConfTable) (h : x ≠ y) :
    (s.setTable x v).table y = s.table y :=
  Per.get_set_other s.tables v h

@[simp] theorem State.receiver_setReceiver_same (s : State) (x : Svc) (v : Receiver) :
    (s.setReceiver x v).receiver x = v :=
  Per.get_set_same s.receivers x v

theorem State.receiver_setReceiver_other (s : State) {x y : Svc} (v : Receiver) (h : x ≠ y) :
    (s.setReceiver x v).receiver y = s.receiver y :=
  Per.get_set_other s.receivers v h

@[simp] theorem State.port_setPort_same (s : State) (i : PortId) (p : Port) : (s.setPort i p).ports.get i = p :=
  PerPort.get_set_same s.ports i p

theorem State.port_setPort_other (s : State) {i k : PortId} (p : Port) (h : i ≠ k) :
    (s.setPort i p).ports.get k = s.ports.get k :=
  PerPort.get_set_other s.ports p h

@[simp] theorem State.point_setPoint_same (s : State) (i : Fin 32) (v : PointState) : (s.setPoint i v).point i = v := by
  simp [State.setPoint, State.point]

theorem State.point_setPoint_other (s : State) {i k : Fin 32} (v : PointState) (h : i ≠ k) :
    (s.setPoint i v).point k = s.point k := by
  have h' : i.val ≠ k.val := fun e => h (Fin.ext e)
  simp [State.setPoint, State.point, Vector.getElem_set_ne, h']

@[simp] theorem State.point_mapPoints (s : State) (f : Fin 32 → PointState → PointState) (i : Fin 32) :
    (s.mapPoints f).point i = f i (s.point i) := by
  simp [State.mapPoints, State.point]

@[simp] theorem State.exp_setExp_same (s : State) (e : Fin 8) (v : Expander) : (s.setExp e v).exp e = v := by
  simp [State.setExp, State.exp]

theorem State.exp_setExp_other (s : State) {e k : Fin 8} (v : Expander) (h : e ≠ k) :
    (s.setExp e v).exp k = s.exp k := by
  have h' : e.val ≠ k.val := fun q => h (Fin.ext q)
  simp [State.setExp, State.exp, Vector.getElem_set_ne, h']

@[simp] theorem State.interlock_setInterlock_same (s : State) (k : Fin 4) (v : Interlock) :
    (s.setInterlock k v).interlock k = v := by
  simp [State.setInterlock, State.interlock]

theorem State.interlock_setInterlock_other (s : State) {k l : Fin 4} (v : Interlock) (h : k ≠ l) :
    (s.setInterlock k v).interlock l = s.interlock l := by
  have h' : k.val ≠ l.val := fun q => h (Fin.ext q)
  simp [State.setInterlock, State.interlock, Vector.getElem_set_ne, h']

end Sys2Proof.Machine
end

