-- ==== Sys2Proof/Laws/Ports.lean ====
section
/-! SUPPORT. What a request window does, said once: the window shut, the request judged on that state, the answer in the
port's buffer; and the first checks of a request, past which its own body runs. -/

namespace Sys2Proof.Machine

/-! ## The shut window changes its port alone -/

@[simp] theorem windowShut_now (i : PortId) (n : Nat) (s : State) : (windowShut i n s).now = s.now := rfl
@[simp] theorem windowShut_phase (i : PortId) (n : Nat) (s : State) : (windowShut i n s).phase = s.phase := rfl
@[simp] theorem windowShut_coldLoaded (i : PortId) (n : Nat) (s : State) :
    (windowShut i n s).coldLoaded = s.coldLoaded := rfl
@[simp] theorem windowShut_twoServices (i : PortId) (n : Nat) (s : State) :
    (windowShut i n s).twoServices = s.twoServices := rfl
@[simp] theorem windowShut_cfg (i : PortId) (n : Nat) (s : State) : (windowShut i n s).cfg = s.cfg := rfl
@[simp] theorem windowShut_dirty (i : PortId) (n : Nat) (s : State) : (windowShut i n s).dirty = s.dirty := rfl
@[simp] theorem windowShut_store (i : PortId) (n : Nat) (s : State) : (windowShut i n s).store = s.store := rfl
@[simp] theorem windowShut_bus (i : PortId) (n : Nat) (s : State) : (windowShut i n s).bus = s.bus := rfl
@[simp] theorem windowShut_exps (i : PortId) (n : Nat) (s : State) : (windowShut i n s).exps = s.exps := rfl
@[simp] theorem windowShut_points (i : PortId) (n : Nat) (s : State) : (windowShut i n s).points = s.points := rfl
@[simp] theorem windowShut_interlocks (i : PortId) (n : Nat) (s : State) :
    (windowShut i n s).interlocks = s.interlocks := rfl
@[simp] theorem windowShut_svcs (i : PortId) (n : Nat) (s : State) : (windowShut i n s).svcs = s.svcs := rfl
@[simp] theorem windowShut_arrival (i : PortId) (n : Nat) (s : State) : (windowShut i n s).arrival = s.arrival := rfl
@[simp] theorem windowShut_job (i : PortId) (n : Nat) (s : State) : (windowShut i n s).job = s.job := rfl
@[simp] theorem windowShut_receivers (i : PortId) (n : Nat) (s : State) :
    (windowShut i n s).receivers = s.receivers := rfl
@[simp] theorem windowShut_tables (i : PortId) (n : Nat) (s : State) : (windowShut i n s).tables = s.tables := rfl
@[simp] theorem windowShut_clock (i : PortId) (n : Nat) (s : State) : (windowShut i n s).clock = s.clock := rfl

@[simp] theorem windowShut_svc (i : PortId) (n : Nat) (s : State) (x : Svc) : (windowShut i n s).svc x = s.svc x := rfl
@[simp] theorem windowShut_pattern (i : PortId) (n : Nat) (s : State) (x : Svc) (k : Fin 4) :
    (windowShut i n s).pattern x k = s.pattern x k := rfl
@[simp] theorem windowShut_receiver (i : PortId) (n : Nat) (s : State) (x : Svc) :
    (windowShut i n s).receiver x = s.receiver x := rfl
@[simp] theorem windowShut_settings (i : PortId) (n : Nat) (s : State) (x : Svc) :
    (windowShut i n s).settings x = s.settings x := rfl
@[simp] theorem windowShut_interlock (i : PortId) (n : Nat) (s : State) (k : Fin 4) :
    (windowShut i n s).interlock k = s.interlock k := rfl
@[simp] theorem windowShut_interlockRec (i : PortId) (n : Nat) (s : State) (k : Fin 4) :
    (windowShut i n s).interlockRec k = s.interlockRec k := rfl
@[simp] theorem windowShut_pointRec (i : PortId) (n : Nat) (s : State) (k : Fin 32) :
    (windowShut i n s).pointRec k = s.pointRec k := rfl
@[simp] theorem windowShut_present (i : PortId) (n : Nat) (s : State) (x : Svc) :
    present (windowShut i n s) x = present s x := rfl
@[simp] theorem windowShut_loadEnded (i : PortId) (n : Nat) (s : State) :
    loadEnded (windowShut i n s) = loadEnded s := rfl
@[simp] theorem windowShut_saveInFlight (i : PortId) (n : Nat) (s : State) :
    saveInFlight (windowShut i n s) = saveInFlight s := rfl
@[simp] theorem windowShut_siteLive (i : PortId) (n : Nat) (s : State) : siteLive (windowShut i n s) = siteLive s := rfl
@[simp] theorem windowShut_inForceOnAir (i : PortId) (n : Nat) (s : State) (x : Svc) (k : Fin 4) :
    inForceOnAir (windowShut i n s) x k = inForceOnAir s x k := rfl
@[simp] theorem windowShut_slotInUse (i : PortId) (n : Nat) (s : State) (x : Svc) (k : Fin 4) :
    slotInUse (windowShut i n s) x k = slotInUse s x k := rfl
@[simp] theorem windowShut_patternValid (i : PortId) (n : Nat) (s : State) (p : Pattern) :
    patternValid (windowShut i n s) p = patternValid s p := rfl
@[simp] theorem windowShut_presentInterlock (i : PortId) (n : Nat) (s : State) (b : Byte) :
    presentInterlock (windowShut i n s) b = presentInterlock s b := rfl
@[simp] theorem windowShut_namedService (i : PortId) (n : Nat) (s : State) (b : Byte) :
    namedService (windowShut i n s) b = namedService s b := rfl

/-! ## Requests -/

theorem closePort_eq_windowShut (i : PortId) (n : Nat) (s : State) : closePort i n s = windowShut i n s := rfl

theorem deliverAnswer_eq_withReply (i : PortId) (tag : Byte) (a : Answer) :
    deliverAnswer i tag a = withReply i (responseFrame a.status tag a.payload) a.state := rfl

theorem responseFrame_nil (st : Status) (tag : Byte) : responseFrame st tag [] = shortFrame (statusCode st) tag := rfl

theorem responseFrame_ok (tag : Byte) (payload : List Byte) : responseFrame .ok tag payload = okFrame tag payload := rfl

/-- Once the load has ended a request is judged on the shut window and answered. -/
theorem request_of_loadEnded {s : State} (h : loadEnded s = true) (i : PortId) (tag : Byte) (n : Nat)
    (body : State → Answer) :
    request i tag n body s = deliverAnswer i tag (body (windowShut i n s)) := by
  unfold request
  cases hp : s.phase <;> simp_all [loadEnded, closePort_eq_windowShut]

theorem request_of_loading {s : State} (h : s.phase = .loading) (i : PortId) (tag : Byte) (n : Nat)
    (body : State → Answer) : request i tag n body s = windowShut i n s := by
  simp [request, h, closePort_eq_windowShut]

theorem request_of_resetHeld {s : State} (h : s.phase = .resetHeld) (i : PortId) (tag : Byte) (n : Nat)
    (body : State → Answer) : request i tag n body s = s := by
  simp [request, h]

/-- A refused request is answered and leaves everything else. -/
theorem request_refused {s : State} (h : loadEnded s = true) (i : PortId) (tag : Byte) (n : Nat)
    (body : State → Answer) (st : Status) (hb : body (windowShut i n s) = refuse st (windowShut i n s)) :
    request i tag n body s = answered i n (shortFrame (statusCode st) tag) id s := by
  rw [request_of_loadEnded h, hb]; rfl

/-- A request taken without a payload is answered with its effect. -/
theorem request_taken {s : State} (h : loadEnded s = true) (i : PortId) (tag : Byte) (n : Nat)
    (body : State → Answer) (st : Status) (effect : State → State)
    (hb : body (windowShut i n s) = taken st (effect (windowShut i n s))) :
    request i tag n body s = answered i n (shortFrame (statusCode st) tag) effect s := by
  rw [request_of_loadEnded h, hb]; rfl

/-- A read answered OK leaves everything else. -/
theorem request_reading {s : State} (h : loadEnded s = true) (i : PortId) (tag : Byte) (n : Nat)
    (body : State → Answer) (payload : List Byte)
    (hb : body (windowShut i n s) = reading payload (windowShut i n s)) :
    request i tag n body s = answered i n (okFrame tag payload) id s := by
  rw [request_of_loadEnded h, hb]; rfl

/-! ## First checks -/

theorem mayName_of_actsFor {port : PortId} {svc : Byte} {x : Svc} (hn : svcOfCode svc = some x)
    (h : actsFor port x = true) : mayName port svc = true := by
  cases port <;> cases x <;> simp_all [actsFor, mayName, portService]

theorem namedService_of_present {s : State} {svc : Byte} {x : Svc} (hn : svcOfCode svc = some x)
    (h : present s x = true) : namedService s svc = some x := by simp [namedService, hn, h]

/-- A request for a service runs its own body once its port may name it and the service is present. -/
theorem forOwnService_of_takes {s : State} {port : PortId} {svc : Byte} {x : Svc} (h : Takes s port svc x) (i : PortId)
    (n : Nat) (body : Svc → Answer) : forOwnService port svc (windowShut i n s) body = body x := by
  simp [forOwnService, mayName_of_actsFor h.named h.may, namedService_of_present h.named h.here]

/-- A read that names a present service runs its own body. -/
theorem forAnyService_of_reads {s : State} {svc : Byte} {x : Svc} (h : ReadsService s svc x) (i : PortId) (n : Nat)
    (body : Svc → Answer) : forAnyService svc (windowShut i n s) body = body x := by
  simp [forAnyService, namedService_of_present h.named h.here]

@[simp] theorem fromSite_site (s : State) (a : Answer) : fromSite .site s a = a := rfl

theorem fromSite_of_ne {port : PortId} (h : port ≠ .site) (s : State) (a : Answer) :
    fromSite port s a = refuse .notPermitted s := by simp [fromSite, h]

theorem whileUnsaved_of_idle {s : State} (h : saveInFlight s = false) (a : Answer) : whileUnsaved s a = a := by
  simp [whileUnsaved, h]

@[simp] theorem inRange_some {α : Type} (v : α) (s : State) (body : α → Answer) : inRange (some v) s body = body v := rfl

@[simp] theorem inRange_none {α : Type} (s : State) (body : α → Answer) :
    inRange (none : Option α) s body = refuse .badField s := rfl

theorem indexOf_ofNat {n : Nat} (k : Fin n) (h : n ≤ 256) : indexOf n (BitVec.ofNat 8 k.val) = some k := by
  have hk : k.val % 256 = k.val := Nat.mod_eq_of_lt (Nat.lt_of_lt_of_le k.isLt h)
  simp [indexOf, hk]

end Sys2Proof.Machine
end

