-- ==== Sys2Proof/Laws/Frames.lean ====
section
/-! SUPPORT. Lemmas on request frames and month rows: taking the bytes of a field list gives the list back, and the
lengths of the byte lists. -/

namespace Sys2Proof

open Sys2Proof.Machine

/-! ## Frames -/

theorem lengthByte_toNat {n : Nat} (h : n ≤ 252) : (BitVec.ofNat 8 (3 + n)).toNat = 3 + n := by
  simp [BitVec.toNat_ofNat]; omega

theorem halfOf_hi_lo (h : Half) : halfOf (hiByte h) (loByte h) = h := by
  apply BitVec.eq_of_toNat_eq
  have := h.isLt
  simp only [halfOf, hiByte, loByte, BitVec.toNat_append, BitVec.extractLsb'_toNat]
  rw [← Nat.shiftLeft_add_eq_or_of_lt (by omega), Nat.shiftLeft_eq, Nat.shiftRight_eq_div_pow]
  simp; omega

theorem takeTowers_bytes (l : List TowerFrame) (rest : List Byte) :
    takeTowers l.length (l.flatMap towerBytes ++ rest) = some (l, rest) := by
  induction l with
  | nil => rfl
  | cons t l ih =>
    simp [towerBytes, halfBytes, takeTowers, ih, halfOf_hi_lo]

theorem takePairs_bytes (l : List (Byte × Byte)) : takePairs (l.flatMap pairBytes) = some l := by
  induction l with
  | nil => rfl
  | cons t l ih => simp [pairBytes, takePairs, ih]

theorem takeItems_bytes (l : List TuneItem) : takeItems (l.flatMap tuneItemBytes) = some l := by
  induction l with
  | nil => rfl
  | cons t l ih => simp [tuneItemBytes, halfBytes, takeItems, ih, halfOf_hi_lo]

theorem takeEntries_bytes (l : List (Half × Byte)) : takeEntries (l.flatMap rowEntryBytes) = some l := by
  induction l with
  | nil => rfl
  | cons t l ih => simp [rowEntryBytes, halfBytes, takeEntries, ih, halfOf_hi_lo]

theorem counted_some {α} (l : List α) (h : l.length < 256) : counted (BitVec.ofNat 8 l.length) (some l) = some l := by
  simp [counted]; omega

theorem vector8_eq (v : Vector Byte 8) : ∃ a b c d e f g h, v = #v[a,b,c,d,e,f,g,h] := by
  refine ⟨v[0],v[1],v[2],v[3],v[4],v[5],v[6],v[7], ?_⟩
  ext i hi; 
  match i with
  | 0 => rfl | 1 => rfl | 2 => rfl | 3 => rfl | 4 => rfl | 5 => rfl | 6 => rfl | 7 => rfl
  | n+8 => omega

theorem length_towerBytes (l : List TowerFrame) : (l.flatMap towerBytes).length = 9 * l.length := by
  induction l with
  | nil => rfl
  | cons t l ih => simp [towerBytes, halfBytes, ih]; omega

theorem length_pairBytes (l : List (Byte × Byte)) : (l.flatMap pairBytes).length = 2 * l.length := by
  induction l with
  | nil => rfl
  | cons t l ih => simp [pairBytes, ih]; omega

theorem length_tuneItemBytes (l : List TuneItem) : (l.flatMap tuneItemBytes).length = 7 * l.length := by
  induction l with
  | nil => rfl
  | cons t l ih => simp [tuneItemBytes, halfBytes, ih]; omega

theorem length_rowEntryBytes (l : List (Half × Byte)) : (l.flatMap rowEntryBytes).length = 3 * l.length := by
  induction l with
  | nil => rfl
  | cons t l ih => simp [rowEntryBytes, halfBytes, ih]; omega

theorem length_patternBytes (f : PatternFrame) : (patternBytes f).length = 124 + 2 * f.pairs.length := by
  have h8 : f.label.toList.length = 8 := by simp
  have h12 : f.towers.toList.length = 12 := by simp
  simp only [patternBytes, List.length_append, List.length_cons, length_towerBytes, length_pairBytes, halfBytes, h8,
    h12]
  simp
  omega

theorem takePattern_bytes (f : PatternFrame) (h : f.pairs.length ≤ 62) : takePattern (patternBytes f) = some f := by
  obtain ⟨label, power, cut, ref, win, per, fb, towers, pairs⟩ := f
  obtain ⟨a,b,c,d,e,g,i,j, rfl⟩ := vector8_eq label
  have ht : takeTowers 12 (towers.toList.flatMap towerBytes ++ (BitVec.ofNat 8 pairs.length :: pairs.flatMap pairBytes))
      = some (towers.toList, BitVec.ofNat 8 pairs.length :: pairs.flatMap pairBytes) := by
    have := takeTowers_bytes towers.toList (BitVec.ofNat 8 pairs.length :: pairs.flatMap pairBytes)
    simpa using this
  have hc := counted_some pairs (by simp at h; omega)
  simp [patternBytes, halfBytes, takePattern, ht, takePairs_bytes, hc, halfOf_hi_lo]
  rfl

/-- A frame within the length limit decodes as its parameters do. -/
theorem decode_of_frame (port : PortId) (pin : Bool) (code tag : Byte) (params : List Byte)
    (h : params.length ≤ 252) :
    decodeWindow port pin (frameOf code tag params) =
      (decodeRequest port pin code tag params).getD (.badLengthWindow port (frameOf code tag params)) := by
  have e := lengthByte_toNat h
  have hne : BitVec.ofNat 8 (3 + params.length) ≠ 0 := by
    intro h0; rw [h0] at e; simp at e; omega
  unfold decodeWindow frameOf
  simp only [hne, if_false]
  have : (BitVec.ofNat 8 (3 + params.length)).toNat =
      (BitVec.ofNat 8 (3 + params.length) :: code :: tag :: params).length := by
    rw [e]; simp; omega
  rw [if_pos this]

/-- The frame of a command that can arrive has at most 255 bytes (R165). -/
theorem length_requestFrame (c : Instr) : c.wellFormed = true → (requestFrame c).length ≤ 255 := by
  intro h
  cases c with
  | writePattern _ _ _ _ body =>
    cases body with
    | none => simp [requestFrame, frameOf]
    | some f =>
      have : f.pairs.length ≤ 62 := by simpa [Instr.wellFormed] using h
      simp only [requestFrame, frameOf, List.length_cons, length_patternBytes]
      omega
  | tunePattern _ _ _ _ _ _ _ items =>
    have : items.length ≤ 35 := by simpa [Instr.wellFormed] using h
    simp only [requestFrame, frameOf, List.length_cons, length_tuneItemBytes]
    omega
  | writeScheduleRow _ _ _ _ entries =>
    have : entries.length ≤ 83 := by simpa [Instr.wellFormed] using h
    simp only [requestFrame, frameOf, List.length_cons, length_rowEntryBytes]
    omega
  | unknownRequest _ _ _ params =>
    have : params.length ≤ 252 := by
      simp only [Instr.wellFormed, Bool.and_eq_true, decide_eq_true_eq] at h
      exact h.2
    simp only [requestFrame, frameOf, List.length_cons]
    omega
  | writePoint _ _ _ body => cases body <;> simp [requestFrame, frameOf, pointBytes, halfBytes]
  | setClock _ _ _ date => cases date <;> simp [requestFrame, frameOf, dateBytes, halfBytes]
  | _ => simp [requestFrame, frameOf, settingsBytes, halfBytes]

/-! ## Month rows -/

/-- A row entry as WRITE_SCHEDULE_ROW carries it. -/
abbrev rowEntryFrame (e : RowEntry) : Half × Byte := (BitVec.ofNat 16 e.minute, BitVec.ofNat 8 e.slot.val)

/-- A row entry read from the fields WRITE_SCHEDULE_ROW carries. -/
abbrev rowEntryOf (e : Half × Byte) : Option RowEntry :=
  (indexOf 4 e.2).map fun k => { minute := e.1.toNat, slot := k }

theorem ascending_iff (row : List RowEntry) : ascending row = true ↔ row.Pairwise (fun a b => a.minute < b.minute) := by
  induction row with
  | nil => simp [ascending]
  | cons a l ih =>
    cases l with
    | nil => simp [ascending]
    | cons b l =>
      simp only [ascending, Bool.and_eq_true, decide_eq_true_eq, ih, List.pairwise_cons]
      constructor
      · rintro ⟨h, h1, h2⟩
        refine ⟨fun c hc => ?_, h1, h2⟩
        rcases List.mem_cons.1 hc with rfl | hc
        · exact h
        · exact lt_trans h (h1 c hc)
      · rintro ⟨h, h1, h2⟩
        exact ⟨h b (by simp), h1, h2⟩

theorem rowValid_iff (row : List RowEntry) : rowValid row = true ↔ rowSound row := by
  simp [rowValid, rowSound, ascending_iff, and_assoc]

/-- The fields of a sound row are taken as that row. -/
theorem rowOfEntries_map (row : List RowEntry) (h : rowSound row) :
    rowOfEntries (row.map rowEntryFrame) = some row := by
  have key : ∀ l : List RowEntry, (∀ e ∈ l, e.minute ≤ 1439) → (l.map rowEntryFrame).mapM rowEntryOf = some l := by
    intro l hl
    induction l with
    | nil => rfl
    | cons a l ih =>
      have h1 : a.minute % 65536 = a.minute := Nat.mod_eq_of_lt (by have := hl a (by simp); omega)
      simp [List.mapM_cons, rowEntryOf, rowEntryFrame, ih (fun e he => hl e (by simp [he])),
        indexOf_ofNat a.slot (show 4 ≤ 256 by omega), h1]
  simp [rowOfEntries, key row h.2.1, keepIf, (rowValid_iff row).2 h]

/-- Fields taken as a row are the fields of that row, and it is sound. -/
theorem rowOfEntries_some (entries : List (Half × Byte)) (row : List RowEntry) (h : rowOfEntries entries = some row) :
    rowSound row ∧ entries = row.map rowEntryFrame := by
  simp only [rowOfEntries, keepIf] at h
  have key : ∀ (l : List (Half × Byte)) r, l.mapM rowEntryOf = some r → l = r.map rowEntryFrame := by
    intro l
    induction l with
    | nil => intro r h; simp at h; simp [h]
    | cons a l ih =>
      intro r h
      simp [List.mapM_cons, rowEntryOf, Option.bind_eq_some_iff] at h
      obtain ⟨k, hk, r', hr, rfl⟩ := h
      simp only [indexOf] at hk
      split at hk <;> simp at hk
      subst hk
      obtain ⟨a1, a2⟩ := a
      simp [rowEntryFrame, ← ih r' hr]
  cases hm : entries.mapM rowEntryOf with
  | none => simp [hm] at h
  | some r =>
    simp [hm] at h
    obtain ⟨hv, rfl⟩ := h
    exact ⟨(rowValid_iff r).1 hv, key _ _ hm⟩

end Sys2Proof
end

