-- ==== Sys2Proof/Laws/Image.lean ====
section
/-! SUPPORT. When each reader of an image answers none, said once: the vectors of optional fields, the kept values, and
the codes of the enumerations. -/

namespace Sys2Proof.Machine

@[simp] theorem keepIf_eq_none {α : Type} {ok : Bool} {v : α} : keepIf ok v = none ↔ ok = false := by
  cases ok <;> simp [keepIf]

@[simp] theorem indexOf_eq_none {n : Nat} {c : Byte} : indexOf n c = none ↔ n ≤ c.toNat := by
  simp [indexOf]

@[simp] theorem portSetOfCode_eq_none {c : Byte} : portSetOfCode c = none ↔ 7 < c.toNat := by
  simp [portSetOfCode]

/-- A field of a flags byte, as a number. -/
theorem bits_toNat (b : Byte) (start len : Nat) (h : len ≤ 8) : (bits b start len).toNat = b.toNat / 2 ^ start % 2 ^ len := by
  have h2 : 2 ^ len ≤ 2 ^ 8 := Nat.pow_le_pow_right (by decide) h
  have h3 : (2 ^ len - 1) % 2 ^ 8 = 2 ^ len - 1 := Nat.mod_eq_of_lt (by have := Nat.two_pow_pos len; omega)
  simp only [bits, BitVec.toNat_and, BitVec.toNat_ushiftRight, BitVec.toNat_ofNat, h3, Nat.and_two_pow_sub_one_eq_mod,
    Nat.shiftRight_eq_div_pow]

theorem maskOfCode_eq_none {c : Byte} : maskOfCode c = none ↔ c.toNat = 0 ∨ 3 < c.toNat := by
  revert c
  decide

theorem enforcementOfCode_eq_none {c : Byte} : enforcementOfCode c = none ↔ 2 < c.toNat := by
  revert c
  decide

theorem policyOfCode_eq_none {c : Byte} : policyOfCode c = none ↔ 2 < c.toNat := by
  revert c
  decide

theorem mapOfByte_eq_none {c : Byte} : mapOfByte c = none ↔ 2 < c.toNat := by
  revert c
  decide

theorem lineOfByte_eq_none {c : Byte} : lineOfByte c = none ↔ 128 ≤ c.toNat := by
  revert c
  decide

theorem mapM_eq_none {α β : Type} {f : α → Option β} {l : List α} : l.mapM f = none ↔ ∃ a ∈ l, f a = none := by
  induction l with
  | nil => simp
  | cons a l ih => cases h : f a <;> cases h2 : l.mapM f <;> simp_all

theorem length_of_mapM {α β : Type} {f : α → Option β} {l : List α} {m : List β} (h : l.mapM f = some m) :
    m.length = l.length := by
  induction l generalizing m with
  | nil => cases h; rfl
  | cons a l ih =>
      cases h1 : f a <;> cases h2 : l.mapM f <;> simp_all
      cases h
      simp [ih]

/-- A vector of optional values is absent exactly when one of them is. -/
theorem allPresent_eq_none {α : Type} {n : Nat} {f : Fin n → Option α} : allPresent n f = none ↔ ∃ i, f i = none := by
  unfold allPresent
  cases h : (List.finRange n).mapM f with
  | none => simpa using mapM_eq_none.1 h
  | some m =>
      have hn : ∀ i, f i ≠ none := fun i hi => by simp [mapM_eq_none.2 ⟨i, List.mem_finRange i, hi⟩] at h
      simp [length_of_mapM h, hn]

end Sys2Proof.Machine
end

