-- ==== Sys2Proof/Laws/PerInstr.lean ====
section
/-! SUPPORT. A family of lemmas, one for each command: the frame of a request that can arrive has at most 255 bytes
(R165). -/

namespace Sys2Proof.Laws

/-- The frame of a command that can arrive has at most 255 bytes (R165). -/
def FrameFits.Statement (c : Instr) : Prop := c.wellFormed = true → (requestFrame c).length ≤ 255

theorem FrameFits.powerOnReset (svcs : Bool) : FrameFits.Statement (.powerOnReset svcs) := length_requestFrame _

theorem FrameFits.resetNAsserted : FrameFits.Statement .resetNAsserted := length_requestFrame _

theorem FrameFits.resetNReleased (svcs : Bool) : FrameFits.Statement (.resetNReleased svcs) := length_requestFrame _

theorem FrameFits.portPoll (port : PortId) (clocked : Nat) : FrameFits.Statement (.portPoll port clocked) := length_requestFrame _

theorem FrameFits.badLengthWindow (port : PortId) (clocked : List Byte) :
    FrameFits.Statement (.badLengthWindow port clocked) := length_requestFrame _

theorem FrameFits.unknownRequest (port : PortId) (code tag : Byte) (params : List Byte) :
    FrameFits.Statement (.unknownRequest port code tag params) := length_requestFrame _

theorem FrameFits.readStatus (port : PortId) (tag : Byte) : FrameFits.Statement (.readStatus port tag) := length_requestFrame _

theorem FrameFits.readService (port : PortId) (tag svc : Byte) : FrameFits.Statement (.readService port tag svc) := length_requestFrame _

theorem FrameFits.readConformanceTable (port : PortId) (tag svc view : Byte) :
    FrameFits.Statement (.readConformanceTable port tag svc view) := length_requestFrame _

theorem FrameFits.readConformanceRaw (port : PortId) (tag svc : Byte) :
    FrameFits.Statement (.readConformanceRaw port tag svc) := length_requestFrame _

theorem FrameFits.readPoints (port : PortId) (tag first : Byte) : FrameFits.Statement (.readPoints port tag first) := length_requestFrame _

theorem FrameFits.readInterlocks (port : PortId) (tag : Byte) : FrameFits.Statement (.readInterlocks port tag) := length_requestFrame _

theorem FrameFits.readEvents (port : PortId) (tag : Byte) : FrameFits.Statement (.readEvents port tag) := length_requestFrame _

theorem FrameFits.readClock (port : PortId) (tag : Byte) : FrameFits.Statement (.readClock port tag) := length_requestFrame _

theorem FrameFits.readPattern (port : PortId) (tag svc slot : Byte) :
    FrameFits.Statement (.readPattern port tag svc slot) := length_requestFrame _

theorem FrameFits.readSchedule (port : PortId) (tag svc : Byte) : FrameFits.Statement (.readSchedule port tag svc) := length_requestFrame _

theorem FrameFits.requestPattern (port : PortId) (tag svc slot : Byte) :
    FrameFits.Statement (.requestPattern port tag svc slot) := length_requestFrame _

theorem FrameFits.abortChange (port : PortId) (tag svc : Byte) : FrameFits.Statement (.abortChange port tag svc) := length_requestFrame _

theorem FrameFits.resumeService (port : PortId) (tag svc : Byte) :
    FrameFits.Statement (.resumeService port tag svc) := length_requestFrame _

theorem FrameFits.setMode (port : PortId) (tag svc mode : Byte) : FrameFits.Statement (.setMode port tag svc mode) := length_requestFrame _

theorem FrameFits.ackInterlock (port : PortId) (tag index : Byte) :
    FrameFits.Statement (.ackInterlock port tag index) := length_requestFrame _

theorem FrameFits.writePattern (port : PortId) (tag svc slot : Byte) (body : Option PatternFrame) :
    FrameFits.Statement (.writePattern port tag svc slot body) := length_requestFrame _

theorem FrameFits.tunePattern (port : PortId) (tag svc slot cutback window persistence : Byte) (items : List TuneItem) :
    FrameFits.Statement (.tunePattern port tag svc slot cutback window persistence items) := length_requestFrame _

theorem FrameFits.writeScheduleRow (port : PortId) (tag svc month : Byte) (entries : List (Half × Byte)) :
    FrameFits.Statement (.writeScheduleRow port tag svc month entries) := length_requestFrame _

theorem FrameFits.writePoint (port : PortId) (tag index : Byte) (body : Option PointFrame) :
    FrameFits.Statement (.writePoint port tag index body) := length_requestFrame _

theorem FrameFits.writeSiteBusRecord (port : PortId) (tag base speed : Byte) (debounce : Half) :
    FrameFits.Statement (.writeSiteBusRecord port tag base speed debounce) := length_requestFrame _

theorem FrameFits.writeInterlock (port : PortId) (tag index : Byte) (body : InterlockFrame) (pin : Bool) :
    FrameFits.Statement (.writeInterlock port tag index body pin) := length_requestFrame _

theorem FrameFits.writeServiceSettings (port : PortId) (tag svc : Byte) (body : SettingsFrame) :
    FrameFits.Statement (.writeServiceSettings port tag svc body) := length_requestFrame _

theorem FrameFits.writeRoute (port : PortId) (tag kind ports : Byte) :
    FrameFits.Statement (.writeRoute port tag kind ports) := length_requestFrame _

theorem FrameFits.setClock (port : PortId) (tag timebase : Byte) (date : Option DateFrame) :
    FrameFits.Statement (.setClock port tag timebase date) := length_requestFrame _

theorem FrameFits.saveConfig (port : PortId) (tag : Byte) : FrameFits.Statement (.saveConfig port tag) := length_requestFrame _

theorem FrameFits.resetPart (port : PortId) (tag : Byte) (svcs : Bool) :
    FrameFits.Statement (.resetPart port tag svcs) := length_requestFrame _

theorem FrameFits.expanderInitTransactionComplete (word : Half) :
    FrameFits.Statement (.expanderInitTransactionComplete word) := length_requestFrame _

theorem FrameFits.confirmationReadDue (exp : Fin 8) : FrameFits.Statement (.confirmationReadDue exp) := length_requestFrame _

theorem FrameFits.confirmationReadComplete (word : Half) : FrameFits.Statement (.confirmationReadComplete word) := length_requestFrame _

theorem FrameFits.scanReadComplete (word : Half) : FrameFits.Statement (.scanReadComplete word) := length_requestFrame _

theorem FrameFits.fastScanTimer : FrameFits.Statement .fastScanTimer := length_requestFrame _

theorem FrameFits.periodicScanTimer : FrameFits.Statement .periodicScanTimer := length_requestFrame _

theorem FrameFits.expAttnAsserted : FrameFits.Statement .expAttnAsserted := length_requestFrame _

theorem FrameFits.retryReadComplete (word : Half) : FrameFits.Statement (.retryReadComplete word) := length_requestFrame _

theorem FrameFits.restoreTransactionComplete (word : Half) :
    FrameFits.Statement (.restoreTransactionComplete word) := length_requestFrame _

theorem FrameFits.driveWriteComplete : FrameFits.Statement .driveWriteComplete := length_requestFrame _

theorem FrameFits.expanderTransactionFailed : FrameFits.Statement .expanderTransactionFailed := length_requestFrame _

theorem FrameFits.busTransactionTimeout : FrameFits.Statement .busTransactionTimeout := length_requestFrame _

theorem FrameFits.eepromPageReadComplete (data : Vector Byte 32) :
    FrameFits.Statement (.eepromPageReadComplete data) := length_requestFrame _

theorem FrameFits.eepromPageWriteComplete : FrameFits.Statement .eepromPageWriteComplete := length_requestFrame _

theorem FrameFits.eepromPollInterval : FrameFits.Statement .eepromPollInterval := length_requestFrame _

theorem FrameFits.eepromAckPollEnd (acked : Bool) : FrameFits.Statement (.eepromAckPollEnd acked) := length_requestFrame _

theorem FrameFits.eepromPollTimeout : FrameFits.Statement .eepromPollTimeout := length_requestFrame _

theorem FrameFits.eepromTransactionFailed : FrameFits.Statement .eepromTransactionFailed := length_requestFrame _

theorem FrameFits.interlockFirstSample (ilk : Fin 4) (high : Bool) :
    FrameFits.Statement (.interlockFirstSample ilk high) := length_requestFrame _

theorem FrameFits.interlockLevelAccepted (ilk : Fin 4) (high : Bool) :
    FrameFits.Statement (.interlockLevelAccepted ilk high) := length_requestFrame _

theorem FrameFits.settleDelayExpiry (svc : Svc) : FrameFits.Statement (.settleDelayExpiry svc) := length_requestFrame _

theorem FrameFits.rfdownAccepted (svc : Svc) : FrameFits.Statement (.rfdownAccepted svc) := length_requestFrame _

theorem FrameFits.muteTimeout (svc : Svc) : FrameFits.Statement (.muteTimeout svc) := length_requestFrame _

theorem FrameFits.transitLimitExpiry (point : Fin 32) : FrameFits.Statement (.transitLimitExpiry point) := length_requestFrame _

theorem FrameFits.monitorByteReceived (svc : Svc) (byte : Byte) :
    FrameFits.Statement (.monitorByteReceived svc byte) := length_requestFrame _

theorem FrameFits.monitorFramingError (svc : Svc) : FrameFits.Statement (.monitorFramingError svc) := length_requestFrame _

theorem FrameFits.gapTimerExpiry (svc : Svc) : FrameFits.Statement (.gapTimerExpiry svc) := length_requestFrame _

theorem FrameFits.stalenessTimerExpiry (svc : Svc) : FrameFits.Statement (.stalenessTimerExpiry svc) := length_requestFrame _

theorem FrameFits.verifyWindowExpiry (svc : Svc) : FrameFits.Statement (.verifyWindowExpiry svc) := length_requestFrame _

theorem FrameFits.secondDividerStep : FrameFits.Statement .secondDividerStep := length_requestFrame _

theorem FrameFits.tickInEdgeAccepted : FrameFits.Statement .tickInEdgeAccepted := length_requestFrame _

theorem FrameFits.tickLossTimeout : FrameFits.Statement .tickLossTimeout := length_requestFrame _

theorem FrameFits.expAttnNegated : FrameFits.Statement .expAttnNegated := length_requestFrame _

theorem FrameFits.rfdownNegated (svc : Svc) : FrameFits.Statement (.rfdownNegated svc) := length_requestFrame _

theorem FrameFits.directionOutputRewriteComplete : FrameFits.Statement .directionOutputRewriteComplete := length_requestFrame _

theorem FrameFits.interlockPinLevelChange (ilk : Fin 4) (high : Bool) :
    FrameFits.Statement (.interlockPinLevelChange ilk high) := length_requestFrame _

end Sys2Proof.Laws
end

