-- ==== Sys2Proof/Laws/Post.lean ====
section
/-! SUPPORT. What each named update leaves of the records that are read one by one; and everything a posted event can do:
only the ports change. -/

namespace Sys2Proof.Machine

/-! ## setSvc -/

@[simp] theorem State.setSvc_table (s : State) (y : Svc) (v : Service) (x : Svc) :
    (s.setSvc y v).table x = s.table x := rfl
@[simp] theorem State.setSvc_receiver (s : State) (y : Svc) (v : Service) (x : Svc) :
    (s.setSvc y v).receiver x = s.receiver x := rfl
@[simp] theorem State.setSvc_point (s : State) (y : Svc) (v : Service) (i : Fin 32) :
    (s.setSvc y v).point i = s.point i := rfl
@[simp] theorem State.setSvc_exp (s : State) (y : Svc) (v : Service) (e : Fin 8) :
    (s.setSvc y v).exp e = s.exp e := rfl
@[simp] theorem State.setSvc_interlock (s : State) (y : Svc) (v : Service) (n : Fin 4) :
    (s.setSvc y v).interlock n = s.interlock n := rfl
@[simp] theorem State.setSvc_pointRec (s : State) (y : Svc) (v : Service) (i : Fin 32) :
    (s.setSvc y v).pointRec i = s.pointRec i := rfl
@[simp] theorem State.setSvc_interlockRec (s : State) (y : Svc) (v : Service) (n : Fin 4) :
    (s.setSvc y v).interlockRec n = s.interlockRec n := rfl
@[simp] theorem State.setSvc_settings (s : State) (y : Svc) (v : Service) (x : Svc) :
    (s.setSvc y v).settings x = s.settings x := rfl
@[simp] theorem State.setSvc_pattern (s : State) (y : Svc) (v : Service) (x : Svc) (n : Fin 4) :
    (s.setSvc y v).pattern x n = s.pattern x n := rfl

/-! ## setTable -/

@[simp] theorem State.setTable_svc (s : State) (y : Svc) (v : ConfTable) (x : Svc) :
    (s.setTable y v).svc x = s.svc x := rfl
@[simp] theorem State.setTable_receiver (s : State) (y : Svc) (v : ConfTable) (x : Svc) :
    (s.setTable y v).receiver x = s.receiver x := rfl
@[simp] theorem State.setTable_point (s : State) (y : Svc) (v : ConfTable) (i : Fin 32) :
    (s.setTable y v).point i = s.point i := rfl
@[simp] theorem State.setTable_exp (s : State) (y : Svc) (v : ConfTable) (e : Fin 8) :
    (s.setTable y v).exp e = s.exp e := rfl
@[simp] theorem State.setTable_interlock (s : State) (y : Svc) (v : ConfTable) (n : Fin 4) :
    (s.setTable y v).interlock n = s.interlock n := rfl
@[simp] theorem State.setTable_pointRec (s : State) (y : Svc) (v : ConfTable) (i : Fin 32) :
    (s.setTable y v).pointRec i = s.pointRec i := rfl
@[simp] theorem State.setTable_interlockRec (s : State) (y : Svc) (v : ConfTable) (n : Fin 4) :
    (s.setTable y v).interlockRec n = s.interlockRec n := rfl
@[simp] theorem State.setTable_settings (s : State) (y : Svc) (v : ConfTable) (x : Svc) :
    (s.setTable y v).settings x = s.settings x := rfl
@[simp] theorem State.setTable_pattern (s : State) (y : Svc) (v : ConfTable) (x : Svc) (n : Fin 4) :
    (s.setTable y v).pattern x n = s.pattern x n := rfl

/-! ## setReceiver -/

@[simp] theorem State.setReceiver_svc (s : State) (y : Svc) (v : Receiver) (x : Svc) :
    (s.setReceiver y v).svc x = s.svc x := rfl
@[simp] theorem State.setReceiver_table (s : State) (y : Svc) (v : Receiver) (x : Svc) :
    (s.setReceiver y v).table x = s.table x := rfl
@[simp] theorem State.setReceiver_point (s : State) (y : Svc) (v : Receiver) (i : Fin 32) :
    (s.setReceiver y v).point i = s.point i := rfl
@[simp] theorem State.setReceiver_exp (s : State) (y : Svc) (v : Receiver) (e : Fin 8) :
    (s.setReceiver y v).exp e = s.exp e := rfl
@[simp] theorem State.setReceiver_interlock (s : State) (y : Svc) (v : Receiver) (n : Fin 4) :
    (s.setReceiver y v).interlock n = s.interlock n := rfl
@[simp] theorem State.setReceiver_pointRec (s : State) (y : Svc) (v : Receiver) (i : Fin 32) :
    (s.setReceiver y v).pointRec i = s.pointRec i := rfl
@[simp] theorem State.setReceiver_interlockRec (s : State) (y : Svc) (v : Receiver) (n : Fin 4) :
    (s.setReceiver y v).interlockRec n = s.interlockRec n := rfl
@[simp] theorem State.setReceiver_settings (s : State) (y : Svc) (v : Receiver) (x : Svc) :
    (s.setReceiver y v).settings x = s.settings x := rfl
@[simp] theorem State.setReceiver_pattern (s : State) (y : Svc) (v : Receiver) (x : Svc) (n : Fin 4) :
    (s.setReceiver y v).pattern x n = s.pattern x n := rfl

/-! ## setPoint -/

@[simp] theorem State.setPoint_svc (s : State) (k : Fin 32) (v : PointState) (x : Svc) :
    (s.setPoint k v).svc x = s.svc x := rfl
@[simp] theorem State.setPoint_table (s : State) (k : Fin 32) (v : PointState) (x : Svc) :
    (s.setPoint k v).table x = s.table x := rfl
@[simp] theorem State.setPoint_receiver (s : State) (k : Fin 32) (v : PointState) (x : Svc) :
    (s.setPoint k v).receiver x = s.receiver x := rfl
@[simp] theorem State.setPoint_exp (s : State) (k : Fin 32) (v : PointState) (e : Fin 8) :
    (s.setPoint k v).exp e = s.exp e := rfl
@[simp] theorem State.setPoint_interlock (s : State) (k : Fin 32) (v : PointState) (n : Fin 4) :
    (s.setPoint k v).interlock n = s.interlock n := rfl
@[simp] theorem State.setPoint_pointRec (s : State) (k : Fin 32) (v : PointState) (i : Fin 32) :
    (s.setPoint k v).pointRec i = s.pointRec i := rfl
@[simp] theorem State.setPoint_interlockRec (s : State) (k : Fin 32) (v : PointState) (n : Fin 4) :
    (s.setPoint k v).interlockRec n = s.interlockRec n := rfl
@[simp] theorem State.setPoint_settings (s : State) (k : Fin 32) (v : PointState) (x : Svc) :
    (s.setPoint k v).settings x = s.settings x := rfl
@[simp] theorem State.setPoint_pattern (s : State) (k : Fin 32) (v : PointState) (x : Svc) (n : Fin 4) :
    (s.setPoint k v).pattern x n = s.pattern x n := rfl

/-! ## setExp -/

@[simp] theorem State.setExp_svc (s : State) (k : Fin 8) (v : Expander) (x : Svc) :
    (s.setExp k v).svc x = s.svc x := rfl
@[simp] theorem State.setExp_table (s : State) (k : Fin 8) (v : Expander) (x : Svc) :
    (s.setExp k v).table x = s.table x := rfl
@[simp] theorem State.setExp_receiver (s : State) (k : Fin 8) (v : Expander) (x : Svc) :
    (s.setExp k v).receiver x = s.receiver x := rfl
@[simp] theorem State.setExp_point (s : State) (k : Fin 8) (v : Expander) (i : Fin 32) :
    (s.setExp k v).point i = s.point i := rfl
@[simp] theorem State.setExp_interlock (s : State) (k : Fin 8) (v : Expander) (n : Fin 4) :
    (s.setExp k v).interlock n = s.interlock n := rfl
@[simp] theorem State.setExp_pointRec (s : State) (k : Fin 8) (v : Expander) (i : Fin 32) :
    (s.setExp k v).pointRec i = s.pointRec i := rfl
@[simp] theorem State.setExp_interlockRec (s : State) (k : Fin 8) (v : Expander) (n : Fin 4) :
    (s.setExp k v).interlockRec n = s.interlockRec n := rfl
@[simp] theorem State.setExp_settings (s : State) (k : Fin 8) (v : Expander) (x : Svc) :
    (s.setExp k v).settings x = s.settings x := rfl
@[simp] theorem State.setExp_pattern (s : State) (k : Fin 8) (v : Expander) (x : Svc) (n : Fin 4) :
    (s.setExp k v).pattern x n = s.pattern x n := rfl

/-! ## setInterlock -/

@[simp] theorem State.setInterlock_svc (s : State) (k : Fin 4) (v : Interlock) (x : Svc) :
    (s.setInterlock k v).svc x = s.svc x := rfl
@[simp] theorem State.setInterlock_table (s : State) (k : Fin 4) (v : Interlock) (x : Svc) :
    (s.setInterlock k v).table x = s.table x := rfl
@[simp] theorem State.setInterlock_receiver (s : State) (k : Fin 4) (v : Interlock) (x : Svc) :
    (s.setInterlock k v).receiver x = s.receiver x := rfl
@[simp] theorem State.setInterlock_point (s : State) (k : Fin 4) (v : Interlock) (i : Fin 32) :
    (s.setInterlock k v).point i = s.point i := rfl
@[simp] theorem State.setInterlock_exp (s : State) (k : Fin 4) (v : Interlock) (e : Fin 8) :
    (s.setInterlock k v).exp e = s.exp e := rfl
@[simp] theorem State.setInterlock_pointRec (s : State) (k : Fin 4) (v : Interlock) (i : Fin 32) :
    (s.setInterlock k v).pointRec i = s.pointRec i := rfl
@[simp] theorem State.setInterlock_interlockRec (s : State) (k : Fin 4) (v : Interlock) (n : Fin 4) :
    (s.setInterlock k v).interlockRec n = s.interlockRec n := rfl
@[simp] theorem State.setInterlock_settings (s : State) (k : Fin 4) (v : Interlock) (x : Svc) :
    (s.setInterlock k v).settings x = s.settings x := rfl
@[simp] theorem State.setInterlock_pattern (s : State) (k : Fin 4) (v : Interlock) (x : Svc) (n : Fin 4) :
    (s.setInterlock k v).pattern x n = s.pattern x n := rfl

/-! ## setBus -/

@[simp] theorem State.setBus_svc (s : State) (b : Bus) (x : Svc) :
    (s.setBus b).svc x = s.svc x := rfl
@[simp] theorem State.setBus_table (s : State) (b : Bus) (x : Svc) :
    (s.setBus b).table x = s.table x := rfl
@[simp] theorem State.setBus_receiver (s : State) (b : Bus) (x : Svc) :
    (s.setBus b).receiver x = s.receiver x := rfl
@[simp] theorem State.setBus_point (s : State) (b : Bus) (i : Fin 32) :
    (s.setBus b).point i = s.point i := rfl
@[simp] theorem State.setBus_exp (s : State) (b : Bus) (e : Fin 8) :
    (s.setBus b).exp e = s.exp e := rfl
@[simp] theorem State.setBus_interlock (s : State) (b : Bus) (n : Fin 4) :
    (s.setBus b).interlock n = s.interlock n := rfl
@[simp] theorem State.setBus_pointRec (s : State) (b : Bus) (i : Fin 32) :
    (s.setBus b).pointRec i = s.pointRec i := rfl
@[simp] theorem State.setBus_interlockRec (s : State) (b : Bus) (n : Fin 4) :
    (s.setBus b).interlockRec n = s.interlockRec n := rfl
@[simp] theorem State.setBus_settings (s : State) (b : Bus) (x : Svc) :
    (s.setBus b).settings x = s.settings x := rfl
@[simp] theorem State.setBus_pattern (s : State) (b : Bus) (x : Svc) (n : Fin 4) :
    (s.setBus b).pattern x n = s.pattern x n := rfl

/-! ## setJob -/

@[simp] theorem State.setJob_svc (s : State) (j : Job) (x : Svc) :
    (s.setJob j).svc x = s.svc x := rfl
@[simp] theorem State.setJob_table (s : State) (j : Job) (x : Svc) :
    (s.setJob j).table x = s.table x := rfl
@[simp] theorem State.setJob_receiver (s : State) (j : Job) (x : Svc) :
    (s.setJob j).receiver x = s.receiver x := rfl
@[simp] theorem State.setJob_point (s : State) (j : Job) (i : Fin 32) :
    (s.setJob j).point i = s.point i := rfl
@[simp] theorem State.setJob_exp (s : State) (j : Job) (e : Fin 8) :
    (s.setJob j).exp e = s.exp e := rfl
@[simp] theorem State.setJob_interlock (s : State) (j : Job) (n : Fin 4) :
    (s.setJob j).interlock n = s.interlock n := rfl
@[simp] theorem State.setJob_pointRec (s : State) (j : Job) (i : Fin 32) :
    (s.setJob j).pointRec i = s.pointRec i := rfl
@[simp] theorem State.setJob_interlockRec (s : State) (j : Job) (n : Fin 4) :
    (s.setJob j).interlockRec n = s.interlockRec n := rfl
@[simp] theorem State.setJob_settings (s : State) (j : Job) (x : Svc) :
    (s.setJob j).settings x = s.settings x := rfl
@[simp] theorem State.setJob_pattern (s : State) (j : Job) (x : Svc) (n : Fin 4) :
    (s.setJob j).pattern x n = s.pattern x n := rfl

/-! ## setPort -/

@[simp] theorem State.setPort_svc (s : State) (i : PortId) (p : Port) (x : Svc) :
    (s.setPort i p).svc x = s.svc x := rfl
@[simp] theorem State.setPort_table (s : State) (i : PortId) (p : Port) (x : Svc) :
    (s.setPort i p).table x = s.table x := rfl
@[simp] theorem State.setPort_receiver (s : State) (i : PortId) (p : Port) (x : Svc) :
    (s.setPort i p).receiver x = s.receiver x := rfl
@[simp] theorem State.setPort_point (s : State) (i : PortId) (p : Port) (n : Fin 32) :
    (s.setPort i p).point n = s.point n := rfl
@[simp] theorem State.setPort_exp (s : State) (i : PortId) (p : Port) (e : Fin 8) :
    (s.setPort i p).exp e = s.exp e := rfl
@[simp] theorem State.setPort_interlock (s : State) (i : PortId) (p : Port) (n : Fin 4) :
    (s.setPort i p).interlock n = s.interlock n := rfl
@[simp] theorem State.setPort_pointRec (s : State) (i : PortId) (p : Port) (n : Fin 32) :
    (s.setPort i p).pointRec n = s.pointRec n := rfl
@[simp] theorem State.setPort_interlockRec (s : State) (i : PortId) (p : Port) (n : Fin 4) :
    (s.setPort i p).interlockRec n = s.interlockRec n := rfl
@[simp] theorem State.setPort_settings (s : State) (i : PortId) (p : Port) (x : Svc) :
    (s.setPort i p).settings x = s.settings x := rfl
@[simp] theorem State.setPort_pattern (s : State) (i : PortId) (p : Port) (x : Svc) (n : Fin 4) :
    (s.setPort i p).pattern x n = s.pattern x n := rfl

/-! ## reach -/

@[simp] theorem State.reach_svc (s : State) (t : Nat) (x : Svc) :
    (s.reach t).svc x = s.svc x := rfl
@[simp] theorem State.reach_table (s : State) (t : Nat) (x : Svc) :
    (s.reach t).table x = s.table x := rfl
@[simp] theorem State.reach_receiver (s : State) (t : Nat) (x : Svc) :
    (s.reach t).receiver x = s.receiver x := rfl
@[simp] theorem State.reach_point (s : State) (t : Nat) (i : Fin 32) :
    (s.reach t).point i = s.point i := rfl
@[simp] theorem State.reach_exp (s : State) (t : Nat) (e : Fin 8) :
    (s.reach t).exp e = s.exp e := rfl
@[simp] theorem State.reach_interlock (s : State) (t : Nat) (n : Fin 4) :
    (s.reach t).interlock n = s.interlock n := rfl
@[simp] theorem State.reach_pointRec (s : State) (t : Nat) (i : Fin 32) :
    (s.reach t).pointRec i = s.pointRec i := rfl
@[simp] theorem State.reach_interlockRec (s : State) (t : Nat) (n : Fin 4) :
    (s.reach t).interlockRec n = s.interlockRec n := rfl
@[simp] theorem State.reach_settings (s : State) (t : Nat) (x : Svc) :
    (s.reach t).settings x = s.settings x := rfl
@[simp] theorem State.reach_pattern (s : State) (t : Nat) (x : Svc) (n : Fin 4) :
    (s.reach t).pattern x n = s.pattern x n := rfl

/-! ## mapPoints -/

@[simp] theorem State.mapPoints_svc (s : State) (f : Fin 32 → PointState → PointState) (x : Svc) :
    (s.mapPoints f).svc x = s.svc x := by
  simp only [State.svc, State.mapPoints]
@[simp] theorem State.mapPoints_table (s : State) (f : Fin 32 → PointState → PointState) (x : Svc) :
    (s.mapPoints f).table x = s.table x := by
  simp only [State.table, State.mapPoints]
@[simp] theorem State.mapPoints_receiver (s : State) (f : Fin 32 → PointState → PointState) (x : Svc) :
    (s.mapPoints f).receiver x = s.receiver x := by
  simp only [State.receiver, State.mapPoints]
@[simp] theorem State.mapPoints_exp (s : State) (f : Fin 32 → PointState → PointState) (e : Fin 8) :
    (s.mapPoints f).exp e = s.exp e := by
  simp only [State.exp, State.mapPoints]
@[simp] theorem State.mapPoints_interlock (s : State) (f : Fin 32 → PointState → PointState) (n : Fin 4) :
    (s.mapPoints f).interlock n = s.interlock n := by
  simp only [State.interlock, State.mapPoints]
@[simp] theorem State.mapPoints_pointRec (s : State) (f : Fin 32 → PointState → PointState) (i : Fin 32) :
    (s.mapPoints f).pointRec i = s.pointRec i := by
  simp only [State.pointRec, State.mapPoints]
@[simp] theorem State.mapPoints_interlockRec (s : State) (f : Fin 32 → PointState → PointState) (n : Fin 4) :
    (s.mapPoints f).interlockRec n = s.interlockRec n := by
  simp only [State.interlockRec, State.mapPoints]
@[simp] theorem State.mapPoints_settings (s : State) (f : Fin 32 → PointState → PointState) (x : Svc) :
    (s.mapPoints f).settings x = s.settings x := by
  simp only [State.settings, State.mapPoints]
@[simp] theorem State.mapPoints_pattern (s : State) (f : Fin 32 → PointState → PointState) (x : Svc) (n : Fin 4) :
    (s.mapPoints f).pattern x n = s.pattern x n := by
  simp only [State.pattern, State.mapPoints]

/-! ## post -/

/-- Everything a posted event can do (R174): the ports change and nothing else. -/
theorem post_eq (e : Event) (s : State) : post e s = { s with ports := (post e s).ports } := by
  unfold post; split <;> rfl

theorem post_of_resetHeld {s : State} (h : s.phase = .resetHeld) (e : Event) : post e s = s := by simp [post, h]

@[simp] theorem post_now (e : Event) (s : State) : (post e s).now = s.now := by rw [post_eq]
@[simp] theorem post_phase (e : Event) (s : State) : (post e s).phase = s.phase := by rw [post_eq]
@[simp] theorem post_coldLoaded (e : Event) (s : State) : (post e s).coldLoaded = s.coldLoaded := by rw [post_eq]
@[simp] theorem post_imageValid (e : Event) (s : State) : (post e s).imageValid = s.imageValid := by rw [post_eq]
@[simp] theorem post_twoServices (e : Event) (s : State) : (post e s).twoServices = s.twoServices := by rw [post_eq]
@[simp] theorem post_cfg (e : Event) (s : State) : (post e s).cfg = s.cfg := by rw [post_eq]
@[simp] theorem post_dirty (e : Event) (s : State) : (post e s).dirty = s.dirty := by rw [post_eq]
@[simp] theorem post_store (e : Event) (s : State) : (post e s).store = s.store := by rw [post_eq]
@[simp] theorem post_bus (e : Event) (s : State) : (post e s).bus = s.bus := by rw [post_eq]
@[simp] theorem post_exps (e : Event) (s : State) : (post e s).exps = s.exps := by rw [post_eq]
@[simp] theorem post_points (e : Event) (s : State) : (post e s).points = s.points := by rw [post_eq]
@[simp] theorem post_expAttn (e : Event) (s : State) : (post e s).expAttn = s.expAttn := by rw [post_eq]
@[simp] theorem post_interlocks (e : Event) (s : State) : (post e s).interlocks = s.interlocks := by rw [post_eq]
@[simp] theorem post_rfdown (e : Event) (s : State) : (post e s).rfdown = s.rfdown := by rw [post_eq]
@[simp] theorem post_svcs (e : Event) (s : State) : (post e s).svcs = s.svcs := by rw [post_eq]
@[simp] theorem post_arrival (e : Event) (s : State) : (post e s).arrival = s.arrival := by rw [post_eq]
@[simp] theorem post_job (e : Event) (s : State) : (post e s).job = s.job := by rw [post_eq]
@[simp] theorem post_receivers (e : Event) (s : State) : (post e s).receivers = s.receivers := by rw [post_eq]
@[simp] theorem post_tables (e : Event) (s : State) : (post e s).tables = s.tables := by rw [post_eq]
@[simp] theorem post_clock (e : Event) (s : State) : (post e s).clock = s.clock := by rw [post_eq]
@[simp] theorem post_pending (e : Event) (s : State) : (post e s).pending = s.pending := by rw [post_eq]
@[simp] theorem post_svc_at (e : Event) (s : State) (x : Svc) : (post e s).svc x = s.svc x := by
  rw [post_eq]
  generalize (post e s).ports = p
  rfl
@[simp] theorem post_table_at (e : Event) (s : State) (x : Svc) : (post e s).table x = s.table x := by
  rw [post_eq]
  generalize (post e s).ports = p
  rfl
@[simp] theorem post_receiver_at (e : Event) (s : State) (x : Svc) : (post e s).receiver x = s.receiver x := by
  rw [post_eq]
  generalize (post e s).ports = p
  rfl
@[simp] theorem post_point_at (e : Event) (s : State) (i : Fin 32) : (post e s).point i = s.point i := by
  rw [post_eq]
  generalize (post e s).ports = p
  rfl
@[simp] theorem post_exp_at (e : Event) (s : State) (k : Fin 8) : (post e s).exp k = s.exp k := by
  rw [post_eq]
  generalize (post e s).ports = p
  rfl
@[simp] theorem post_interlock_at (e : Event) (s : State) (n : Fin 4) : (post e s).interlock n = s.interlock n := by
  rw [post_eq]
  generalize (post e s).ports = p
  rfl
@[simp] theorem post_pointRec_at (e : Event) (s : State) (i : Fin 32) : (post e s).pointRec i = s.pointRec i := by
  rw [post_eq]
  generalize (post e s).ports = p
  rfl
@[simp] theorem post_interlockRec_at (e : Event) (s : State) (n : Fin 4) : (post e s).interlockRec n = s.interlockRec n := by
  rw [post_eq]
  generalize (post e s).ports = p
  rfl
@[simp] theorem post_settings_at (e : Event) (s : State) (x : Svc) : (post e s).settings x = s.settings x := by
  rw [post_eq]
  generalize (post e s).ports = p
  rfl
@[simp] theorem post_pattern_at (e : Event) (s : State) (x : Svc) (n : Fin 4) : (post e s).pattern x n = s.pattern x n := by
  rw [post_eq]
  generalize (post e s).ports = p
  rfl

/-! ## What the part judges, after an event is posted -/

@[simp] theorem present_post (e : Event) (s : State) (x : Svc) : present (post e s) x = present s x := by rw [post_eq]; generalize (post e s).ports = p; rfl
@[simp] theorem presentSvcs_post (e : Event) (s : State) : presentSvcs (post e s) = presentSvcs s := by rw [post_eq]; generalize (post e s).ports = p; rfl
@[simp] theorem loadEnded_post (e : Event) (s : State) : loadEnded (post e s) = loadEnded s := by rw [post_eq]; generalize (post e s).ports = p; rfl
@[simp] theorem saveInFlight_post (e : Event) (s : State) : saveInFlight (post e s) = saveInFlight s := by rw [post_eq]; generalize (post e s).ports = p; rfl
@[simp] theorem siteLive_post (e : Event) (s : State) : siteLive (post e s) = siteLive s := by rw [post_eq]; generalize (post e s).ports = p; rfl
@[simp] theorem anyPending_post (e : Event) (s : State) : anyPending (post e s) = anyPending s := by rw [post_eq]; generalize (post e s).ports = p; rfl
@[simp] theorem inForcePattern_post (e : Event) (s : State) (x : Svc) : inForcePattern (post e s) x = inForcePattern s x := by rw [post_eq]; generalize (post e s).ports = p; rfl
@[simp] theorem interlockHolds_post (e : Event) (s : State) (x : Svc) : interlockHolds (post e s) x = interlockHolds s x := by rw [post_eq]; generalize (post e s).ports = p; rfl
@[simp] theorem entryCheck_post (e : Event) (s : State) (x : Svc) : entryCheck (post e s) x = entryCheck s x := by rw [post_eq]; generalize (post e s).ports = p; rfl
@[simp] theorem permitLevel_post (e : Event) (s : State) (x : Svc) : permitLevel (post e s) x = permitLevel s x := by rw [post_eq]; generalize (post e s).ports = p; rfl
@[simp] theorem hotHas_post (e : Event) (s : State) (i : Fin 32) (x : Svc) : hotHas (post e s) i x = hotHas s i x := by rw [post_eq]; generalize (post e s).ports = p; rfl
@[simp] theorem effectiveOpen_post (e : Event) (s : State) (k : Fin 4) : effectiveOpen (post e s) k = effectiveOpen s k := by rw [post_eq]; generalize (post e s).ports = p; rfl
@[simp] theorem interlockCovers_post (e : Event) (s : State) (k : Fin 4) (x : Svc) : interlockCovers (post e s) k x = interlockCovers s k x := by rw [post_eq]; generalize (post e s).ports = p; rfl
@[simp] theorem patternValid_post (e : Event) (s : State) (p : Pattern) : patternValid (post e s) p = patternValid s p := by rw [post_eq]; generalize (post e s).ports = p; rfl
@[simp] theorem inForceOnAir_post (e : Event) (s : State) (x : Svc) (k : Fin 4) : inForceOnAir (post e s) x k = inForceOnAir s x k := by rw [post_eq]; generalize (post e s).ports = p; rfl
@[simp] theorem driveOnBus_post (e : Event) (s : State) : driveOnBus (post e s) = driveOnBus s := by rw [post_eq]; generalize (post e s).ports = p; rfl
@[simp] theorem blocking_post (e : Event) (s : State) (j : Job) : blocking (post e s) j = blocking s j := by rw [post_eq]; generalize (post e s).ports = p; rfl

end Sys2Proof.Machine
end

