-- ==== Sys2Proof/Laws/Transitions.lean ====
section
/-! SUPPORT. What the operations that move a service's outputs can do, what the end of a transaction does to the bus, and
what the write of a site map asks of the bus: each said once. -/

namespace Sys2Proof.Machine

/-! ## Outputs -/

/-- Both outputs are at their levels, and the edges that moved them stand in their order; all else is unchanged (R55). -/
theorem moveOutputs_eq (permit cut : Bool) (v : Service) :
    moveOutputs permit cut v = { v with permit := permit, cut := cut, edges := edgesTo v permit cut } := by
  obtain ⟨_, _, _, _, _, _, _, _, _, p, c, _⟩ := v
  cases permit <;> cases cut <;> cases p <;> cases c <;> rfl

/-- Where neither output moves the record of edges stays (log entry 26). -/
theorem edgesTo_self (v : Service) : edgesTo v v.permit v.cut = v.edges := by simp [edgesTo]

/-- Everything a new computation of a service's outputs can do: its four output fields, and CEILING_CHANGED. -/
theorem outputs_eq (x : Svc) (s : State) :
    outputs x s =
      (let permit := permitLevel s x
       let ceiling := ceilingUnder s x permit
       let cut := cutLevel s x permit ceiling
       let t := s.setSvc x
         { s.svc x with permit := permit, ceiling := ceiling, cut := cut, edges := edgesTo (s.svc x) permit cut }
       if ceiling = (s.svc x).ceiling then t else post (.ceilingChanged x (s.svc x).inForce ceiling) t) := by
  simp only [outputs, moveOutputs_eq]

/-! ## The end of a transaction -/

@[simp] theorem State.setScanner_recovered (s : State) (c : Scanner) :
    (s.setScanner c).bus.recovered = s.bus.recovered := rfl

/-- The bus freed is `busFreed`, and the bus recovered is `busRecovered` (R6). -/
theorem freeBus_eq (s : State) : freeBus s = busFreed s := rfl
theorem recoverBus_eq (s : State) : recoverBus s = busRecovered s := rfl

/-- A transaction that is the one on the bus ends: freed, its result taken unless discarded, and what follows. -/
theorem endWith_some {free : State → State} {isIt : Current → Bool} {result : Current → State → State} {s : State}
    {c : Current} (hc : s.bus.current = some c) (h : isIt c = true) :
    endWith free isIt result s =
      finish (afterTxn c (if c.discarded then free s else result c (free s))) := by
  simp only [endWith, hc, h, if_true]

/-- The end of a transaction that is not the one on the bus leaves the state (log entry 1). -/
theorem endWith_other {free : State → State} {isIt : Current → Bool} {result : Current → State → State} {s : State}
    (h : ∀ c, s.bus.current = some c → isIt c = false) : endWith free isIt result s = s := by
  unfold endWith
  split
  · next c hc => simp [h c hc]
  · rfl

/-! ## The write of a site map -/

/-- An expander out of use loses its lines, its waiting transactions and the result of its own on the bus (R4, R5). -/
theorem toUnused_eq (e : Fin 8) (s : State) :
    toUnused e s =
      { s with
        exps := s.exps.set e { health := .unused, lines := noLines, confirm := .none }
        bus := { s.bus with
          queue := s.bus.queue.filter fun q => !(claimExp q == e)
          current := s.bus.current.map fun c =>
            { c with discarded := c.discarded || (txnExp c.txn == some e) } } } := by
  obtain ⟨_, _, _, _, _, _, _, _, ⟨_, _, cur, _, _⟩, _⟩ := s
  cases cur with
  | none => rfl
  | some c =>
    simp only [toUnused, dropClaims, discardCurrent, State.setExp, State.setBus, Option.map_some]
    split
    · next h => simp [h]
    · next h => simp [h]

/-- A newly used expander is INIT and its three steps wait at the end of the queue (R4, R8). -/
theorem queueInit_eq (r4 : Bool) (e : Fin 8) (s : State) :
    queueInit r4 e s =
      { s with
        exps := s.exps.set e { s.exp e with health := .init }
        bus := { s.bus with
          queue := s.bus.queue ++ [.seq .initDirection e r4, .seq .initReadback e r4, .seq .initInput e r4] } } := rfl

/-- The rewrites of an expander wait at the end of the queue, and nothing else changes (R4). -/
theorem queueRewrite_eq (e : Fin 8) (s : State) :
    queueRewrite e s =
      { s with
        bus := { s.bus with queue := s.bus.queue ++ [.seq .rewriteDirection e true, .seq .rewriteOutput e true] } } := rfl

/-- A failed initialisation: EXPANDER_FAULT, the expander FAULTED, its waiting steps gone, and its points without a
commanded position where the output readback had not completed (R8, R15). -/
theorem failInit_eq (c : Current) (e : Fin 8) (s : State) :
    failInit c e s =
      post (.expanderFault e (failedOpOf c))
        (dropClaims (isStepOf (· == .confirmInput) e)
          ((dropClaims (isStepOf isInitStep e)
            (if readbackOutstanding c e s then forgetCommands e s else s)).setExp e
              { health := .faulted, lines := noLines, confirm := .none })) := rfl

/-! ## Disturbed points -/

/-- A changed point is disturbed when it is not under drive and does not agree (R14). -/
@[simp] theorem isDisturbed_iff (s : State) (i : Fin 32) :
    isDisturbed s i = true ↔ (s.point i).underDrive = false ∧ agrees (s.point i) = false := by
  simp [isDisturbed]

/-- A point is posted at step 6 of a failure exactly where it is driven from the expander, out of drive by then, and was not
posted at step 5 (R15). -/
theorem disturbDriven_eq (e : Fin 8) (posted : List (Fin 32)) (s : State) (i : Fin 32) :
    disturbDriven e posted s i =
      if drivenFrom s.cfg.points e i = true ∧ (s.point i).underDrive = false ∧ i ∉ posted then disturb i s else s := by
  simp [disturbDriven, and_assoc]

/-- A dropped request is gone with its place in the arrival order, and its record says so (R69). -/
theorem dropRequest_some {s : State} {x : Svc} {r : Request} (reason : DropReason) (h : (s.svc x).request = some r) :
    dropRequest x reason s = post (.requestDropped x r.target reason) (removeRequest x s) := by
  simp [dropRequest, h]

end Sys2Proof.Machine
end

