-- ==== Sys2Proof/Laws/Services.lean ====
section
/-! SUPPORT. What a service's move leaves alone beside the site (Laws/Site.lean): the bus and the switch points;
which points are an expander's; and what a write of the site map leaves alone on its bus side. -/

namespace Sys2Proof.Machine

/-! ## The bus and the points stay -/

@[simp] theorem outputs_bus (x : Svc) (s : State) : (outputs x s).bus = s.bus := by
  rw [outputs_eq]; dsimp only; split <;> simp
@[simp] theorem outputs_points (x : Svc) (s : State) : (outputs x s).points = s.points := by
  rw [outputs_eq]; dsimp only; split <;> simp

@[simp] theorem toHeld_bus (x : Svc) (c : HoldCause) (s : State) : (toHeld x c s).bus = s.bus := by
  simp [toHeld, closeWindow]
@[simp] theorem toHeld_points (x : Svc) (c : HoldCause) (s : State) : (toHeld x c s).points = s.points := by
  simp [toHeld, closeWindow]

@[simp] theorem enterVerifying_bus (x : Svc) (s : State) : (enterVerifying x s).bus = s.bus := by
  simp only [enterVerifying]; split <;> simp
@[simp] theorem enterVerifying_points (x : Svc) (s : State) : (enterVerifying x s).points = s.points := by
  simp only [enterVerifying]; split <;> simp

@[simp] theorem autoExit_bus (x : Svc) (s : State) : (autoExit x s).bus = s.bus := by
  simp only [autoExit]; split <;> simp
@[simp] theorem autoExit_points (x : Svc) (s : State) : (autoExit x s).points = s.points := by
  simp only [autoExit]; split <;> simp

@[simp] theorem autoExitAll_bus (s : State) : (autoExitAll s).bus = s.bus := by simp [autoExitAll]
@[simp] theorem autoExitAll_points (s : State) : (autoExitAll s).points = s.points := by simp [autoExitAll]

@[simp] theorem disturbService_bus (i : Fin 32) (x : Svc) (s : State) : (disturbService i x s).bus = s.bus := by
  unfold disturbService; dsimp only; split <;> split <;> simp
@[simp] theorem disturbService_points (i : Fin 32) (x : Svc) (s : State) :
    (disturbService i x s).points = s.points := by
  unfold disturbService; dsimp only; split <;> split <;> simp

@[simp] theorem judgePoint_bus (s : State) (i : Fin 32) : (judgePoint s i).bus = s.bus := by
  simp only [judgePoint, disturb]; split <;> simp
@[simp] theorem judgePoint_points (s : State) (i : Fin 32) : (judgePoint s i).points = s.points := by
  simp only [judgePoint, disturb]; split <;> simp

/-! ## The points of an expander -/

/-- A point is an expander's where a present record has one of its three lines on it. -/
theorem liesOn_iff (points : Vector (Option PointRec) 32) (e : Fin 8) (i : Fin 32) :
    liesOn points e i = true ↔
      ∃ r, points[i] = some r ∧ (r.drive.exp = e ∨ r.sense1.exp = e ∨ r.sense2.exp = e) := by
  unfold liesOn; cases points[i] <;> simp [recUses, or_assoc]

/-! ## The bus side of a write of the site map -/

/-- A step over the expanders that changes nothing but the expanders and the bus, taken for each in turn. -/
theorem foldl_exps_bus {f : State → Fin 8 → State}
    (hf : ∀ s e, f s e = { s with exps := (f s e).exps, bus := (f s e).bus }) (l : List (Fin 8)) (s : State) :
    l.foldl f s = { s with exps := (l.foldl f s).exps, bus := (l.foldl f s).bus } := by
  induction l generalizing s with
  | nil => rfl
  | cons e l ih => rw [List.foldl_cons, ih (f s e), hf s e]

theorem discardCurrent_eq (p : Txn → Bool) (s : State) :
    discardCurrent p s = { s with bus := (discardCurrent p s).bus } := by
  unfold discardCurrent; split
  · split <;> rfl
  · rfl

/-- A write of the site map changes nothing on the bus side but the expanders and the bus (R4, steps 2 to 4). -/
theorem followMap_eq (old : Vector (Option PointRec) 32) (s : State) :
    followMap old s = { s with exps := (followMap old s).exps, bus := (followMap old s).bus } := by
  have drop (s : State) (e : Fin 8) :
      dropUnused old s e = { s with exps := (dropUnused old s e).exps, bus := (dropUnused old s e).bus } := by
    unfold dropUnused; split
    · rw [toUnused, discardCurrent_eq]; rfl
    · rfl
  have start (s : State) (e : Fin 8) :
      startNewlyUsed old s e = { s with exps := (startNewlyUsed old s e).exps, bus := (startNewlyUsed old s e).bus } := by
    unfold startNewlyUsed; split <;> rfl
  have rewrite (s : State) (e : Fin 8) :
      rewriteChanged old s e = { s with exps := (rewriteChanged old s e).exps, bus := (rewriteChanged old s e).bus } := by
    unfold rewriteChanged; split <;> rfl
  simp only [followMap]
  rw [foldl_exps_bus rewrite, foldl_exps_bus start, foldl_exps_bus drop]

end Sys2Proof.Machine
end

