-- ==== Sys2Proof/Laws/Site.lean ====
section
/-! SUPPORT. What each operation that can follow a command within its event leaves alone: the configuration and the store,
the clock, the pins, the receivers, the expanders, every sensed state and the queue (`KeepsSite`). -/

namespace Sys2Proof.Machine

theorem KeepsSite.refl (s : State) : KeepsSite s s := by constructor <;> intros <;> rfl

theorem KeepsSite.trans {s t u : State} (h : KeepsSite s t) (k : KeepsSite t u) : KeepsSite s u where
  now := k.now.trans h.now
  coldLoaded := k.coldLoaded.trans h.coldLoaded
  imageValid := k.imageValid.trans h.imageValid
  twoServices := k.twoServices.trans h.twoServices
  cfg := k.cfg.trans h.cfg
  dirty := k.dirty.trans h.dirty
  store := k.store.trans h.store
  exps := k.exps.trans h.exps
  expAttn := k.expAttn.trans h.expAttn
  interlocks := k.interlocks.trans h.interlocks
  rfdown := k.rfdown.trans h.rfdown
  receivers := k.receivers.trans h.receivers
  clock := k.clock.trans h.clock
  pending := k.pending.trans h.pending
  sensed i := (k.sensed i).trans (h.sensed i)

/-- A fold of steps that each keep the site keeps it. -/
theorem KeepsSite.foldl {α : Type} {f : State → α → State} (hf : ∀ s a, KeepsSite s (f s a)) (l : List α) (s : State) :
    KeepsSite s (l.foldl f s) := by
  induction l generalizing s with
  | nil => exact .refl s
  | cons a l ih => exact (hf s a).trans (ih (f s a))

/-! ## Updates -/

theorem keepsSite_setSvc (s : State) (x : Svc) (v : Service) : KeepsSite s (s.setSvc x v) := by
  constructor <;> intros <;> rfl

theorem keepsSite_setTable (s : State) (x : Svc) (v : ConfTable) : KeepsSite s (s.setTable x v) := by
  constructor <;> intros <;> rfl

theorem keepsSite_setJob (s : State) (j : Job) : KeepsSite s (s.setJob j) := by constructor <;> intros <;> rfl

theorem keepsSite_noJob (s : State) : KeepsSite s { s with job := none } := by constructor <;> intros <;> rfl

theorem keepsSite_setBus (s : State) (b : Bus) : KeepsSite s (s.setBus b) := by constructor <;> intros <;> rfl

theorem keepsSite_setScanner (s : State) (c : Scanner) : KeepsSite s (s.setScanner c) := by
  constructor <;> intros <;> rfl

theorem keepsSite_phase (s : State) (p : Phase) : KeepsSite s { s with phase := p } := by constructor <;> intros <;> rfl

theorem keepsSite_arrival (s : State) (l : List Svc) : KeepsSite s { s with arrival := l } := by
  constructor <;> intros <;> rfl

theorem keepsSite_mapPoints (s : State) (f : Fin 32 → PointState → PointState) (h : ∀ i p, (f i p).sensed = p.sensed) :
    KeepsSite s (s.mapPoints f) := by
  constructor <;> intros <;> simp [h]

theorem keepsSite_post (e : Event) (s : State) : KeepsSite s (post e s) := by
  rw [post_eq]; constructor <;> intros <;> rfl

/-! ## Services -/

theorem keepsSite_outputs (x : Svc) (s : State) : KeepsSite s (outputs x s) := by
  simp only [outputs]
  split
  · exact keepsSite_setSvc _ _ _
  · exact (keepsSite_setSvc _ _ _).trans (keepsSite_post _ _)

theorem keepsSite_closeWindow (x : Svc) (s : State) : KeepsSite s (closeWindow x s) := keepsSite_setTable _ _ _

theorem keepsSite_toHeld (x : Svc) (c : HoldCause) (s : State) : KeepsSite s (toHeld x c s) :=
  (((keepsSite_setSvc _ _ _).trans (keepsSite_closeWindow _ _)).trans (keepsSite_post _ _)).trans (keepsSite_outputs _ _)

theorem keepsSite_enterVerifying (x : Svc) (s : State) : KeepsSite s (enterVerifying x s) := by
  unfold enterVerifying
  split
  · exact .refl s
  · exact ((keepsSite_setSvc _ _ _).trans (keepsSite_setTable _ _ _)).trans (keepsSite_outputs _ _)

theorem keepsSite_takeForJob (x : Svc) (st : SvcState) (s : State) : KeepsSite s (takeForJob x st s) :=
  ((keepsSite_setSvc _ _ _).trans (keepsSite_closeWindow _ _)).trans (keepsSite_outputs _ _)

theorem keepsSite_toUndetermined (x : Svc) (s : State) : KeepsSite s (toUndetermined x s) :=
  (keepsSite_setSvc _ _ _).trans (keepsSite_outputs _ _)

theorem keepsSite_throughEntryCheck (x : Svc) (s : State) : KeepsSite s (throughEntryCheck x s) := by
  unfold throughEntryCheck
  split
  · exact keepsSite_toUndetermined _ _
  · exact keepsSite_toHeld _ _ _
  · exact keepsSite_toHeld _ _ _
  · exact keepsSite_enterVerifying _ _

theorem keepsSite_autoExit (x : Svc) (s : State) : KeepsSite s (autoExit x s) := by
  unfold autoExit
  split
  · exact keepsSite_enterVerifying _ _
  · exact .refl s

theorem keepsSite_autoExitAll (s : State) : KeepsSite s (autoExitAll s) :=
  (keepsSite_autoExit _ _).trans (keepsSite_autoExit _ _)

theorem keepsSite_autoExitReading (x : Svc) (l : List (Fin 32)) (s : State) : KeepsSite s (autoExitReading x l s) := by
  unfold autoExitReading
  split
  · exact keepsSite_autoExit _ _
  · exact .refl s

theorem keepsSite_interlockHold (k : Fin 4) (x : Svc) (s : State) : KeepsSite s (interlockHold k x s) := by
  unfold interlockHold
  split
  · exact keepsSite_toHeld _ _ _
  · exact .refl s

theorem keepsSite_disturb (i : Fin 32) (s : State) : KeepsSite s (disturb i s) := by
  have one : ∀ x t, KeepsSite t (disturbService i x t) := by
    intro x t
    simp only [disturbService]
    split <;> split <;> first | exact keepsSite_toHeld _ _ _ | exact .refl t
  exact ((keepsSite_post _ _).trans (one _ _)).trans (one _ _)

theorem keepsSite_judgePoints (l : List (Fin 32)) (s : State) : KeepsSite s (judgePoints l s) :=
  .foldl (fun t i => by
    unfold judgePoint
    split
    · exact keepsSite_disturb _ _
    · exact .refl t) l s

/-! ## Requests -/

theorem keepsSite_removeRequest (x : Svc) (s : State) : KeepsSite s (removeRequest x s) :=
  (keepsSite_setSvc _ _ _).trans (keepsSite_arrival _ _)

theorem keepsSite_storeRequest (x : Svc) (r : Request) (s : State) : KeepsSite s (storeRequest x r s) := by
  unfold storeRequest
  split
  · exact ((((keepsSite_post _ _).trans (keepsSite_removeRequest _ _)).trans (keepsSite_setSvc _ _ _)).trans
      (keepsSite_arrival _ _)).trans (keepsSite_post _ _)
  · exact ((keepsSite_setSvc _ _ _).trans (keepsSite_arrival _ _)).trans (keepsSite_post _ _)

theorem keepsSite_dropRequest (x : Svc) (d : DropReason) (s : State) : KeepsSite s (dropRequest x d s) := by
  unfold dropRequest
  split
  · exact (keepsSite_removeRequest _ _).trans (keepsSite_post _ _)
  · exact .refl s

theorem keepsSite_handOver (a b : Option (Fin 4 × FiredDetail)) (s : State) : KeepsSite s (handOver a b s) := by
  have posted : ∀ x f t, KeepsSite t (postFired x f t) := by
    intro x f t
    unfold postFired
    split
    · exact keepsSite_post _ _
    · exact .refl t
  have stored : ∀ x f t, KeepsSite t (storeFired x f t) := by
    intro x f t
    unfold storeFired
    split
    · split
      · exact .refl t
      · exact keepsSite_storeRequest _ _ _
    · exact .refl t
  exact (((posted _ _ _).trans (posted _ _ _)).trans (stored _ _ _)).trans (stored _ _ _)

/-! ## The Transfer Engine -/

theorem keepsSite_postEach (xs : List Svc) (f : Svc → Event) (s : State) : KeepsSite s (postEach xs f s) :=
  .foldl (fun t _ => keepsSite_post _ t) xs s

theorem keepsSite_clearMarks (s : State) : KeepsSite s (clearMarks s) := keepsSite_mapPoints _ _ fun _ _ => rfl

theorem keepsSite_withdrawWrites (s : State) : KeepsSite s (withdrawWrites s) := keepsSite_setBus _ _

theorem keepsSite_requestWrites (ts : List (Fin 32 × Pos)) (s : State) : KeepsSite s (requestWrites ts s) := by
  simp only [requestWrites, markPoints]
  exact (keepsSite_setBus _ _).trans (keepsSite_mapPoints _ _ fun _ _ => rfl)

theorem keepsSite_releaseAll (j : Job) (s : State) : KeepsSite s (releaseAll j s) :=
  ((KeepsSite.foldl (fun t x => keepsSite_throughEntryCheck x t) (mutedSvcs j) s).trans (keepsSite_clearMarks _)).trans
    (keepsSite_noJob _)

theorem keepsSite_succeed (j : Job) (s : State) : KeepsSite s (succeed j s) :=
  (KeepsSite.foldl (fun _ _ => (keepsSite_setSvc _ _ _).trans (keepsSite_post _ _)) j.changing s).trans
    (keepsSite_releaseAll _ _)

theorem keepsSite_cancelJob (j : Job) (d : DropReason) (s : State) : KeepsSite s (cancelJob j d s) :=
  (KeepsSite.foldl (fun _ _ => keepsSite_post _ _) j.changing s).trans (keepsSite_releaseAll _ _)

theorem keepsSite_rollbackDone (j : Job) (s : State) : KeepsSite s (rollbackDone j s) :=
  (keepsSite_postEach _ _ _).trans (keepsSite_releaseAll _ _)

theorem keepsSite_runRollbackStage (j : Job) (k : Fin 4) (s : State) : KeepsSite s (runRollbackStage j k s) :=
  (keepsSite_setJob _ _).trans (keepsSite_requestWrites _ _)

theorem keepsSite_rollbackNext (j : Job) (n : Nat) (q : Bool) (s : State) : KeepsSite s (rollbackNext j n q s) := by
  unfold rollbackNext
  split
  · exact keepsSite_rollbackDone _ _
  · split
    · dsimp only
      split
      · exact keepsSite_setJob _ _
      · exact (keepsSite_setJob _ _).trans (keepsSite_postEach _ _ _)
    · exact keepsSite_runRollbackStage _ _ _

theorem keepsSite_startRollback (j : Job) (c : RollbackCause) (q : Bool) (s : State) :
    KeepsSite s (startRollback j c q s) := by
  have h : KeepsSite s (clearMarks (withdrawWrites s)) := (keepsSite_withdrawWrites _).trans (keepsSite_clearMarks _)
  simp only [startRollback]
  split
  · exact h.trans (keepsSite_setJob _ _)
  · exact (h.trans (keepsSite_setJob _ _)).trans (keepsSite_rollbackNext _ _ _ _)

theorem keepsSite_transferFault (j : Job) (i : Fin 32) (r : FaultReason) (s : State) :
    KeepsSite s (transferFault j i r s) :=
  (keepsSite_postEach _ _ _).trans (keepsSite_startRollback _ _ _ _)

theorem keepsSite_rollbackFailed (j : Job) (i : Fin 32) (r : FaultReason) (s : State) :
    KeepsSite s (rollbackFailed j i r s) := by
  have own : ∀ t, KeepsSite t (disownWrite t) := by
    intro t
    unfold disownWrite
    split
    · split
      · exact keepsSite_setBus _ _
      · exact .refl t
    · exact .refl t
  have failed : ∀ t x, KeepsSite t (failService j x t) := by
    intro t x
    unfold failService
    split
    · exact (keepsSite_setSvc _ _ _).trans (keepsSite_toUndetermined _ _)
    · exact keepsSite_toHeld _ _ _
  exact (((((keepsSite_withdrawWrites _).trans (own _)).trans (keepsSite_postEach _ _ _)).trans
    (KeepsSite.foldl failed _ _)).trans (keepsSite_clearMarks _)).trans (keepsSite_noJob _)

theorem keepsSite_beginStage (j : Job) (k : Fin 4) (s : State) : KeepsSite s (beginStage j k s) := by
  unfold beginStage
  split
  · exact (keepsSite_setJob _ _).trans (keepsSite_postEach _ _ _)
  · split
    · exact (keepsSite_setJob _ _).trans (keepsSite_transferFault _ _ _ _)
    · exact (keepsSite_setJob _ _).trans (keepsSite_requestWrites _ _)

theorem keepsSite_testStage (j : Job) (s : State) : KeepsSite s (testStage j s) := by
  unfold testStage
  split
  · exact .refl s
  · split
    · dsimp only
      split
      · exact ((keepsSite_setJob _ _).trans (keepsSite_clearMarks _)).trans (keepsSite_beginStage _ _ _)
      · exact ((keepsSite_setJob _ _).trans (keepsSite_clearMarks _)).trans (keepsSite_succeed _ _)
    · exact .refl s

theorem keepsSite_testRollback (j : Job) (s : State) : KeepsSite s (testRollback j s) := by
  unfold testRollback
  split
  · exact .refl s
  · split
    · exact ((keepsSite_setJob _ _).trans (keepsSite_clearMarks _)).trans (keepsSite_rollbackNext _ _ _ _)
    · exact .refl s

theorem keepsSite_testSettled (j : Job) (s : State) : KeepsSite s (testSettled j s) := by
  unfold testSettled
  split
  · split
    · exact keepsSite_succeed _ _
    · exact keepsSite_beginStage _ _ _
  · exact .refl s

theorem keepsSite_startJob (cs : List Changing) (s : State) : KeepsSite s (startJob cs s) := by
  have first : KeepsSite s
      (cs.foldl (fun t c => post (.changeStarted c.svc c.target (formedJob s cs).moves.length) t)
        ((cs.foldl (fun t c => removeRequest c.svc t) s).setJob (formedJob s cs))) :=
    ((KeepsSite.foldl (fun _ _ => keepsSite_removeRequest _ _) cs s).trans (keepsSite_setJob _ _)).trans
      (KeepsSite.foldl (fun _ _ => keepsSite_post _ _) cs _)
  have taken : ∀ t, KeepsSite t ((mutedSvcs (formedJob s cs)).foldl (takeMuted (formedJob s cs)) t) := fun t =>
    KeepsSite.foldl (fun _ _ => keepsSite_takeForJob _ _ _) _ t
  simp only [startJob]
  split
  · exact ((first.trans (keepsSite_post _ _)).trans (taken _)).trans (keepsSite_testSettled _ _)
  · exact (first.trans (taken _)).trans (keepsSite_testSettled _ _)

theorem keepsSite_answerNotSent (ts : List (Fin 32 × Pos)) (s : State) : KeepsSite s (answerNotSent ts s) := by
  unfold answerNotSent
  split
  · exact .refl s
  · split
    · exact keepsSite_transferFault _ _ _ _
    · exact keepsSite_rollbackFailed _ _ _ _
    · exact .refl s

/-! ## Formation -/

theorem keepsSite_formSingle (x : Svc) (r : Request) (s : State) : KeepsSite s (formSingle x r s) := by
  unfold formSingle
  split
  · exact keepsSite_startJob _ _
  · exact keepsSite_dropRequest _ _ _

theorem keepsSite_formPair (x : Svc) (r q : Request) (s : State) : KeepsSite s (formPair x r q s) := by
  unfold formPair
  split
  · split <;> exact keepsSite_startJob _ _
  · exact keepsSite_formSingle _ _ _

theorem keepsSite_formationPass (s : State) : KeepsSite s (formationPass s) := by
  unfold formationPass
  split
  · exact .refl s
  · split
    · exact keepsSite_removeRequest _ _
    · split
      · exact keepsSite_dropRequest _ _ _
      · split
        · exact keepsSite_formSingle _ _ _
        · split
          · exact (keepsSite_dropRequest _ _ _).trans (keepsSite_formSingle _ _ _)
          · exact keepsSite_formPair _ _ _ _

/-! ## The bus -/

theorem keepsSite_occupy (t : Txn) (op : BusOp) (a : Nat) (s : State) : KeepsSite s (occupy t op a s) :=
  keepsSite_setBus _ _

theorem keepsSite_grantDrive (e : Fin 8) (ts : List (Fin 32 × Pos)) (s : State) : KeepsSite s (grantDrive e ts s) := by
  have commanded : KeepsSite s (command ts s) := keepsSite_mapPoints s _ fun i p => by split <;> rfl
  simp only [grantDrive]
  split
  · exact keepsSite_answerNotSent _ _
  · exact commanded.trans (keepsSite_occupy _ _ _ _)

theorem keepsSite_grantClaim (c : Claim) (s : State) : KeepsSite s (grantClaim c s) := by
  cases c with
  | drive e ts => exact keepsSite_grantDrive e ts s
  | seq step e r4 => exact keepsSite_occupy _ _ _ _

theorem keepsSite_grantScan (i : ScanItem) (s : State) : KeepsSite s (grantScan i s) := by
  cases i <;> exact keepsSite_occupy _ _ _ _

theorem keepsSite_startPass (p : Bool) (s : State) : KeepsSite s (startPass p s) := keepsSite_setScanner _ _

theorem keepsSite_requestPass (p : Bool) (s : State) : KeepsSite s (requestPass p s) := by
  unfold requestPass
  split
  · exact keepsSite_setScanner _ _
  · exact keepsSite_startPass _ _

/-- A grant of the bus keeps the site. -/
theorem keepsSite_of_grantNext {s t : State} (h : grantNext s = some t) : KeepsSite s t := by
  unfold grantNext at h
  split at h
  · cases h
  · split at h
    · cases h; exact (keepsSite_setBus _ _).trans (keepsSite_grantClaim _ _)
    · split at h
      · cases h; exact (keepsSite_setScanner _ _).trans (keepsSite_grantScan _ _)
      · split at h
        · cases h; exact (keepsSite_setBus _ _).trans (keepsSite_occupy _ _ _ _)
        · cases h

theorem keepsSite_endPass (s : State) : KeepsSite s (endPass s) := by
  simp only [endPass]
  split
  · exact (keepsSite_setScanner _ _).trans (keepsSite_startPass _ _)
  · exact keepsSite_setScanner _ _

theorem keepsSite_startScanner (s : State) : KeepsSite s (startScanner s) := by
  simp only [startScanner]
  split
  · exact (keepsSite_setScanner _ _).trans (keepsSite_requestPass _ _)
  · exact keepsSite_setScanner _ _

/-! ## Adoption -/

theorem keepsSite_adoptService (s : State) (x : Svc) : KeepsSite s (adoptService s x) := by
  have adopted : ∀ k d, KeepsSite s (adopt x k d s) := fun k d =>
    ((keepsSite_setSvc _ _ _).trans (keepsSite_post _ _)).trans (keepsSite_throughEntryCheck _ _)
  unfold adoptService
  split
  · exact keepsSite_post _ _
  · exact adopted _ _
  · split
    · exact adopted _ _
    · exact keepsSite_post _ _

theorem keepsSite_adoptAll (s : State) : KeepsSite s (adoptAll s) :=
  ((KeepsSite.foldl keepsSite_adoptService (presentSvcs s) s).trans (keepsSite_phase _ _)).trans (keepsSite_handOver _ _ _)

/-! ## The end of an event -/

/-- Each thing that follows in an event keeps the site. -/
theorem keepsSite_of_advance {s t : State} (h : advance s = some t) : KeepsSite s t := by
  unfold advance at h
  split at h
  · cases h; exact keepsSite_adoptAll s
  · split at h
    · cases h; exact keepsSite_startScanner s
    · split at h
      · cases h; exact keepsSite_endPass s
      · split at h
        · cases h; exact keepsSite_formationPass s
        · exact keepsSite_of_grantNext h

/-! ## The end of an event, thing by thing (log entry 7) -/

theorem settleFor_of_advance {s t : State} (h : advance s = some t) (n : Nat) : settleFor (n + 1) s = settleFor n t := by
  simp [settleFor, h]

theorem settleFor_of_none {s : State} (h : advance s = none) (n : Nat) : settleFor n s = s := by
  cases n <;> simp [settleFor, h]

theorem settleFor_add (m n : Nat) (s : State) : settleFor (m + n) s = settleFor n (settleFor m s) := by
  induction m generalizing s with
  | zero => simp [settleFor]
  | succ m ih =>
      rw [Nat.succ_add]
      cases h : advance s with
      | none => simp [settleFor_of_none h]
      | some t => rw [settleFor_of_advance h, settleFor_of_advance h, ih]

end Sys2Proof.Machine
end

