-- ==== Sys2Proof/Tests/Slice0.lean ====
section
/-! SUPPORT. Tests of the model: the commands `wellFormed` refuses; windows written out byte by byte from 11.1; the worked
figures of the reference; and, for each statement with hypotheses, states and operands that meet them. Expected values are
the reference's tables or hand calculation from its rules. -/

namespace Sys2Proof.Tests

open Sys2Proof.Machine

/-! ## A small site

One point, SP31, driven from expander 7 line 15 and sensed on its lines 13 and 14, at position 1; interlock 3 over service A,
CLOSED; slots A0 and A3 list the point at 1 and at 2, A2 and B2 list nothing, B0 lists the point at 2. -/

def rec31 : PointRec := ⟨⟨7, 15⟩, ⟨7, 13⟩, ⟨7, 14⟩, .a, 3, 500⟩

def tower1 : TowerEntry := ⟨1000, -300, 50, 20, .withdraw, .cutback⟩

def patternAt (pos : Option Pos) : Pattern :=
  { label := Vector.replicate 8 0x41, power := 1000, cutback := 50, refTower := 0, window := 10, persistence := 1,
    policy := .revert, towers := (Vector.replicate 12 none).set 1 (some tower1), map := (Vector.replicate 32 none).set 31 pos }

def ilk3 : InterlockSettings := ⟨.a, true, true, true⟩

def siteCfg : ConfigRam :=
  { ConfigRam.blank with
    points := (Vector.replicate 32 none).set 31 (some rec31)
    interlocks := (Vector.replicate 4 none).set 3 (some ilk3)
    patterns :=
      ⟨#v[some (patternAt (some .one)), none, some (patternAt none), some (patternAt (some .two))],
        #v[some (patternAt (some .two)), none, some (patternAt none), none]⟩
    rows := ⟨(Vector.replicate 12 []).set 11 [⟨0, 0⟩, ⟨1439, 3⟩], Vector.replicate 12 []⟩ }

/-- The site running, nothing in force, both modes MANUAL, nothing in flight. -/
def quiet : State :=
  { State.reset with
    phase := .running
    coldLoaded := true
    store := .idle
    cfg := siteCfg
    bus := { queue := [], eeprom := none, current := none, recovered := [], scanner := Scanner.reset }
    exps := (Vector.replicate 8 Expander.reset).set 7
      { health := .ok, lines := (Vector.replicate 16 ⟨some true, none⟩).set 13 ⟨some false, none⟩, confirm := .done }
    points := (Vector.replicate 32 PointState.reset).set 31 ⟨some .one, .at1, false⟩
    interlocks := (Vector.replicate 4 Interlock.reset).set 3 ⟨.closed, some false, none⟩ }

/-- The state with service A's record replaced. -/
def withA (v : Service) (s : State) : State := { s with svcs := { s.svcs with a := v } }

/-- A service with a slot in force, in a state. -/
def inState (st : SvcState) (slot : Fin 4) : Service := { Service.reset .manual with state := st, inForce := some slot }

/-- Service A on the air with A0. -/
def airing : State := withA { inState .onAir 0 with permit := true, ceiling := 1000 } quiet

/-- Service A VERIFYING with A0, its window open to 10 s. -/
def verifying : State :=
  { withA { inState .verifying 0 with permit := true, ceiling := 500, cut := true, causes := ⟨true, false, false, false⟩ }
      quiet with
    tables := { quiet.tables with a := { ConfTable.reset with slot := some 0, window := some ⟨10, 10000⟩ } } }

def request (k : Fin 4) : Request := ⟨k, .portA, 7, false⟩

/-- The site with a transaction on the bus. -/
def onTheBus (txn : Txn) (op : BusOp) : State :=
  { quiet with bus := { quiet.bus with current := some ⟨txn, op, 0x37, .khz100, 0, false⟩ } }

def current (txn : Txn) (op : BusOp) : Current := ⟨txn, op, 0x37, .khz100, 0, false⟩

/-- A job that takes A to A3 over SP31, at stage 3. -/
def jobIn (phase : JobPhase) (driven : Bool) (timer : PointTimer) : Job :=
  { changing := [⟨.a, 3, .portA, false, false⟩], collateral := none, moves := [⟨31, some .one, .two, 3, driven, timer⟩],
    stage := some 3, phase := phase, rollbackCause := none, awaiting := false, settle := ⟨some .settled, none⟩ }

/-- The site with a job in progress. -/
def working (j : Job) : State := { withA (inState .changing 0) quiet with job := some j }

theorem takes_a : TakesWrite quiet .a 1 .a :=
  ⟨⟨by decide, by decide, by decide, by decide⟩, by decide⟩

theorem takes_site_b : TakesWrite quiet .site 2 .b :=
  ⟨⟨by decide, by decide, by decide, by decide⟩, by decide⟩

theorem site_takes : SiteTakes quiet := ⟨by decide, by decide⟩

theorem reads_b : ReadsService quiet 2 .b := ⟨by decide, by decide, by decide⟩

/-! ## Commands that cannot arrive -/

theorem test_wellFormed_refuses_a_window_that_decodes :
    (Instr.badLengthWindow .a [0x03, 0x01, 0x07]).wellFormed = false := by decide

theorem test_wellFormed_refuses_a_poll_as_bad_length : (Instr.badLengthWindow .a [0x00, 0x00]).wellFormed = false := by
  decide

theorem test_wellFormed_refuses_a_known_code : (Instr.unknownRequest .a 0x29 0 []).wellFormed = false := by decide

theorem test_wellFormed_refuses_a_long_unknown_request (params : List Byte) (h : params.length = 253) :
    (Instr.unknownRequest .a 0x30 0 params).wellFormed = false := by simp [Instr.wellFormed, h]

theorem test_wellFormed_refuses_the_raw_view_as_table : (Instr.readConformanceTable .a 0 1 1).wellFormed = false := by
  decide

def patternFrame (n : Nat) : PatternFrame :=
  { label := Vector.replicate 8 0x41, power := 1000, cutback := 50, refTower := 0, window := 10, persistence := 1,
    fallback := 0, towers := Vector.replicate 12 ⟨0, 0, 0, 0, 0⟩, pairs := List.replicate n (0, 1) }

theorem test_wellFormed_refuses_63_pairs : (Instr.writePattern .a 0 1 0 (some (patternFrame 63))).wellFormed = false := by
  decide

theorem test_wellFormed_refuses_36_items :
    (Instr.tunePattern .a 0 1 0 50 10 3 (List.replicate 36 ⟨1, 50, 20, 0, 0⟩)).wellFormed = false := by decide

theorem test_wellFormed_refuses_84_entries :
    (Instr.writeScheduleRow .a 0 1 1 (List.replicate 84 (0, 0))).wellFormed = false := by decide

theorem test_wellFormed_refuses_index_32_as_a_point : (Instr.writePoint .site 0 32 none).wellFormed = false := by decide

/-! ## Windows written out from 11.1 -/

theorem test_decode_reads :
    decodeWindow .a false [0x03, 0x01, 0x07] = .readStatus .a 7 ∧
      decodeWindow .a false [0x04, 0x02, 0x07, 0x01] = .readService .a 7 1 ∧
      decodeWindow .b false [0x05, 0x03, 0x07, 0x02, 0x00] = .readConformanceTable .b 7 2 0 ∧
      decodeWindow .b false [0x05, 0x03, 0x07, 0x02, 0x01] = .readConformanceRaw .b 7 2 ∧
      decodeWindow .site false [0x05, 0x08, 0x07, 0x01, 0x03] = .readPattern .site 7 1 3 := by decide

theorem test_decode_service_requests :
    decodeWindow .b false [0x05, 0x10, 0x09, 0x02, 0x02] = .requestPattern .b 9 2 2 ∧
      decodeWindow .a false [0x05, 0x13, 0x09, 0x01, 0x01] = .setMode .a 9 1 1 ∧
      decodeWindow .a false [0x04, 0x14, 0x09, 0x03] = .ackInterlock .a 9 3 := by decide

theorem test_decode_configuration_writes :
    decodeWindow .a false [0x06, 0x20, 0x01, 0x01, 0x03, 0x00] = .writePattern .a 1 1 3 none ∧
      decodeWindow .a false [0x09, 0x22, 0x01, 0x01, 0x0C, 0x01, 0x05, 0x9F, 0x03] =
        .writeScheduleRow .a 1 1 12 [(1439, 3)] ∧
      decodeWindow .site false [0x05, 0x23, 0x01, 0x1F, 0x00] = .writePoint .site 1 31 none ∧
      decodeWindow .site false [0x08, 0x23, 0x01, 0x20, 0x30, 0x01, 0x01, 0x10] = .writeSiteBusRecord .site 1 0x30 1 0x0110 ∧
      decodeWindow .site false [0x07, 0x23, 0x01, 0x20, 0x30, 0x01, 0x10] =
        .badLengthWindow .site [0x07, 0x23, 0x01, 0x20, 0x30, 0x01, 0x10] ∧
      decodeWindow .site false [0x05, 0x26, 0x01, 0x20, 0x07] = .writeRoute .site 1 32 7 ∧
      decodeWindow .site false [0x05, 0x27, 0x01, 0x01, 0x00] = .setClock .site 1 1 none := by decide

theorem test_decode_tune :
    decodeWindow .a false [0x10, 0x21, 0x01, 0x01, 0x00, 0x32, 0x0A, 0x03, 0x01, 0x0B, 0x00, 0x32, 0x00, 0x14, 0x02, 0x01] =
      .tunePattern .a 1 1 0 50 10 3 [⟨11, 50, 20, 2, 1⟩] := by decide

theorem test_decode_point :
    decodeWindow .site false
        [0x0F, 0x23, 0x01, 0x1F, 0x01, 0x07, 0x0F, 0x07, 0x0D, 0x07, 0x0E, 0x01, 0x03, 0x01, 0xF4] =
      .writePoint .site 1 31 (some ⟨7, 15, 7, 13, 7, 14, 1, 3, 500⟩) := by decide

theorem test_decode_windows_without_a_request :
    decodeWindow .a false [0x00, 0xFF, 0xFF] = .portPoll .a 3 ∧
      decodeWindow .a false [0x04, 0x01, 0x07] = .badLengthWindow .a [0x04, 0x01, 0x07] ∧
      decodeWindow .a false [0x02, 0x01] = .badLengthWindow .a [0x02, 0x01] ∧
      decodeWindow .a false [0x03, 0x30, 0x07] = .unknownRequest .a 0x30 0x07 [] ∧
      decodeWindow .site false [0x05, 0x27, 0x01, 0x01, 0x02] = .badLengthWindow .site [0x05, 0x27, 0x01, 0x01, 0x02] := by
  decide

theorem test_no_table_word_spells_a_command : decodeTableWord 8 0 = none ∧ decodeTableWord 16 0xFFFF = none := by decide

/-! ## Worked figures -/

theorem test_worked_ratios :
    measuredRatio 30400 41250 = 737 ∧ measuredRatio 1 2000 = 1 ∧ measuredRatio 65000 300 = 65535 ∧
      ratioSaturated 65000 300 = true ∧ measuredRatio 17500 41250 = 424 := by decide

theorem test_worked_ratio_errors :
    ratioError 737 720 = 24 ∧ ratioError 700 720 = -28 ∧ ratioError 2001 2000 = 1 ∧ ratioError 1999 2000 = -1 ∧
      ratioError 3000 500 = 999 ∧ ratioError 0 410 = -999 := by decide

theorem test_worked_phases :
    normalise (-1712 - 1735) = 153 ∧ phaseError 1785 (-1790) = -25 ∧ normalise 1800 = -1800 ∧
      normalise (-698 - 1735) = 1167 := by decide

theorem test_crc_of_nine_characters : crc16 [0x31, 0x32, 0x33, 0x34, 0x35, 0x36, 0x37, 0x38, 0x39] = 0x29B1 := by
  decide +kernel

theorem test_leap_day_and_year_end :
    nextSecond ⟨2004, 2, 28, 23, 59, 59⟩ = ⟨2004, 2, 29, 0, 0, 0⟩ ∧
      nextSecond ⟨2005, 2, 28, 23, 59, 59⟩ = ⟨2005, 3, 1, 0, 0, 0⟩ ∧
      nextSecond ⟨2009, 12, 31, 23, 59, 59⟩ = ⟨2010, 1, 1, 0, 0, 0⟩ := by decide

/-- R6: a word goes high byte first behind its selector; page 54 begins at byte 1728, 0x06C0 (R180). -/
theorem test_forms_on_the_bus :
    busForm ⟨.seq .initDirection 7 false, .writeDirection 0x8001, 0x37, .khz100, 0, false⟩ =
        [.start, .address 0x37 false, .send 0x02, .send 0x80, .send 0x01, .stop] ∧
      busForm ⟨.scan 7, .readInput, 0x37, .khz100, 0, false⟩ =
        [.start, .address 0x37 false, .send 0x00, .repeatedStart, .address 0x37 true, .receive 2, .stop] ∧
      busForm ⟨.eeprom, .pageRead 54, 0x57, .khz100, 0, false⟩ =
        [.start, .address 0x57 false, .send 0x06, .send 0xC0, .repeatedStart, .address 0x57 true, .receive 32, .stop] ∧
      busForm ⟨.eeprom, .ackPoll, 0x57, .khz100, 0, false⟩ = [.start, .address 0x57 false, .stop] := by decide

/-- R55: a rise with causes sets CUT_x before PERMIT_x; a fall takes PERMIT_x down before CUT_x. -/
theorem test_edges_in_their_order :
    (moveOutputs true true (Service.reset .manual)).edges = [.cut true, .permit true] ∧
      (moveOutputs false false { Service.reset .manual with permit := true, cut := true }).edges =
        [.permit false, .cut false] := by decide

/-! ## Witnesses: windows and requests -/

theorem test_witness_CommandsWithoutTheirCausePass :
    quiet.pending = [] ∧ dueCommand { quiet with now := 999 } = none ∧
      dueCommand { quiet with now := 1000 } = some .secondDividerStep ∧ quiet.bus.current = none ∧ quiet.store = .idle ∧
      quiet.bus.scanner.lastStart = none ∧ quiet.bus.scanner.periodicDue = none ∧ quiet.job = none ∧
      (quiet.table .b).window = none ∧ loadEnded State.reset = false ∧ quiet.interlockRec 0 = none := by decide

theorem test_witness_RequestFrameDecodesBack :
    (Instr.writePattern .site 0 2 3 (some (patternFrame 62))).wellFormed = true ∧
      requestFrame (.writePattern .site 0 2 3 (some (patternFrame 62))) ≠ [] ∧
      (Instr.writePoint .site 0 33 none).wellFormed = true := by decide

theorem test_witness_WindowsAreTakenOrAnswered :
    quiet.phase ≠ .resetHeld ∧ loadEnded quiet = true ∧ State.reset.phase = .loading ∧
      (warmReset quiet).phase = .resetHeld ∧ requestFrame (.readStatus .a 0) ≠ [] := by decide

theorem test_witness_RefusedRequestChangesNothing :
    loadEnded quiet = true ∧ requestFrame (.saveConfig .a 5) ≠ [] ∧
      ∃ t, exec (.saveConfig .a 5) quiet = .next t ∧ (t.ports.get .a).response = some [3, 6, 5] :=
  ⟨by decide, by decide, _, rfl, by decide⟩

/-- The site with a save in flight. -/
def saving (step : SaveStep) (page : Nat) : State := { quiet with store := .saving page [] step }

theorem test_witness_RequestsArePermitted :
    loadEnded quiet = true ∧ { quiet with twoServices := false }.twoServices = false ∧
      saveInFlight (saving .writing 0) = true ∧ Takes (saving .writing 0) .b 2 .b ∧
      Takes (saving .writing 0) .site 1 .a ∧ loadEnded (saving .writing 0) = true :=
  ⟨by decide, rfl, by decide, ⟨by decide, by decide, by decide, by decide⟩,
    ⟨by decide, by decide, by decide, by decide⟩, by decide⟩

theorem test_witness_ReadsAnswerAndChangeNothing :
    loadEnded quiet = true ∧ ReadsService quiet 2 .b ∧ loadEnded { quiet with twoServices := false } = true ∧
      { quiet with twoServices := false }.twoServices = false ∧ (3 : Byte) ≠ 1 ∧ (3 : Byte) ≠ 2 ∧
      32 ≤ (32 : Byte).toNat ∧ 4 ≤ (4 : Byte).toNat ∧ 2 ≤ (2 : Byte).toNat :=
  ⟨by decide, reads_b, by decide, rfl, by decide, by decide, by decide, by decide, by decide⟩

/-- The payloads' clauses: an empty slot, one whose points are present, one whose point is absent; a tower that carries
parameters, and the reference tower, which carries none. -/
theorem test_witness_payloads :
    (quiet.cfg.patterns.get .a)[1] = none ∧ (quiet.cfg.patterns.get .a)[0] = some (patternAt (some .one)) ∧
      (patternAt (some .one)).map[31] = some .one ∧ quiet.cfg.points[31] = some rec31 ∧
      ConfigRam.blank.points[31] = none ∧ (verifying.table .a).slot = some 0 ∧
      (patternAt (some .one)).towers[1] = some tower1 ∧ (patternAt (some .one)).refTower = 0 ∧
      (verifying.svc .a).inForce = some 0 := by decide

theorem test_witness_ReadsThatClearWhatTheyReport : ReadsService quiet 2 .b ∧ loadEnded quiet = true :=
  ⟨reads_b, by decide⟩

/-- A job with two changing services and the longest move list, and the last good frame at its longest. -/
def full : State :=
  { quiet with
    job := some
      { jobIn .muting false .off with
        changing := [⟨.a, 3, .portA, false, false⟩, ⟨.b, 2, .portB, false, false⟩]
        moves := List.replicate 32 ⟨31, some .one, .two, 3, false, .off⟩ }
    receivers := { quiet.receivers with a := { Receiver.reset with lastGood := some (List.replicate 12 ⟨500, 0⟩) } } }

theorem test_witness_ReadResponsesFit :
    (∃ j, full.job = some j ∧ j.changing.length = 2 ∧ j.moves.length = 32) ∧
      (∀ m : Fin 12, (full.cfg.rows.get .a)[m].length ≤ 4) ∧
      ∃ f, (full.receivers.get .a).lastGood = some f ∧ f.length = 12 :=
  ⟨⟨_, rfl, by decide, by decide⟩, by decide, _, rfl, by decide⟩

theorem test_witness_RequestPatternIsStored :
    (quiet.svc .a).request = none ∧
      (∃ o, ((withA { inState .onAir 0 with request := some (request 3) } quiet).svc .a).request = some o) ∧
      Takes quiet .a 1 .a ∧ (quiet.pattern .a 3).isSome = true ∧
      ¬((quiet.svc .a).inForce = some 3 ∧ ((quiet.svc .a).state = .verifying ∨ (quiet.svc .a).state = .onAir)) ∧
      4 ≤ (4 : Byte).toNat ∧ quiet.pattern .a 1 = none ∧ Takes airing .a 1 .a ∧
      (airing.pattern .a 0).isSome = true ∧ (airing.svc .a).inForce = some 0 ∧ (airing.svc .a).state = .onAir :=
  ⟨by decide, ⟨_, rfl⟩, takes_a.toTakes, by decide, by decide, by decide, by decide,
    ⟨by decide, by decide, by decide, by decide⟩, by decide, by decide, by decide⟩

theorem test_witness_AbortChangeActsByPhase (phase : JobPhase) :
    Takes quiet .a 1 .a ∧ quiet.job = none ∧ (quiet.svc .a).request = none ∧
      (∃ r, ((withA { inState .held 0 with request := some (request 3) } quiet).svc .a).request = some r) ∧
      Takes (working (jobIn phase false .off)) .a 1 .a ∧
      (working (jobIn phase false .off)).job = some (jobIn phase false .off) ∧
      isChanging (jobIn phase false .off) .a = true ∧ (jobIn phase false .off).phase = phase :=
  ⟨takes_a.toTakes, by decide, by decide, ⟨_, rfl⟩, ⟨rfl, by decide, by decide, rfl⟩, rfl, rfl, rfl⟩

/-- An abort with a drive write on the bus; with nothing driven; with SP31 to drive back, free and blocked. -/
theorem test_witness_abort_rolls_back :
    onBus (onTheBus (.drive 7 [(31, .two)] true) (.writeOutput 0x8000)) (.drive 7 [(31, .two)] true)
        (current (.drive 7 [(31, .two)] true) (.writeOutput 0x8000)) ∧
      driveOnBus quiet = false ∧ (∀ m ∈ (jobIn .transfer false .off).moves, m.driven = false) ∧
      (∀ m ∈ (jobIn .transfer true .off).moves, m.stage = 3 ∧ m.driven = true ∧ m.fromPos ≠ none) ∧
      blocking quiet (jobIn .transfer true .off) = none ∧
      blocking { quiet with interlocks := quiet.interlocks.set 3 ⟨.opened, some true, none⟩ } (jobIn .transfer true .off) =
        some 3 :=
  ⟨⟨rfl, rfl, rfl⟩, by decide, by decide, by decide, by decide, by decide⟩

theorem test_witness_ResumeAndModeRequests :
    Takes (withA (inState .held 0) quiet) .a 1 .a ∧ ((withA (inState .held 0) quiet).svc .a).state = .held ∧
      entryCheck (withA (inState .held 0) quiet) .a = .pass ∧ (quiet.svc .a).state ≠ .held ∧
      entryCheck (withA (inState .held 3) quiet) .a ≠ .pass ∧ (quiet.svc .a).mode = .manual ∧
      ((withA (Service.reset .auto) quiet).svc .a).mode = .auto ∧ (2 : Byte) ≠ 0 ∧ (2 : Byte) ≠ 1 :=
  ⟨⟨by decide, by decide, by decide, by decide⟩, by decide, by decide, by decide, by decide, by decide, by decide,
    by decide, by decide⟩

/-- The site with interlock 3 in a state. -/
def ilkIn (st : InterlockState) (accepted : Option Bool) (d : Option Debounce) : State :=
  { quiet with interlocks := quiet.interlocks.set 3 ⟨st, accepted, d⟩ }

theorem test_witness_AckInterlockClosesALatchedOne :
    loadEnded (ilkIn .latched (some false) none) = true ∧
      (ilkIn .latched (some false) none).interlockRec 3 = some ilk3 ∧
      (∀ x, portService .a = some x → maskHas ilk3.mask x = true ∧ present quiet x = true) ∧
      ((ilkIn .latched (some false) none).interlock 3).state = .latched ∧ (quiet.interlock 3).state ≠ .latched ∧
      portService .b = some .b ∧ maskHas ilk3.mask .b = false ∧ maskHas .ab .b = true ∧
      loadEnded { quiet with twoServices := false } = true ∧ 4 ≤ (4 : Byte).toNat ∧ quiet.interlockRec 2 = none := by
  refine ⟨by decide, by decide, ?_, by decide, by decide, by decide, by decide, by decide, by decide, by decide,
    by decide⟩
  intro x hx
  cases x
  · decide
  · exact absurd hx (by decide)

/-! ## Witnesses: configuration writes -/

theorem test_witness_WritePatternReplacesTheSlot :
    TakesWrite quiet .a 1 .a ∧ slotInUse quiet .a 3 = false ∧
      (∃ p, patternOfFrame (patternFrame 1) = some (p, false) ∧ patternValid quiet p = false) ∧
      (∃ p, patternOfFrame (patternFrame 0) = some (p, false) ∧ patternValid quiet p = true) ∧
      (∃ p, patternOfFrame { patternFrame 0 with window := 255 } = some (p, true)) ∧
      patternOfFrame { patternFrame 0 with power := 10001 } = none ∧
      TakesWrite airing .a 1 .a ∧ (airing.svc .a).inForce = some 0 ∧
      (∃ r, ((withA { inState .onAir 0 with request := some (request 3) } quiet).svc .a).request = some r ∧ r.target = 3) ∧
      ∃ j c, (working (jobIn .muting false .off)).job = some j ∧ j.changing.find? (fun c => c.svc == .a) = some c ∧
        c.target = 3 :=
  ⟨takes_a, by decide, ⟨_, rfl, by decide⟩, ⟨_, rfl, by decide⟩, ⟨_, rfl⟩, by decide,
    ⟨⟨by decide, by decide, by decide, by decide⟩, by decide⟩, by decide, ⟨_, rfl, rfl⟩, ⟨_, _, rfl, rfl, rfl⟩⟩

theorem test_witness_WrittenPatternHoldsTheFields :
    ∃ p, patternOfFrame { patternFrame 1 with window := 1, persistence := 16 } = some (p, true) ∧ p.window = 2 ∧
      p.persistence = 15 :=
  ⟨_, rfl, by decide, by decide⟩

/-- R34 at its bounds: a tower with an enforcement code of 3, a point listed twice, a label below 0x20. -/
theorem test_pattern_frames_refused :
    patternOfFrame { patternFrame 0 with towers := (patternFrame 0).towers.set 11 ⟨7, 1, 0, 1, 1⟩ } = none ∧
      patternOfFrame (patternFrame 2) = none ∧
      patternOfFrame { patternFrame 0 with label := (patternFrame 0).label.set 7 0x1F } = none ∧
      patternOfFrame { patternFrame 0 with pairs := [(32, 1)] } = none := by decide

theorem test_witness_TunePatternStoresTheTuning :
    TakesWrite quiet .a 1 .a ∧ (∃ p, quiet.pattern .a 3 = some p) ∧
      (∃ q, tunedPattern (patternAt (some .two)) 90 121 15 [⟨1, 500, 900, 2, 0⟩] = some (q, true)) ∧
      (∃ q, tunedPattern (patternAt (some .two)) 10 2 1 [] = some (q, false)) ∧ quiet.pattern .a 1 = none ∧
      tunedPattern (patternAt (some .two)) 91 2 1 [] = none ∧
      tunedPattern (patternAt (some .two)) 90 2 1 [⟨2, 50, 20, 0, 0⟩] = none ∧
      tunedPattern (patternAt (some .two)) 90 2 1 [⟨1, 50, 20, 0, 0⟩, ⟨1, 50, 20, 0, 0⟩] = none ∧ 4 ≤ (4 : Byte).toNat :=
  ⟨takes_a, ⟨_, rfl⟩, ⟨_, rfl⟩, ⟨_, rfl⟩, by decide, by decide, by decide, by decide, by decide⟩

theorem test_witness_RowAndRouteWritesReplace :
    TakesWrite quiet .a 1 .a ∧ rowSound [⟨0, 0⟩, ⟨1, 1⟩, ⟨1438, 2⟩, ⟨1439, 3⟩] ∧
      (¬ ∃ row : List RowEntry, rowSound row ∧
        [((1439 : Half), (0 : Byte)), (1439, 3)] = row.map fun e => (BitVec.ofNat 16 e.minute, BitVec.ofNat 8 e.slot.val)) ∧
      (13 : Byte).toNat ≥ 13 ∧ SiteTakes quiet ∧ (32 : Byte).toNat = (31 : Fin 32).val + 1 ∧
      (7 : Byte).toNat = portSetCode ⟨true, true, true⟩ ∧ 32 < (33 : Byte).toNat ∧ 7 < (8 : Byte).toNat := by
  refine ⟨takes_a, ⟨by decide, by decide, by decide⟩, ?_, by decide, site_takes, by decide, by decide, by decide, by decide⟩
  rintro ⟨row, h, he⟩
  have hs := rowOfEntries_map row h
  rw [show row.map rowEntryFrame = [((1439 : Half), (0 : Byte)), (1439, 3)] from he.symm] at hs
  rw [show rowOfEntries [((1439 : Half), (0 : Byte)), (1439, 3)] = none by decide] at hs
  cases hs

def frame31 : PointFrame := ⟨7, 15, 7, 13, 7, 14, 1, 3, 500⟩

theorem linesDistinct_of_one (i : Fin 32) (r : PointRec) (h1 : r.drive ≠ r.sense1) (h2 : r.drive ≠ r.sense2)
    (h3 : r.sense1 ≠ r.sense2) : linesDistinct ((Vector.replicate 32 none).set i (some r)) := by
  have only : ∀ (n : Fin 32) q, ((Vector.replicate 32 (none : Option PointRec)).set i (some r))[n] = some q →
      n = i ∧ q = r := by
    intro n q hq
    rw [Fin.getElem_fin, Vector.getElem_set] at hq
    split at hq
    · exact ⟨Fin.ext (by omega), (Option.some.inj hq).symm⟩
    · simp at hq
  refine ⟨fun n q hq => ?_, fun n m q t hne hq ht => ?_⟩
  · obtain ⟨_, rfl⟩ := only n q hq
    exact ⟨h1, h2, h3⟩
  · exact absurd ((only n q hq).1.trans (only m t ht).1.symm) hne

theorem not_linesDistinct_of_two (points : Vector (Option PointRec) 32) (i j : Fin 32) (r : PointRec) (hne : i ≠ j)
    (hi : points[i] = some r) (hj : points[j] = some r) : ¬ linesDistinct points := fun h =>
  h.2 i j r r hne hi hj r.drive (by simp [recLines]) (by simp [recLines])

theorem test_witness_WritePointInstallsTheRecord :
    SiteTakes quiet ∧ siteLive quiet = false ∧ pointOperand (some frame31) = some (some rec31, false) ∧
      linesDistinct (quiet.cfg.points.set 31 (some rec31)) ∧ linesDistinct quiet.cfg.points ∧
      ¬ linesDistinct (quiet.cfg.points.set 0 (some rec31)) ∧ (33 : Byte) ≠ 32 ∧ 32 < (33 : Byte).toNat ∧
      pointOperand (some { frame31 with driveExp := 8 }) = none ∧ siteLive airing = true ∧ SiteTakes airing := by
  refine ⟨site_takes, by decide, by decide, ?_, linesDistinct_of_one 31 rec31 (by decide) (by decide) (by decide), ?_,
    by decide, by decide, by decide, by decide, ⟨by decide, by decide⟩⟩
  · have e : quiet.cfg.points.set 31 (some rec31) = (Vector.replicate 32 none).set 31 (some rec31) := by decide
    rw [e]
    exact linesDistinct_of_one 31 rec31 (by decide) (by decide) (by decide)
  · exact not_linesDistinct_of_two _ 0 31 rec31 (by decide) (by decide) (by decide)

/-- R3: a site is live with a service on the air, and with a job in progress whatever its services. -/
theorem test_sites_live : siteLive airing = true ∧ siteLive (working (jobIn .muting false .off)) = true ∧
    siteLive (withA (inState .held 0) quiet) = false := by decide

/-- R3: a transit limit of 2009 ms is stored as 2000 ms and one of 49 ms as 50 ms, both clamped; stage 4 is refused. -/
theorem test_point_frames :
    pointOperand (some { frame31 with transit := 2009 }) = some (some { rec31 with transit := 2000 }, true) ∧
      pointOperand (some { frame31 with transit := 49 }) = some (some { rec31 with transit := 50 }, true) ∧
      pointOperand (some { frame31 with stage := 4 }) = none ∧ pointOperand (some { frame31 with hot := 0 }) = none := by
  decide

/-- SP31 moved to expander 0: expander 7 goes out of use, expander 0 comes into use. -/
theorem test_witness_InstalledPointIsWrittenAfresh :
    inUse quiet.cfg.points 7 = true ∧ inUse (quiet.cfg.points.set 31 (some ⟨⟨0, 0⟩, ⟨0, 1⟩, ⟨0, 2⟩, .a, 0, 50⟩)) 7 = false ∧
      inUse quiet.cfg.points 0 = false ∧
      inUse (quiet.cfg.points.set 31 (some ⟨⟨0, 0⟩, ⟨0, 1⟩, ⟨0, 2⟩, .a, 0, 50⟩)) 0 = true ∧
      isDriveLine quiet.cfg.points 7 15 ≠ isDriveLine (quiet.cfg.points.set 31 (some ⟨⟨7, 0⟩, ⟨7, 13⟩, ⟨7, 14⟩, .a, 0, 50⟩)) 7 15 := by
  decide

/-- R4, R14: a written point is judged as though its sensed state had changed; here its contacts are exchanged. -/
theorem test_written_point_is_judged :
    (installPoint 31 (some ⟨⟨7, 15⟩, ⟨7, 14⟩, ⟨7, 13⟩, .a, 3, 500⟩) quiet).ports.site.queue.map (·.event) =
        [.pointDisturbed 31 .at2] ∧
      (installPoint 31 none quiet).ports.site.queue = [] := by decide +kernel

/-- R5: the result of the scan read on the bus is discarded, a claim of an expander not in use stays. -/
theorem test_new_base_discards :
    (rebase { onTheBus (.scan 7) .readInput with
      bus := { (onTheBus (.scan 7) .readInput).bus with
        queue := [.seq .initInput 7 false, .seq .initInput 0 false] } }).bus.queue =
        [.seq .initInput 0 false, .seq .initDirection 7 false, .seq .initReadback 7 false, .seq .initInput 7 false] ∧
      (rebase (onTheBus (.scan 7) .readInput)).bus.current.map (·.discarded) = some true := by decide +kernel

theorem test_witness_WriteSiteBusStoresTheRecord :
    SiteTakes quiet ∧ siteLive quiet = false ∧ baseValid 0x08 = true ∧ baseValid 0x70 = true ∧
      speedOfCode 1 = some .khz400 ∧ (0x30 : Byte).toNat = quiet.cfg.base ∧ (0x70 : Byte).toNat ≠ quiet.cfg.base ∧
      0x50 ≤ (0x57 : Byte).toNat ∧ quiet.job = none ∧ inUse quiet.cfg.points 7 = true ∧
      inUse quiet.cfg.points 0 = false ∧ SiteTakes airing ∧ siteLive airing = true :=
  ⟨site_takes, by decide, by decide, by decide, by decide, by decide, by decide, by decide, by decide, by decide,
    by decide, ⟨by decide, by decide⟩, by decide⟩

theorem test_witness_WriteInterlockSetsTheState :
    SiteTakes quiet ∧ siteLive quiet = false ∧ interlockOfFrame ⟨1, 1, 1, 1, 1⟩ = some (some ilk3) ∧
      interlockOfFrame ⟨1, 3, 0, 0, 0⟩ = some (some ⟨.ab, false, false, false⟩) ∧ quiet.interlockRec 0 = none ∧
      (quiet.interlock 3).state = .closed ∧ SiteTakes (ilkIn .latched (some false) none) ∧
      (ilkIn .latched (some false) none).interlockRec 3 = some ilk3 ∧
      ((ilkIn .latched (some false) none).interlock 3).state ≠ .closed ∧ siteLive airing = true ∧
      4 ≤ (4 : Byte).toNat ∧ 1 < (2 : Byte).toNat ∧ 3 < (4 : Byte).toNat ∧
      interlockOfFrame ⟨0, 9, 9, 9, 9⟩ = some none ∧ interlockOfFrame ⟨1, 1, 0, 2, 0⟩ = none :=
  ⟨site_takes, by decide, by decide, by decide, by decide, by decide, ⟨by decide, by decide⟩, by decide, by decide,
    by decide, by decide, by decide, by decide, by decide, by decide⟩

theorem test_witness_WriteServiceSettingsReplacesTheRecord :
    TakesWrite quiet .a 1 .a ∧ modeOfCode 1 = some .auto ∧ muteConfirmOfCode 1 = some .confirm ∧
      baudOfCode 2 = some .b38400 ∧ 1 ≤ (1 : Half).toNat ∧ 1 < (2 : Byte).toNat ∧ 2 < (3 : Byte).toNat :=
  ⟨takes_a, by decide, by decide, by decide, by decide, by decide, by decide⟩

theorem test_witness_SetClockSelectsAndSets :
    SiteTakes quiet ∧ dateValid (dateOfFrame ⟨2099, 12, 31, 23, 59, 59⟩) = true ∧
      dateValid (dateOfFrame ⟨2000, 2, 29, 0, 0, 0⟩) = true ∧ dateValid (dateOfFrame ⟨2001, 2, 29, 0, 0, 0⟩) = false ∧
      1 < (2 : Byte).toNat :=
  ⟨site_takes, by decide, by decide, by decide, by decide⟩

/-! ## Witnesses: saves, resets, the load -/

/-- A save with an EEPROM transaction on the bus. -/
def savingOn (step : SaveStep) (page : Nat) (op : BusOp) : State := { onTheBus .eeprom op with store := .saving page [] step }

theorem test_witness_SaveRunsPageByPage :
    SiteTakes quiet ∧
      (savingOn .writing 54 (.pageWrite 54 [])).bus.current = some (current .eeprom (.pageWrite 54 [])) ∧
      (savingOn (.polling 0 1) 54 .ackPoll).store = .saving 54 [] (.polling 0 1) ∧
      (savingOn .reading 53 (.pageRead 53)).store = .saving 53 [] .reading ∧ 53 < 54 ∧
      (saving (.polling 0 1) 54).bus.eeprom = none ∧
      (∀ c, (saving (.polling 0 1) 54).bus.current = some c → c.txn ≠ .eeprom) ∧
      (∃ c, (savingOn (.polling 0 1) 54 .ackPoll).bus.current = some c ∧ c.txn = .eeprom) :=
  ⟨site_takes, rfl, rfl, rfl, by decide, rfl, (fun c h => by cases h), ⟨_, rfl, rfl⟩⟩

/-- R6, R190: a page write of a save that the bus has not ended ends the save at its tenth millisecond. -/
theorem test_witness_eeprom_timeouts :
    (∃ t, exec .busTransactionTimeout (savingOn .writing 54 (.pageWrite 54 [])) = .next t ∧ t.store = .idle ∧ t.now = 10 ∧
        t.ports.site.queue.map EventRecord.event = [.configSaveFailed .writeFailed]) ∧
      (savingOn .reading 53 (.pageRead 53)).bus.current = some (current .eeprom (.pageRead 53)) ∧
      (current .eeprom (.pageRead 53)).discarded = false ∧
      ({ current .eeprom .ackPoll with discarded := true } : Current).txn = .eeprom :=
  ⟨⟨_, rfl, by decide, by decide, by decide⟩, rfl, rfl, rfl⟩

theorem test_witness_ResetsAreTaken :
    quiet.phase ≠ .resetHeld ∧ (warmReset quiet).phase = .resetHeld ∧ (warmReset quiet).coldLoaded = true ∧
      (warmReset State.reset).phase = .resetHeld ∧ (warmReset State.reset).coldLoaded = false ∧
      loadEnded quiet = true ∧ quiet.coldLoaded = true := by decide

theorem test_witness_LoadEndStartsTheBlocks :
    ∃ c, State.reset.bus.current = some c ∧ c.txn = .eeprom ∧ c.op = .pageRead 0 ∧ c.discarded = false ∧
      State.reset.store = .loading 0 [] ∧
      ({ State.reset with
          bus := (onTheBus .eeprom (.pageRead 54)).bus, store := .loading 54 [] } : State).store = .loading 54 [] :=
  ⟨_, rfl, rfl, rfl, rfl, rfl, rfl⟩

/-! ## Witnesses: the contactor bus -/

theorem test_witness_ExpanderLinesGiveSensedStates :
    sampleLine 20 16 ⟨some true, some ⟨false, 4, 16⟩⟩ false = ⟨some false, none⟩ ∧
      sampleLine 19 16 ⟨some true, some ⟨false, 4, 16⟩⟩ false = ⟨some true, some ⟨false, 4, 16⟩⟩ ∧
      (quiet.exp 7).lines[13].accepted = some false ∧ (quiet.exp 7).lines[14].accepted = some true ∧
      deriveSensed quiet rec31 = .at1 ∧ directionWord quiet 7 = 0x8000 ∧ outputWord quiet 7 = 0 ∧
      (current .eeprom (.pageWrite 63 [])).op = .pageWrite 63 [] ∧ 63 < 64 := by decide

theorem test_witness_InitialisationTakesTheExpander :
    onBus (onTheBus (.seq .initDirection 7 true) (.writeDirection 0x8000)) (.seq .initDirection 7 true)
        (current (.seq .initDirection 7 true) (.writeDirection 0x8000)) ∧
      onBus (onTheBus (.seq .initReadback 7 false) .readOutput) (.seq .initReadback 7 false)
        (current (.seq .initReadback 7 false) .readOutput) ∧
      onBus (onTheBus (.seq .initInput 7 false) .readInput) (.seq .initInput 7 false)
        (current (.seq .initInput 7 false) .readInput) ∧
      onBus (onTheBus (.seq .confirmInput 7 false) .readInput) (.seq .confirmInput 7 false)
        (current (.seq .confirmInput 7 false) .readInput) ∧
      ({ quiet with exps := quiet.exps.set 7 { quiet.exp 7 with confirm := .due 16 } } : State).exp 7 =
        { quiet.exp 7 with confirm := .due 16 } ∧
      ∀ t, (quiet.exp 7).confirm ≠ .due t :=
  ⟨⟨rfl, rfl, rfl⟩, ⟨rfl, rfl, rfl⟩, ⟨rfl, rfl, rfl⟩, ⟨rfl, rfl, rfl⟩, by decide, fun _ h => by cases h⟩

/-- The site with a transaction on the bus whose result is discarded. -/
def discarding (txn : Txn) (op : BusOp) : State :=
  { quiet with bus := { quiet.bus with current := some { current txn op with discarded := true } } }

theorem test_witness_DiscardedResultsAreNotTaken (txn : Txn) (op : BusOp) :
    (discarding txn op).bus.current = some { current txn op with discarded := true } ∧ isInitStep .initInput = true ∧
      isRestoreStep .restoreInput = true ∧ txnExp (.drive 7 [(31, .two)] true) ≠ none ∧ txnExp (.retry 0) ≠ none :=
  ⟨rfl, rfl, rfl, by decide, by decide⟩

/-- R184: the input word of a discarded initialisation step is not taken. -/
theorem test_discarded_word_is_not_taken :
    (endTxn (isSeq isInitStep) (initStepDone 0) (discarding (.seq .initInput 7 false) .readInput)).exps = quiet.exps ∧
      (endTxn (isSeq isInitStep) (initStepDone 0) (onTheBus (.seq .initInput 7 false) .readInput)).exps ≠ quiet.exps := by
  decide +kernel

theorem test_witness_ScanReadDebouncesTheLines :
    onBus (onTheBus (.scan 7) .readInput) (.scan 7) (current (.scan 7) .readInput) ∧ quiet.bus.current = none :=
  ⟨⟨rfl, rfl, rfl⟩, rfl⟩

theorem test_witness_RestoreBringsAnExpanderBack :
    onBus (onTheBus (.retry 0) .readInput) (.retry 0) (current (.retry 0) .readInput) ∧
      onBus (onTheBus (.seq .restoreDirection 7 false) (.writeDirection 0x8000)) (.seq .restoreDirection 7 false)
        (current (.seq .restoreDirection 7 false) (.writeDirection 0x8000)) ∧
      onBus (onTheBus (.seq .restoreOutput 7 false) .readOutput) (.seq .restoreOutput 7 false)
        (current (.seq .restoreOutput 7 false) .readOutput) ∧
      onBus (onTheBus (.seq .restoreInput 7 false) .readInput) (.seq .restoreInput 7 false)
        (current (.seq .restoreInput 7 false) .readInput) ∧
      onBus (onTheBus (.seq .rewriteOutput 7 true) (.writeOutput 0)) (.seq .rewriteOutput 7 true)
        (current (.seq .rewriteOutput 7 true) (.writeOutput 0)) :=
  ⟨⟨rfl, rfl, rfl⟩, ⟨rfl, rfl, rfl⟩, ⟨rfl, rfl, rfl⟩, ⟨rfl, rfl, rfl⟩, ⟨rfl, rfl, rfl⟩⟩

/-- The site with its scanner in a state. -/
def scanning (n : Scanner) : State := { quiet with bus := { quiet.bus with scanner := n } }

def scannerOn : Scanner :=
  { on := true, pass := none, held := none, attnHeld := false, lastStart := some 0, fastArmed := true,
    periodicDue := some 250 }

/-- SP31 driven from expander 0, at position 2 while its contacts, on expander 7, stand at 1. -/
def misplaced (underDrive : Bool) : State :=
  { quiet with
    cfg := { siteCfg with points := (Vector.replicate 32 none).set 31 (some { rec31 with drive := ⟨0, 0⟩ }) }
    points := quiet.points.set 31 ⟨some .two, .at1, underDrive⟩ }

/-- R16: a point that does not agree after the restore posts POINT_DISTURBED before EXPANDER_RESTORED, though its sensed
state did not change; one under drive is left to the Transfer Engine (log entry 44). -/
theorem test_restore_judges_every_point :
    (restored 0 (becomeOk 0 0 (misplaced false))).ports.site.queue.map (·.event) =
        [.pointDisturbed 31 .at1, .expanderRestored 0] ∧
      (restored 0 (becomeOk 0 0 (misplaced true))).ports.site.queue.map (·.event) = [.expanderRestored 0] ∧
      (restored 1 (becomeOk 1 0 (misplaced false))).ports.site.queue.map (·.event) = [.expanderRestored 1] := by
  decide +kernel

theorem test_witness_ScannerRequestsPasses :
    (scanning scannerOn).bus.scanner.lastStart = some 0 ∧ (scanning scannerOn).bus.scanner.on = true ∧
      ({ scanning scannerOn with expAttn := true } : State).expAttn = true ∧
      (scanning scannerOn).bus.scanner.periodicDue = some 250 ∧ loadEnded (scanning scannerOn) = true ∧
      (scanning scannerOn).expAttn = false ∧ quiet.bus.scanner.on = false ∧ loadEnded State.reset = false ∧
      (scanning scannerOn).bus.scanner.pass = none ∧
      (scanning { scannerOn with pass := some [.read 7] }).bus.scanner.pass = some [.read 7] ∧
      scannerReady quiet = true ∧ passEnded (scanning { scannerOn with pass := some [.read 0], held := some true }) = true ∧
      passEnded (scanning { scannerOn with pass := some [.read 7] }) = false ∧ scannerOn.held = none := by decide

/-- R12: the periodic timer is due at 250 ms; with a line asserted at 300 ms the fast timer is due at once (log entry 57). -/
theorem test_witness_timers_due :
    dueCommand (scanning scannerOn) = none ∧ dueCommand { scanning scannerOn with now := 250 } = some .periodicScanTimer ∧
      dueCommand { scanning { scannerOn with periodicDue := some 500 } with now := 300, expAttn := true } =
        some .fastScanTimer := by decide

theorem test_witness_DriveWritesAreArbitrated :
    (quiet.exp 0).health ≠ .ok ∧ (quiet.exp 7).health = .ok ∧
      (∃ t ∈ [((31 : Fin 32), Pos.two)], (airing.point t.1).commanded ≠ some t.2 ∧
        ∃ x, present airing x = true ∧ hotHas airing t.1 x = true ∧ (airing.svc x).permit = true) ∧
      (∀ t ∈ [((31 : Fin 32), Pos.one)], (quiet.point t.1).commanded = some t.2) ∧
      (onTheBus (.drive 7 [(31, .two)] true) (.writeOutput 0x8000)).bus.current ≠ none ∧ quiet.bus.current = none ∧
      quiet.bus.queue = [] ∧
      (scanning { scannerOn with pass := some [.read 0, .read 7] }).bus.scanner.pass = some [.read 0, .read 7] ∧
      [ScanItem.read 0, .read 7].dropWhile (fun i => !eligible quiet i) = [.read 7] ∧
      (∀ items, quiet.bus.scanner.pass = some items → ∀ i ∈ items, eligible quiet i = false) ∧
      onBus (onTheBus (.drive 7 [(31, .two)] false) (.writeOutput 0x8000)) (.drive 7 [(31, .two)] false)
        (current (.drive 7 [(31, .two)] false) (.writeOutput 0x8000)) ∧
      (∃ j, (working (jobIn .transfer false .off)).job = some j ∧ j.phase = .transfer) :=
  ⟨by decide, by decide, ⟨(31, .two), by simp, by decide, .a, by decide, by decide, by decide⟩, by decide, by decide,
    by decide, by decide, by decide, by decide, (fun items h => by cases h), ⟨rfl, rfl, rfl⟩, ⟨_, rfl, rfl⟩⟩

/-- The site with expander 7 at a health and a transaction on the bus. -/
def failing (h : Health) (txn : Txn) (op : BusOp) : State :=
  { onTheBus txn op with exps := quiet.exps.set 7 { quiet.exp 7 with health := h } }

theorem test_witness_FailureFaultsAnExpander :
    (failing .ok (.scan 7) .readInput).bus.current = some (current (.scan 7) .readInput) ∧
      txnExp (.scan 7) = some 7 ∧ txnExp (.seq .rewriteOutput 7 true) = some 7 ∧ ((failing .ok (.scan 7) .readInput).exp 7).health = .ok ∧
      quiet.pointRec 31 = some rec31 ∧ rec31.sense1.exp = 7 ∧
      ((failing .init (.seq .initInput 7 false) .readInput).exp 7).health = .init ∧
      ((failing .faulted (.retry 7) .readInput).exp 7).health = .faulted ∧
      (∀ f ts, (Txn.retry 7) ≠ .drive f ts true) ∧ { current (.scan 7) .readInput with discarded := true }.discarded = true ∧
      (failing .init (.seq .initInput 7 false) .readInput).bus.current = some (current (.seq .initInput 7 false) .readInput) ∧
      (failing .faulted (.retry 7) .readInput).bus.current = some (current (.retry 7) .readInput) ∧ isRestoreStep .restoreInput = true ∧ isRestoreStep .rewriteOutput = false :=
  ⟨by decide, by decide, by decide, by decide, by decide, by decide, by decide, by decide,
    (fun _ _ h => by cases h), rfl, by decide, by decide, rfl, rfl⟩

/-- R8: an initialisation that fails before its readback leaves its points without a commanded position. -/
theorem test_failed_init_forgets_the_position :
    ((failInit (current (.seq .initReadback 7 false) .readOutput) 7 quiet).point 31).commanded = none ∧
      ((failInit (current (.seq .initInput 7 false) .readInput) 7 quiet).point 31).commanded = some .one := by decide

/-! ## Witnesses: pins, records, services -/

/-- R56, R57: interlock 3 covers service A on the air, and a service HELD by it leaves HELD once it is CLOSED. -/
theorem test_witness_InterlockActsOnServices :
    airing.interlockRec 3 = some ilk3 ∧ effHas airing ilk3.mask .a = true ∧ (airing.svc .a).state = .onAir ∧
      effHas airing ilk3.mask .b = false ∧
      entryCheck (withA { inState .held 0 with hold := some .interlock } quiet) .a = .pass ∧
      ((autoExit .a (withA { inState .held 0 with hold := some .interlock } quiet)).svc .a).state = .verifying ∧
      ((interlockHold 3 .a airing).svc .a).hold = some .interlock ∧ checkReads airing .a 31 = true ∧
      checkReads airing .a 30 = false := by decide

theorem test_witness_InterlocksFollowTheirPins :
    loadEnded quiet = true ∧ quiet.interlockRec 3 = some ilk3 ∧ ((ilkIn .closed none none).interlock 3).accepted = none ∧
      (quiet.interlock 3).accepted = some false ∧
      ((ilkIn .closed (some false) (some ⟨true, 0, 16⟩)).interlock 3).accepted = some (!true) ∧
      ((ilkIn .closed (some false) (some ⟨true, 0, 16⟩)).interlock 3).debounce = some ⟨true, 0, 16⟩ ∧
      ((ilkIn .latched (some false) none).interlock 3).state = .latched ∧
      ((ilkIn .opened (some true) none).interlock 3).state ≠ .closed := by decide

/-- 11.2: PARAM_OUT of the T3 phase (19) by -5 (0xFFFB) on slot 2 of service A; and CONFIG_SAVED, which has no field. -/
theorem test_record_bytes :
    recordBytes ⟨.paramOut .a (some 2) ⟨3, .phase⟩ (-5), ⟨2026, 2, 28, 23, 59, 58⟩⟩ =
        [14, 1, 7, 2, 19, 0xFF, 0xFB, 26, 2, 28, 23, 59, 58] ∧
      recordBytes ⟨.configSaved, ⟨2000, 1, 1, 0, 0, 0⟩⟩ = [28, 0, 0, 0, 0, 0, 0, 0, 1, 1, 0, 0, 0] := by decide

theorem test_witness_PostedRecordsAreRouted : quiet.phase ≠ .resetHeld ∧ (quiet.ports.get .a).queue.length < 32 ∧
    (warmReset quiet).phase = .resetHeld := by
  decide

theorem test_witness_OutputsFollowTheState :
    (airing.svc .a).state = .onAir ∧ inForcePattern airing .a = some (patternAt (some .one)) ∧
      (airing.svc .a).causes = ⟨false, false, false, false⟩ ∧
      (verifying.svc .a).causes ≠ ⟨false, false, false, false⟩ ∧ (airing.svc .a).permit = true ∧
      (quiet.svc .a).permit = false := by decide

theorem test_witness_HeldWithdrawsThePermit :
    present airing .a = true ∧ (airing.svc .a).state = .onAir ∧ hotHas airing 31 .a = true ∧
      hotHas airing 0 .a = false ∧ (airing.svc .a).ceiling ≠ 0 ∧ (quiet.svc .a).ceiling = 0 ∧
      (airing.point 31).commanded = some .one ∧ (airing.point 31).sensed = .at1 ∧
      (airing.point 0).commanded = none := by decide

theorem test_witness_EntryCheckDecidesTheState :
    inForcePattern quiet .a = none ∧
      inForcePattern (withA (inState .held 0) quiet) .a = some (patternAt (some .one)) ∧
      entryCheck (withA (inState .held 0) quiet) .a = .pass ∧
      inForcePattern (withA (inState .held 3) quiet) .a = some (patternAt (some .two)) ∧
      entryCheck (withA (inState .held 3) quiet) .a = .points ∧
      entryCheck (withA (inState .held 0) (ilkIn .opened (some true) none)) .a = .interlocks ∧
      (quiet.svc .a).ceiling = 0 ∧ ((withA { Service.reset .manual with ceiling := 1000 } quiet).svc .a).ceiling ≠ 0 ∧
      (patternAt (some .one)).power * (patternAt (some .one)).cutback / 100 ≠ ((withA (inState .held 0) quiet).svc .a).ceiling ∧
      (patternAt (some .one)).power * (patternAt (some .one)).cutback / 100 =
        ((withA { inState .held 0 with ceiling := 500 } quiet).svc .a).ceiling := by decide

/-- R46, R53: entry to VERIFYING posts CEILING_CHANGED with the cutback level of A0, and UNDETERMINED posts nothing. -/
theorem test_entry_posts_the_ceiling :
    (throughEntryCheck .a (withA (inState .held 0) quiet)).ports.site.queue.map (·.event) =
        [.ceilingChanged .a (some 0) 500] ∧
      (throughEntryCheck .a quiet).ports.site.queue = [] := by decide +kernel

/-! ## Witnesses: formation and the engine -/

/-- The site with requests pending, A's first. -/
def asking (a : Request) (b : Option Request) : State :=
  { quiet with
    svcs := ⟨{ Service.reset .manual with request := some a }, { inState .held 0 with request := b }⟩
    arrival := if b = none then [.a] else [.a, .b] }

theorem test_witness_FormationJudgesTheHead :
    (asking (request 3) none).arrival = [.a] ∧ ((asking (request 3) none).svc .a).request = some (request 3) ∧
      quiet.pattern .a 1 = none ∧ (asking (request 3) none).pattern .a 3 = some (patternAt (some .two)) ∧
      patternValid (asking (request 3) none) (patternAt (some .two)) = true ∧
      inForceOnAir (asking (request 3) none) .a 3 = false ∧ ((asking (request 3) none).svc .b).request = none ∧
      inForcePattern (asking (request 3) none) .b = some (patternAt (some .two)) ∧
      compatible (patternAt (some .two)) (patternAt (some .two)) = true ∧
      compatible (patternAt (some .one)) (patternAt (some .two)) = false ∧
      patternValid { quiet with cfg := { quiet.cfg with points := Vector.replicate 32 none } } (patternAt (some .one)) = false ∧
      inForceOnAir airing .a 0 = true ∧
      ((asking (request 3) (some (request 2))).svc .b).request = some (request 2) ∧
      (asking (request 3) (some (request 2))).arrival = [.a, .b] ∧
      (asking (request 3) (some (request 2))).pattern .b 2 = some (patternAt none) ∧
      inForceOnAir (asking (request 3) (some (request 2))) .b 2 = false ∧
      ((asking (request 3) (some (request 1))).svc .b).request = some (request 1) ∧
      (asking (request 3) (some (request 1))).pattern .b 1 = none ∧
      (asking (request 3) (some (request 1))).arrival = [.a, .b] ∧
      ((formationPass (asking (request 3) (some (request 1)))).svc .b).request = none := by decide

/-- Changes handed on with the states the interlock left and holds; TICK_IN selected; a fault's two kinds of slot. -/
theorem test_witness_changes_and_slots :
    ((({ quiet with interlocks := quiet.interlocks.set 3 ⟨.opened, some true, none⟩ } : State).interlock 3).state = .opened ∧
      (quiet.interlock 3).state = .closed ∧
      (({ quiet with interlocks := quiet.interlocks.set 3 ⟨.latched, some false, none⟩ } : State).interlock 3).state = .latched) ∧
      ({ quiet with cfg := { quiet.cfg with timebase := .tickIn } } : State).cfg.timebase = .tickIn ∧
      quiet.cfg.timebase = .internal ∧ (jobIn .transfer true .off).changing.find? (fun c => c.svc == .a) =
        some ⟨.a, 3, .portA, false, false⟩ ∧ (∀ c ∈ (jobIn .transfer true .off).changing, c.svc ≠ .b) ∧
      eventKind .configSaved = (27 : Fin 32).val + 1 := by decide

/-- Both services on the air: B, whose map lists nothing, is collateral to a job of A over SP31 when SP31 carries both. -/
def bothAiring : State :=
  { airing with
    svcs := { airing.svcs with b := { inState .onAir 2 with permit := true, ceiling := 1000 } }
    cfg := { siteCfg with points := (Vector.replicate 32 none).set 31 (some { rec31 with hot := .ab }) } }

theorem test_witness_JobsAreFormedAndStarted :
    (formedJob bothAiring [⟨.a, 3, .portA, false, false⟩]).collateral = some .b ∧
      (formedJob bothAiring [⟨.a, 3, .portA, false, false⟩]).settle.get .b = some (.delay 200) ∧
      (formedJob airing [⟨.a, 3, .portA, false, false⟩]).collateral = none ∧ Svc.a ∈ mutedSvcs (formedJob airing [⟨.a, 3, .portA, false, false⟩]) ∧
      isSettled (some (settleAtStart airing .a (airing.svc .a).permit)) = false ∧
      moveList airing [⟨.a, 3, .portA, false, false⟩] = [⟨31, some .one, .two, 3, false, .off⟩] := by decide

theorem test_witness_settled_at_start :
    (formedJob quiet [⟨.a, 3, .portA, false, false⟩]).settle = ⟨some .notNeeded, none⟩ ∧
      (formedJob quiet [⟨.a, 3, .portA, false, false⟩]).stage = some 3 ∧
      (formedJob quiet [⟨.a, 2, .portA, false, false⟩]).moves = [] ∧
      (formedJob { airing with
          rfdown := ⟨true, false⟩
          cfg := { siteCfg with settings := ⟨{ siteCfg.settings.a with muteConfirm := .confirm }, siteCfg.settings.b⟩ } }
        [⟨.a, 3, .portA, false, false⟩]).settle = ⟨some .settled, none⟩ := by decide

/-- R84: a job whose muted services all had their permits low leaves MUTING within the event of its start. -/
theorem test_start_leaves_muting :
    (startJob [⟨.a, 3, .portA, false, false⟩] quiet).job.map (·.phase) = some .transfer ∧
      (startJob [⟨.a, 2, .portA, false, false⟩] quiet).job = none := by decide +kernel

/-- The job in MUTING with service A's settle state. -/
def muting (st : Settle) : Job := { jobIn .muting false .off with settle := ⟨some st, none⟩ }

theorem test_witness_MutingEndsOrIsCancelled :
    (working (muting (.delay 200))).job = some (muting (.delay 200)) ∧ (muting (.delay 200)).phase = .muting ∧
      (muting (.delay 200)).settle.get .a = some (.delay 200) ∧
      (muting (.confirm 2000)).settle.get .a = some (.confirm 2000) ∧ quiet.job = none ∧
      (∀ y, (muting .settled).settle.get y = none ∨ (muting .settled).settle.get y = some .notNeeded ∨
        (muting .settled).settle.get y = some .settled) ∧
      { muting .settled with moves := [] }.moves = [] ∧ loadEnded quiet = true ∧ present quiet .a = true ∧
      loadEnded State.reset = false := by
  refine ⟨rfl, rfl, rfl, rfl, rfl, ?_, rfl, rfl, rfl, rfl⟩
  intro y
  cases y <;> simp [muting, Per.get]

/-- The working site with SP31 sensed in a state. -/
def sensing (st : Sensed) (j : Job) : State := { working j with points := quiet.points.set 31 ⟨some .one, st, true⟩ }

/-- The working site with interlock 3 OPEN. -/
def blocked (j : Job) : State := { working j with interlocks := quiet.interlocks.set 3 ⟨.opened, some true, none⟩ }

theorem test_witness_StagesRunInOrder :
    blocking (blocked (jobIn .muting false .off)) (jobIn .muting false .off) = some 3 ∧
      blocking (working (jobIn .muting false .off)) (jobIn .muting false .off) = none ∧
      (∀ m ∈ stageMoves (jobIn .muting false .off) 3,
        ((working (jobIn .muting false .off)).point m.point).sensed ≠ .conflict ∧
          ((working (jobIn .muting false .off)).point m.point).sensed ≠ .unknown) ∧
      ((sensing .unknown (jobIn .muting false .off)).point 31).sensed = .unknown ∧
      (jobIn .transfer true (.running 500)).stage = some 3 ∧
      (∀ m ∈ stageMoves (jobIn .transfer true (.running 500)) 3, m.timer ≠ .off ∧
        sensedAt ((sensing .at2 (jobIn .transfer true (.running 500))).point m.point).sensed m.toPos = true) ∧
      (∀ m ∈ (jobIn .transfer true (.running 500)).moves, m.stage ≤ 3) ∧
      (∃ m ∈ stageMoves (jobIn .transfer true .off) 3, m.timer = .off) ∧
      (working (jobIn (.paused .transfer) false .off)).job = some (jobIn (.paused .transfer) false .off) ∧
      (working (jobIn (.paused .rollback) true .off)).job = some (jobIn (.paused .rollback) true .off) ∧
      interlockCovers quiet 3 .a = true ∧ interlockCovers quiet 0 .a = false ∧
      (quiet.interlockRec 3).map InterlockSettings.motionInhibit = some true ∧
      ((blocked (jobIn .muting false .off)).interlock 3).state ≠ .closed ∧
      ((working (jobIn .transfer true .off)).svc .a).inForce ≠ some 3 ∧
      ({ jobIn .rollback true .off with rollbackCause := some .aborted } : Job).rollbackCause = some .aborted := by
  decide

theorem test_witness_FaultsRollTheJobBack :
    (working (jobIn .transfer true (.running 500))).job = some (jobIn .transfer true (.running 500)) ∧
      (jobIn .transfer true (.running 500)).moves.find? (fun m => m.point == 31) =
        some ⟨31, some .one, .two, 3, true, .running 500⟩ ∧
      (jobIn .rollback true (.running 500)).phase = .rollback ∧
      sensedAt ((sensing .at2 (jobIn .transfer true (.running 500))).point 31).sensed .two = true ∧
      sensedAt ((sensing .moving (jobIn .transfer true (.running 500))).point 31).sensed .two = false ∧
      driveOnBus (onTheBus (.drive 7 [(31, .two)] true) (.writeOutput 0x8000)) = true ∧ driveOnBus quiet = false ∧
      (∀ m ∈ (jobIn .transfer false .off).moves, m.driven = false ∨ m.fromPos = none) ∧
      (∃ m ∈ (jobIn .transfer true .off).moves, m.stage = 3 ∧ m.driven = true ∧ m.fromPos ≠ none) ∧
      (∀ m ∈ (jobIn .transfer true .off).moves, m.driven = true → m.fromPos ≠ none → m.stage ≤ 3) ∧
      blocking (working (jobIn .transfer true .off)) (jobIn .transfer true .off) = none ∧
      blocking (blocked (jobIn .transfer true .off)) (jobIn .transfer true .off) = some 3 ∧
      isChanging (jobIn .rollback true .off) .a = true ∧ isChanging (jobIn .rollback true .off) .b = false ∧
      ({ jobIn .rollback true .off with collateral := some .b } : Job).collateral = some .b ∧
      rollbackMoves (jobIn .rollback true (.running 500)) 3 = (jobIn .rollback true (.running 500)).moves ∧
      sensedAt ((sensing .at1 (jobIn .rollback true (.running 500))).point 31).sensed .one = true := by decide

/-- What the engine is told of SP31: each clause of its answers and reports has a state that meets it. -/
theorem test_witness_answers_and_reports :
    (∃ j, (working { jobIn .rollback true .off with awaiting := true }).job = some j ∧ j.phase = .rollback ∧
        j.awaiting = true) ∧
      (∃ j, (sensing .unknown (jobIn .rollback true (.running 500))).job = some j ∧ j.awaiting = false ∧ j.stage = some 3 ∧
        rollbackMoves j 3 = j.moves ∧ ∀ m ∈ j.moves, m.point = 31 ∧ m.timer ≠ .off) ∧
      ((sensing .unknown (jobIn .rollback true (.running 500))).point 31).sensed = .unknown ∧
      ((sensing .conflict (jobIn .transfer true (.running 500))).point 31).sensed = .conflict ∧
      sensedAt ((sensing .moving (jobIn .transfer true .spent)).point 31).sensed .two = false ∧
      (answerNotSent [(31, .two)] (working (jobIn .transfer false .off))).job = none ∧
      (engineSensed [31] (sensing .at2 (jobIn .transfer true (.running 500)))).job = none ∧
      (engineSensed [30] (sensing .at2 (jobIn .transfer true (.running 500)))).job.isSome = true :=
  ⟨⟨_, rfl, rfl, rfl⟩, ⟨_, rfl, rfl, rfl, by decide, by decide⟩, by decide, by decide, by decide, by decide, by decide,
    by decide⟩

/-- R15, step 6: a rollback write that fails ends the job, so that SP31, under drive at step 5, posts at step 6. -/
theorem test_point_taken_out_of_drive_posts :
    (failOk (current (.drive 7 [(31, .one)] true) (.writeOutput 0)) 7
        (sensing .at1 (jobIn .rollback true .off))).ports.site.queue.map EventRecord.event =
      [.expanderFault 7 .driveWrite, .rollbackFailed .a 31 .expander, .pointDisturbed 31 .unknown] := by
  decide +kernel

theorem test_witness_EndOfEventKeepsTheSite : advance (scanning scannerOn) = none := by decide

/-- Each thing that can follow, where the ones before it do not: adoption, the scanner, the end of a pass, formation, a
grant. -/
theorem test_witness_event_runs_to_its_end :
    adoptionReady { quiet with phase := .starting } = true ∧ adoptionReady quiet = false ∧ scannerReady quiet = true ∧
      adoptionReady (scanning { scannerOn with pass := some [] }) = false ∧
      scannerReady (scanning { scannerOn with pass := some [] }) = false ∧
      passEnded (scanning { scannerOn with pass := some [] }) = true ∧
      (let s : State := { asking (request 3) none with bus := (scanning scannerOn).bus }
       adoptionReady s = false ∧ scannerReady s = false ∧ passEnded s = false ∧ formationReady s = true) ∧
      formationReady (scanning scannerOn) = false ∧
      (advance { quiet with bus := { (scanning scannerOn).bus with queue := [.seq .confirmInput 7 false] } }).isSome = true ∧
      advance (settleFor 0 (scanning scannerOn)) = none ∧
      eligible quiet (.read 7) = true ∧ eligible quiet (.read 0) = false := by decide

/-! ## Witnesses: monitors, readings, verification -/

/-- The site with service A's receiver in a state. -/
def receiving (r : Receiver) (s : State) : State := { s with receivers := { s.receivers with a := r } }

def receiverIn (f : FrameState) (p : PartFrame) : Receiver :=
  { Receiver.reset with started := true, frame := f, part := p, gapDue := some 20, staleDue := some 10000 }

theorem test_witness_MonitorReceiverFollowsItsTable :
    (quiet.receivers.get .a).started = false ∧ (receiverIn .hunt PartFrame.empty).started = true ∧
      (receiverIn .count PartFrame.empty).frame ≠ .hunt ∧ (0xC3 : Byte) ≠ 0xC2 ∧ 1 ≤ (1 : Byte).toNat ∧
      (12 : Byte).toNat ≤ 12 ∧ 13 ≤ (13 : Byte).toNat ∧
      (receiverIn .check ⟨1, [0x01, 0xF4, 0, 0], 0xF6⟩).part.sum + 0x0A = 0 ∧
      (receiverIn .check ⟨1, [0x01, 0xF4, 0, 0], 0xF6⟩).part.sum + 0x0B ≠ 0 ∧
      ((receiving (receiverIn .data PartFrame.empty) quiet).receivers.get .a).gapDue = some 20 ∧
      ((receiving (receiverIn .data PartFrame.empty) quiet).receivers.get .a).staleDue = some 10000 ∧
      (quiet.receivers.get .b).gapDue = none ∧ (quiet.receivers.get .b).staleDue = none ∧
      (airing.svc .a).state = .onAir := by decide

theorem test_witness_ReadingIsValidOrNot :
    inForcePattern airing .a = some (patternAt (some .one)) ∧ 1 ≤ (airing.cfg.settings.get .a).minRef ∧
      ([] : List MonitorEntry).length ≤ (patternAt (some .one)).refTower.val ∧
      [MonitorEntry.mk 500 1800][(patternAt (some .one)).refTower.val]? = some ⟨500, 1800⟩ ∧ (1799 : Int) < 1800 ∧
      [MonitorEntry.mk 499 (-1800)][(patternAt (some .one)).refTower.val]? = some ⟨499, -1800⟩ ∧
      499 < (airing.cfg.settings.get .a).minRef ∧ (airing.cfg.settings.get .a).minRef ≤ 500 := by decide

theorem test_witness_ReadingsAreMeasured :
    [MonitorEntry.mk 500 0].length ≤ (1 : Fin 12).val ∧
      [MonitorEntry.mk 500 0, ⟨400, -1801⟩][(1 : Fin 12).val]? = some ⟨400, -1801⟩ ∧ (-1801 : Int) < -1800 ∧
      [MonitorEntry.mk 500 0, ⟨400, 1799⟩][(1 : Fin 12).val]? = some ⟨400, 1799⟩ ∧
      (1 : Fin 12) ≠ (patternAt none).refTower ∧ (patternAt none).towers[1] = some tower1 ∧
      (patternAt none).towers[2] = none ∧ 0 < 300 ∧ 216667 * (2 * 300) ≤ 2 * 65000 * 1000 + 300 ∧
      2 * 65000 * 1000 + 300 < 216668 * (2 * 300) ∧ 0 < 20000 ∧ 720 = 700 + 20 ∧
      28 * (2 * 720) ≤ 2 * 20 * 1000 + 720 ∧ 2 * 20 * 1000 + 720 < 29 * (2 * 720) := by decide

theorem test_witness_HandedReadingActsByState :
    (verifying.svc .a).state = .verifying ∧ (verifying.table .a).valid = 0 ∧
      firstNotIn { patternAt none with towers := Vector.replicate 12 none } (verifying.table .a) = none ∧
      firstNotIn (patternAt none) (verifying.table .a) = some ⟨1, .ratio⟩ ∧
      1 ≤ ({ ConfTable.reset with valid := 1 } : ConfTable).valid ∧ (airing.svc .a).state = .onAir ∧
      anyOut (patternAt none) { ConfTable.reset with rows := ConfTable.reset.rows.set 1 { TowerRow.reset with ratioState := .out } }
        .withdraw = true ∧
      anyOut (patternAt none) ConfTable.reset .withdraw = false ∧ (quiet.svc .a).state ≠ .verifying ∧
      (quiet.svc .a).state ≠ .onAir := by decide

theorem test_witness_WindowExpiryAppliesThePolicy :
    (verifying.table .a).window = some ⟨10, 10000⟩ ∧ inForcePattern verifying .a = some (patternAt (some .one)) ∧
      (verifying.svc .a).state = .verifying ∧ (patternAt (some .one)).policy = .revert ∧ revertSlot verifying .a = none ∧
      firstNotIn (patternAt (some .one)) (verifying.table .a) = some ⟨1, .ratio⟩ ∧
      revertSlot (withA { inState .verifying 0 with previous := some 3 } verifying) .a = some 3 ∧
      ({ patternAt none with policy := .holdCutback } : Pattern).policy = .holdCutback := by decide

/-! ## Witnesses: the clock, the schedule, adoption, the image, the invariants -/

theorem test_witness_ClockTakesItsSteps :
    dateValid ⟨2099, 12, 31, 23, 59, 58⟩ = true ∧ (⟨2099, 12, 31, 23, 59, 58⟩ : DateTime) ≠ ⟨2099, 12, 31, 23, 59, 59⟩ ∧
      dateValid ⟨2000, 2, 29, 23, 59, 59⟩ = true ∧ 29 = daysInMonth 2000 2 ∧ 28 < daysInMonth 2000 2 ∧
      quiet.clock.active = .internal ∧ quiet.cfg.timebase = .internal ∧ quiet.clock.lossDue = none ∧
      ({ quiet.clock with active := .tickIn, lossDue := some 2000 } : Clock).lossDue = some 2000 ∧
      ({ quiet.cfg with timebase := .tickIn } : ConfigRam).timebase = .tickIn ∧
      quiet.clock.time ≠ ⟨2099, 12, 31, 23, 59, 59⟩ := by decide

/-- The site in AUTO at a date and time, the clock set. -/
def at_ (time : DateTime) : State :=
  { withA (Service.reset .auto) quiet with clock := { quiet.clock with time := time, isSet := true } }

/-- Both services in AUTO at a minute at which each has an entry. -/
def bothDue : State :=
  { at_ ⟨2099, 12, 31, 23, 59, 0⟩ with
    svcs := ⟨Service.reset .auto, Service.reset .auto⟩
    cfg := { siteCfg with
      rows := ⟨(Vector.replicate 12 []).set 11 [⟨1439, 3⟩], (Vector.replicate 12 []).set 11 [⟨1439, 1⟩]⟩ } }

theorem test_witness_ScheduleFiresAtItsMinute :
    firing (at_ ⟨2099, 12, 31, 23, 59, 0⟩) .a = some 3 ∧ firing (at_ ⟨2099, 12, 31, 23, 59, 0⟩) .b = none ∧
      firing quiet .a = none ∧ firing quiet .b = none ∧ inForceOnAir (at_ ⟨2099, 12, 31, 23, 59, 0⟩) .a 3 = false ∧
      firing bothDue .a = some 3 ∧ firing bothDue .b = some 1 := by
  decide

/-- R161: at midnight A0 was last due; A is in AUTO, the clock set, nothing in force; MANUAL derives nothing. -/
theorem test_witness_derivation_is_called_for :
    present (at_ ⟨2099, 12, 31, 0, 0, 0⟩) .a = true ∧ ((at_ ⟨2099, 12, 31, 0, 0, 0⟩).svc .a).mode = .auto ∧
      (at_ ⟨2099, 12, 31, 0, 0, 0⟩).clock.isSet = true ∧ (at_ ⟨2099, 12, 31, 0, 0, 0⟩).phase = .running ∧
      scheduledPattern (at_ ⟨2099, 12, 31, 0, 0, 0⟩) .a = some (0, 12) ∧
      ((at_ ⟨2099, 12, 31, 0, 0, 0⟩).svc .a).state = .undetermined ∧ (quiet.svc .a).mode = .manual ∧
      ((deriveAll bothDue).svc .a).request = some (scheduleRequest 3) ∧
      ((deriveAll bothDue).svc .b).request = some (scheduleRequest 1) ∧ (deriveAll bothDue).arrival = [.a, .b] := by decide

theorem test_witness_ScheduledPatternWasLastDue :
    (∀ m : Fin 12, (quiet.cfg.rows.get .a)[m].length ≤ 4) ∧ rowSound ([⟨0, 0⟩, ⟨1439, 3⟩] : List RowEntry) ∧
      monthRow quiet .a 12 = [⟨0, 0⟩, ⟨1439, 3⟩] ∧ monthRow quiet .a 1 = [] ∧ (1 + 11 - 1) % 12 + 1 = 12 ∧
      monthRow quiet .b 1 = [] :=
  ⟨by decide, ⟨by decide, by decide, by decide⟩, by decide, by decide, by decide, by decide⟩

/-- The site with start-up not yet decided. -/
def starting (s : State) : State := { s with phase := .starting }

theorem test_witness_AdoptionChoosesAPattern :
    adoptionReady (starting quiet) = true ∧ adoptionReady quiet = false ∧ candidates quiet .b = [2] ∧
      candidates { quiet with cfg := { quiet.cfg with patterns := ⟨Vector.replicate 4 none, Vector.replicate 4 none⟩ } } .a = [] ∧
      candidates quiet .a = [0, 2] ∧ (quiet.svc .a).mode = .manual ∧
      scheduledPattern (at_ ⟨2099, 12, 31, 0, 0, 0⟩) .a = some (0, 12) ∧
      ((at_ ⟨2099, 12, 31, 0, 0, 0⟩).svc .a).mode = .auto := by decide

theorem blank_sound : configSound ConfigRam.blank := by
  have hp : ∀ (i : Fin 32), ConfigRam.blank.points[i] = none := by decide
  have hq : ∀ x (k : Fin 4), (ConfigRam.blank.patterns.get x)[k] = none := by
    intro x
    cases x <;> decide
  have hr : ∀ x (m : Fin 12), (ConfigRam.blank.rows.get x)[m] = [] := by
    intro x
    cases x <;> decide
  refine ⟨⟨fun i r h => ?_, fun i j r q _ h _ => ?_⟩, fun i r h => ?_, by decide, by decide, fun x => ?_,
    fun x k p h => ?_, fun x m => ?_⟩
  · simp [hp] at h
  · simp [hp] at h
  · simp [hp] at h
  · cases x <;> exact ⟨by decide, by decide, by decide, by decide, by decide, by decide, by decide, by decide,
      by decide, by decide⟩
  · simp [hq] at h
  · rw [hr]
    exact ⟨by simp, by simp, by simp⟩

theorem test_witness_ImageHoldsTheConfiguration : configSound ConfigRam.blank := blank_sound

/-- R181: an image of zeros has no mark; and the fields of the reference's tables at their bounds, byte by byte. -/
theorem test_invalid_images :
    configOf (List.replicate 1758 0) = none ∧ baseValid 0x4F = true ∧ baseValid 0x50 = false ∧ baseValid 0x58 = true ∧
      (pointOfImage [0x19, 0x7F, 0x7D, 0x7E, 50] 0).isSome = true ∧ pointOfImage [0x19, 0x80, 0x7D, 0x7E, 50] 0 = none ∧
      pointOfImage [0x01, 0x7F, 0x7D, 0x7E, 50] 0 = none ∧ pointOfImage [0x19, 0x7F, 0x7D, 0x7E, 201] 0 = none ∧
      pointOfImage [0x1E, 0xFF, 0xFF, 0xFF, 0] 0 = some none ∧
      rowOfImage [0, 0, 0xFF, 0, 1, 3, 0, 0, 0xFF, 0, 0, 0xFF] 0 = none ∧
      rowOfImage [5, 0x9F, 3, 9, 9, 0xFF, 0, 0, 0xFF, 0, 0, 0xFF] 0 = some [⟨1439, 3⟩] ∧
      rowOfImage [5, 0xA0, 3, 0, 0, 0xFF, 0, 0, 0xFF, 0, 0, 0xFF] 0 = none := by decide

theorem test_witness_StepKeepsTheOutputsSafe : outputsSafe airing ∧ ∃ t, StepsTo airing t := by
  refine ⟨⟨fun x => ?_, fun h => absurd h (by decide), fun _ _ h => by cases h⟩, _, rfl⟩
  cases x
  · refine ⟨fun _ => ⟨Or.inr (by decide), fun k c hk _ => ?_⟩, fun h => absurd h (by decide)⟩
    have : ∀ n : Fin 4, (airing.interlock n).state = .closed := by decide
    exact this k
  · exact ⟨fun h => absurd h (by decide), fun _ => by decide⟩

theorem test_witness_StepKeepsQueuesClockAndArrival :
    portsSound airing ∧ clockSound airing ∧ arrivalSound airing ∧ ∃ t, StepsTo airing t := by
  refine ⟨fun i => ?_, by show dateValid _ = true; decide, ⟨by decide, fun x => ?_⟩, _, rfl⟩
  · cases i <;> exact ⟨by decide, by decide⟩
  · cases x <;> decide

theorem test_witness_StepKeepsTheConfigurationValid : configSound State.reset.cfg ∧ ∃ t, StepsTo State.reset t :=
  ⟨blank_sound, _, rfl⟩

end Sys2Proof.Tests
end

