-- ==== Sys2Proof/Proofs/Measurement.lean ====
section
/-! PROOFS. The measurement of a valid reading: the arithmetic of R118 to R121, and a tower's row after the reading
(R117 to R124). -/

namespace Sys2Proof.Machine

/-! ## The measured ratio and the ratio error (R118, R120) -/

/-- R118: the quotient is the one whole number within half a milli-ratio, a half counted up. -/
theorem ratioQuotient_eq {m ref q : Nat} (hlo : q * (2 * ref) ≤ 2 * m * 1000 + ref)
    (hhi : 2 * m * 1000 + ref < (q + 1) * (2 * ref)) : ratioQuotient m ref = q :=
  Nat.div_eq_of_lt_le hlo hhi

theorem measuredRatio_of_gt {m ref : Nat} (h : 65535 < ratioQuotient m ref) :
    measuredRatio m ref = 65535 ∧ ratioSaturated m ref = true :=
  ⟨min_eq_right h.le, decide_eq_true h⟩

theorem measuredRatio_of_le {m ref : Nat} (h : ratioQuotient m ref ≤ 65535) :
    measuredRatio m ref = ratioQuotient m ref ∧ ratioSaturated m ref = false :=
  ⟨min_eq_left h, decide_eq_false h.not_gt⟩

theorem ratioQuotient_zero {ref : Nat} (href : 0 < ref) : ratioQuotient 0 ref = 0 :=
  ratioQuotient_eq (by omega) (by omega)

theorem measuredRatio_zero {ref : Nat} (href : 0 < ref) : measuredRatio 0 ref = 0 := by
  simp [measuredRatio, ratioQuotient_zero href]

theorem measuredRatio_self {ref : Nat} (href : 0 < ref) : measuredRatio ref ref = 1000 := by
  have hq : ratioQuotient ref ref = 1000 := ratioQuotient_eq (by omega) (by omega)
  simp [measuredRatio, hq]

/-- R120: the size of the error is the departure over the reference, rounded as the ratio is; its sign is the
departure's. -/
theorem ratioError_eq (r ref : Nat) :
    ratioError r ref =
      saturate999 (((r : Int) - ref).sign * (ratioQuotient ((r : Int) - ref).natAbs ref : Nat)) := rfl

theorem ratioError_above {ref q e : Nat} (href : 0 < ref) (hlo : e * (2 * ref) ≤ 2 * q * 1000 + ref)
    (hhi : 2 * q * 1000 + ref < (e + 1) * (2 * ref)) : ratioError (ref + q) ref = min (e : Int) 999 := by
  have he := ratioQuotient_eq hlo hhi
  have hd : ((ref + q : Nat) : Int) - ref = q := by omega
  rw [ratioError_eq, hd, Int.natAbs_natCast, he]
  rcases Nat.eq_zero_or_pos q with rfl | hq
  · obtain rfl : e = 0 := he.symm.trans (ratioQuotient_zero href)
    simp [saturate999]
  · rw [Int.sign_eq_one_of_pos (by omega), saturate999]
    omega

theorem ratioError_below {r q e : Nat} (hq : 0 < q) (hlo : e * (2 * (r + q)) ≤ 2 * q * 1000 + (r + q))
    (hhi : 2 * q * 1000 + (r + q) < (e + 1) * (2 * (r + q))) : ratioError r (r + q) = -(min (e : Int) 999) := by
  have hd : (r : Int) - (r + q : Nat) = -q := by omega
  rw [ratioError_eq, hd, Int.natAbs_neg, Int.natAbs_natCast, ratioQuotient_eq hlo hhi,
    Int.sign_eq_neg_one_of_neg (by omega), saturate999]
  omega

theorem ratioError_zero {ref : Nat} (href : 0 < ref) : ratioError 0 ref = -999 := by
  have h := ratioError_below (r := 0) (q := ref) (e := 1000) href (by omega) (by omega)
  simpa using h

/-! ## Normalised angles (R119, R121) -/

theorem normalise_mem (z : Int) : -1800 ≤ normalise z ∧ normalise z ≤ 1799 := by
  unfold normalise; omega

theorem normalise_eq_add_turns (z : Int) : normalise z = z + 3600 * -((z + 1800) / 3600) := by
  unfold normalise; omega

/-- The difference of two phases in range needs at most one turn. -/
theorem normalise_of_difference {z : Int} (hlo : -3599 ≤ z) (hhi : z ≤ 3599) :
    normalise z = z ∨ normalise z = z + 3600 ∨ normalise z = z - 3600 := by
  unfold normalise; omega

theorem phaseError_self (phi : Int) : phaseError phi phi = 0 := by simp [phaseError, normalise]

/-! ## The parameters of a tower (R115, R124) -/

theorem carries_eq_none {p : Pattern} {i : Fin 12} (h : i = p.refTower ∨ p.towers[i] = none) : carries p i = none := by
  rcases h with h | h <;> simp [carries, h]

theorem carries_eq_some {p : Pattern} {i : Fin 12} {t : TowerEntry} (hi : i ≠ p.refTower) (ht : p.towers[i] = some t) :
    carries p i = some t := by
  rw [carries, if_neg hi, ht]

/-- A parameter keeps its state, or is IN or OUT: none returns to PENDING. -/
theorem stepParam_cases (n : Nat) (r : Run) (st : ParamState) :
    stepParam n r st = st ∨ stepParam n r st = .in_ ∨ stepParam n r st = .out := by
  unfold stepParam
  split
  · exact .inl rfl
  · cases r.dir
    · exact .inl rfl
    · exact .inr (.inl rfl)
    · exact .inr (.inr rfl)

/-- R124: the record of a parameter whose state a run has moved. -/
theorem paramEvent_stepParam (x : Svc) (slot : Option (Fin 4)) (q : Param) (n : Nat) (r : Run) (st : ParamState)
    (error : Int) :
    paramEvent x slot q st (stepParam n r st) error =
      if stepParam n r st = st then []
      else if stepParam n r st = .in_ then [.paramIn x slot q error] else [.paramOut x slot q error] := by
  unfold paramEvent
  by_cases hst : stepParam n r st = st
  · rw [if_pos hst.symm, if_pos hst]
  · rw [if_neg (Ne.symm hst), if_neg hst]
    rcases (stepParam_cases n r st).resolve_left hst with h | h <;> simp [h]

/-! ## A tower's row after a valid reading (R117) -/

section Row
variable {x : Svc} {slot : Option (Fin 4)} {p : Pattern} {ref e : MonitorEntry} {frame : List MonitorEntry}
  {i : Fin 12} {row : TowerRow} {t : TowerEntry}

theorem phaseInRange_iff (z : Int) : phaseInRange z = true ↔ -1800 ≤ z ∧ z ≤ 1799 := decide_eq_true_iff

theorem updateRow_beyond_frame (h : frame.length ≤ i.val) : updateRow x slot p ref frame i row = (row, []) := by
  rw [updateRow, List.getElem?_eq_none h]

theorem updateRow_phase_out_of_range (he : frame[i.val]? = some e) (h : e.phase < -1800 ∨ 1799 < e.phase) :
    updateRow x slot p ref frame i row = (row, []) := by
  have hr : phaseInRange e.phase = false := by
    rw [Bool.eq_false_iff, Ne, phaseInRange_iff]; omega
  simp [updateRow, he, hr]

theorem updateRow_carrying_none (he : frame[i.val]? = some e) (hr : phaseInRange e.phase = true)
    (hc : carries p i = none) : updateRow x slot p ref frame i row = (storeMeasured ref e row, []) := by
  simp [updateRow, he, hr, hc]

theorem updateRow_carrying_some (he : frame[i.val]? = some e) (hr : phaseInRange e.phase = true)
    (hc : carries p i = some t) :
    updateRow x slot p ref frame i row = judgeRow x slot p.persistence t i ref e row := by
  simp [updateRow, he, hr, hc]

/-- The measured values of a row, whether or not the tower carries parameters (R117, R118, R119). -/
theorem updateRow_measured (he : frame[i.val]? = some e) (hr : phaseInRange e.phase = true) {new : TowerRow}
    (hnew : new = (updateRow x slot p ref frame i row).1) :
    new.noReading = false ∧ new.ratio = some (measuredRatio e.magnitude ref.magnitude) ∧
      new.saturated = ratioSaturated e.magnitude ref.magnitude ∧
      new.phase = some (normalise (e.phase - ref.phase)) := by
  subst hnew
  cases hc : carries p i with
  | none => rw [updateRow_carrying_none he hr hc]; exact ⟨rfl, rfl, rfl, rfl⟩
  | some t => rw [updateRow_carrying_some he hr hc]; exact ⟨rfl, rfl, rfl, rfl⟩

/-- A judged row's records: the ratio's before the phase's (R124). -/
theorem judgeRow_events (n : Nat) :
    (judgeRow x slot n t i ref e row).2 =
      paramEvent x slot ⟨i, .ratio⟩ row.ratioState (judgeRow x slot n t i ref e row).1.ratioState
          (ratioError (measuredRatio e.magnitude ref.magnitude) t.ratio) ++
        paramEvent x slot ⟨i, .phase⟩ row.phaseState (judgeRow x slot n t i ref e row).1.phaseState
          (phaseError (normalise (e.phase - ref.phase)) t.phase) := rfl

end Row
end Sys2Proof.Machine

namespace Sys2Proof.Proofs
open Sys2Proof.Machine

/-- Settles O48: the row by the branches of `updateRow`, each rule of the arithmetic by its lemma. -/
theorem readingsAreMeasured : Obligations.ReadingsAreMeasured := by
  refine ⟨fun x slot p ref frame i row => ⟨updateRow_beyond_frame, fun e he =>
      ⟨updateRow_phase_out_of_range he, fun hlo hhi new hnew => ?_⟩⟩,
    fun m ref href => ⟨fun q hlo hhi => ?_, measuredRatio_zero href, measuredRatio_self href⟩,
    fun r ref href _ => ⟨fun q hq e hlo hhi => ⟨fun hle => ?_, fun hlt => ?_⟩, ratioError_zero href⟩,
    fun z => ⟨⟨(normalise_mem z).1, (normalise_mem z).2, _, normalise_eq_add_turns z⟩, normalise_of_difference,
      fun phi ref => ⟨rfl, phaseError_self phi⟩⟩⟩
  case refine_1 =>
    have hr := (phaseInRange_iff e.phase).mpr ⟨hlo, hhi⟩
    obtain ⟨hread, hratio, hsat, hphase⟩ := updateRow_measured he hr hnew
    refine ⟨hread, hratio, hsat, hphase, fun hno => ?_, fun t hi ht er ep her hep => ?_⟩
    · rw [updateRow_carrying_none he hr (carries_eq_none hno)] at hnew ⊢
      subst hnew
      exact ⟨rfl, rfl, rfl, rfl, rfl, rfl, rfl⟩
    · rw [updateRow_carrying_some he hr (carries_eq_some hi ht)] at hnew ⊢
      subst hnew her hep
      refine ⟨rfl, rfl, rfl, rfl, rfl, rfl, ?_⟩
      rw [judgeRow_events]
      exact congrArg₂ (· ++ ·) (paramEvent_stepParam ..) (paramEvent_stepParam ..)
  case refine_2 =>
    have hquot := ratioQuotient_eq hlo hhi
    exact ⟨fun h => measuredRatio_of_gt (hquot ▸ h), fun h => hquot ▸ measuredRatio_of_le (hquot ▸ h)⟩
  case refine_3 =>
    obtain rfl : r = ref + q := by omega
    exact ratioError_above href hlo hhi
  case refine_4 =>
    obtain rfl : ref = r + q := by omega
    exact ratioError_below (by omega) hlo hhi

end Sys2Proof.Proofs
end

section
/-! PROOFS. The scheduled pattern (R160): the entry last due in the current month's row, and the walk back through the
earlier months. -/

namespace Sys2Proof.Machine

/-! ## The row of the current month (R160, step 1) -/

/-- R154: the row of a calendar month is one of the twelve, so it is sound when they are. -/
theorem monthRow_sound {s : State} {x : Svc} {month : Nat} (hlo : 1 ≤ month) (hhi : month ≤ 12)
    (hrows : ∀ m : Fin 12, rowSound (s.cfg.rows.get x)[m]) : rowSound (monthRow s x month) := by
  have hlt : month - 1 < 12 := by omega
  rw [monthRow, Vector.getElem?_eq_getElem hlt]
  exact hrows ⟨month - 1, hlt⟩

/-- In a row in strictly ascending order the entry with the greatest minute is the last one. -/
theorem getLast?_eq_of_minute_max {row : List RowEntry} (hasc : row.Pairwise fun a b => a.minute < b.minute)
    {e : RowEntry} (he : e ∈ row) (hmax : ∀ f ∈ row, f.minute ≤ e.minute) : row.getLast? = some e := by
  obtain rfl | ⟨init, last, rfl⟩ := row.eq_nil_or_concat'
  case inl => simp at he
  case inr =>
    have hbefore : ∀ a ∈ init, a.minute < last.minute := by
      simpa using (List.pairwise_append.1 hasc).2.2
    have hlast : last.minute ≤ e.minute := hmax last (by simp)
    obtain hinit | rfl : e ∈ init ∨ e = last := by simpa using he
    · exact absurd (hbefore e hinit) hlast.not_gt
    · exact List.getLast?_concat

/-- R160, step 1: the entry with the greatest minute among those due is the last of them. -/
theorem getLast?_due_eq {row : List RowEntry} (hrow : rowSound row) {minute : Nat} {e : RowEntry} (he : e ∈ row)
    (hdue : e.minute ≤ minute) (hmax : ∀ f ∈ row, f.minute ≤ minute → f.minute ≤ e.minute) :
    (row.filter fun f => f.minute ≤ minute).getLast? = some e := by
  obtain ⟨_, _, hasc⟩ := hrow
  refine getLast?_eq_of_minute_max (hasc.filter _) (List.mem_filter.2 ⟨he, decide_eq_true hdue⟩) fun f hf => ?_
  obtain ⟨hmem, hle⟩ := List.mem_filter.1 hf
  exact hmax f hmem (of_decide_eq_true hle)

/-! ## The walk through the earlier months (R160, steps 2 and 3) -/

/-- What the walk takes from a month: the slot of the last entry of its row, with the month (R160). -/
def lastOfMonth (s : State) (x : Svc) (m : Nat) : Option (Fin 4 × Nat) :=
  (monthRow s x m).getLast?.map fun e => (e.slot, m)

theorem lastOfMonth_of_empty {s : State} {x : Svc} {m : Nat} (h : monthRow s x m = []) : lastOfMonth s x m = none := by
  simp [lastOfMonth, h]

theorem lastOfMonth_of_concat {s : State} {x : Svc} {m : Nat} {row : List RowEntry} {e : RowEntry}
    (h : monthRow s x m = row ++ [e]) : lastOfMonth s x m = some (e.slot, m) := by
  simp [lastOfMonth, h]

/-- A search over the first `n` numbers ends at the first at which there is something to find. -/
theorem findSome?_range_of_first {β : Type} {f : Nat → Option β} {n k : Nat} {b : β} (hk : k < n)
    (hfound : f k = some b) (hbefore : ∀ i < k, f i = none) : (List.range n).findSome? f = some b := by
  obtain ⟨r, rfl⟩ := Nat.exists_eq_add_of_lt hk
  have hnone : (List.range k).findSome? f = none :=
    List.findSome?_eq_none_iff.2 fun i hi => hbefore i (List.mem_range.1 hi)
  rw [Nat.add_assoc, List.range_add, List.findSome?_append, hnone, List.range_succ_eq_map]
  simp [hfound]

/-! ## The scheduled pattern by the two branches of R160 -/

theorem scheduledPattern_of_last_due {s : State} {x : Svc} {e : RowEntry}
    (h : ((monthRow s x s.clock.time.month).filter fun f => f.minute ≤ minuteOfDay s.clock.time).getLast? = some e) :
    scheduledPattern s x = some (e.slot, s.clock.time.month) := by
  simp only [scheduledPattern, h]

/-- R160: with no entry of the current month due, the eleven months before it are walked, the nearest first. -/
theorem scheduledPattern_of_none_due {s : State} {x : Svc}
    (h : ∀ e ∈ monthRow s x s.clock.time.month, minuteOfDay s.clock.time < e.minute) :
    scheduledPattern s x =
      (List.range 11).findSome? fun k => lastOfMonth s x (monthsBefore s.clock.time.month (k + 1)) := by
  have hnone : ((monthRow s x s.clock.time.month).filter fun f => f.minute ≤ minuteOfDay s.clock.time) = [] :=
    List.filter_eq_nil_iff.2 fun e he => by simpa using h e he
  simp only [scheduledPattern, hnone, List.getLast?_nil, List.findSome?_map]
  rfl

/-- R160, step 2: the nearest earlier month with an entry gives its last one. -/
theorem scheduledPattern_of_nearest {s : State} {x : Svc} {n : Nat} {row : List RowEntry} {e : RowEntry}
    (hnone : ∀ f ∈ monthRow s x s.clock.time.month, minuteOfDay s.clock.time < f.minute)
    (hlo : 1 ≤ n) (hhi : n ≤ 11) (hrow : monthRow s x (monthsBefore s.clock.time.month n) = row ++ [e])
    (hempty : ∀ i, 1 ≤ i → i < n → monthRow s x (monthsBefore s.clock.time.month i) = []) :
    scheduledPattern s x = some (e.slot, monthsBefore s.clock.time.month n) := by
  obtain ⟨k, rfl⟩ := Nat.exists_eq_add_of_le' hlo
  rw [scheduledPattern_of_none_due hnone]
  exact findSome?_range_of_first (by omega) (lastOfMonth_of_concat hrow)
    fun i hi => lastOfMonth_of_empty (hempty (i + 1) (by omega) (by omega))

/-- R160, step 3: with no entry in any of the eleven months there is no scheduled pattern. -/
theorem scheduledPattern_eq_none {s : State} {x : Svc}
    (hnone : ∀ f ∈ monthRow s x s.clock.time.month, minuteOfDay s.clock.time < f.minute)
    (hempty : ∀ n, 1 ≤ n → n ≤ 11 → monthRow s x (monthsBefore s.clock.time.month n) = []) :
    scheduledPattern s x = none := by
  rw [scheduledPattern_of_none_due hnone, List.findSome?_eq_none_iff]
  intro k hk
  have hlt : k < 11 := List.mem_range.1 hk
  exact lastOfMonth_of_empty (hempty (k + 1) (by omega) (by omega))

end Sys2Proof.Machine

namespace Sys2Proof.Proofs
open Sys2Proof.Machine

/-- Settles O53: the row of the current month is in ascending order, so the greatest minute due is its last; the walk
stops at the first month that has an entry. -/
theorem scheduledPatternWasLastDue : Obligations.ScheduledPatternWasLastDue := by
  rintro x s _ _ rfl hlo hhi rfl hrows
  refine ⟨fun e he hdue hmax => ?current,
    fun hnone => ⟨fun n hn hn' row e hrow hempty => ?earlier, fun hempty => ?none⟩⟩
  case current =>
    exact scheduledPattern_of_last_due (getLast?_due_eq (monthRow_sound hlo hhi hrows) he hdue hmax)
  case earlier => exact scheduledPattern_of_nearest hnone hn hn' hrow hempty
  case none => exact scheduledPattern_eq_none hnone hempty

end Sys2Proof.Proofs
end

section
/-! PROOFS. What the operations of the part keep (O58, O59): the outputs as R52, R53 and R55 have them, the queues, the
arrival order, the clock's range and the configuration. Each operation is walked through once, for all of them. -/

namespace Sys2Proof.Machine

/-! ## The conditions that are kept -/

/-- A service's outputs as R52, R53 and R55 have them. -/
def outputsOk (s : State) (x : Svc) : Prop := permitSafe s x ∧ outputsDown s x

/-- The store is loading an image (R181). -/
def isLoading (s : State) : Prop := ∃ page buffer, s.store = .loading page buffer

/-- What every operation but a reset and the load end keeps: the phase but for adoption's end, no load begun, the ports'
queues, the arrival order, and the outputs of each service. -/
structure KeepsSafe (s t : State) : Prop where
  phase   : t.phase = s.phase ∨ s.phase = .starting ∧ t.phase = .running
  load    : isLoading t → isLoading s
  ports   : portsSound s → portsSound t
  arrival : arrivalSound s → arrivalSound t
  outputs : ∀ x, outputsOk s x → outputsOk t x

/-- What every operation keeps that is no configuration write and no step of the clock either. -/
structure Keeps (s t : State) : Prop extends KeepsSafe s t where
  cfg  : t.cfg = s.cfg
  time : t.clock.time = s.clock.time

/-- A service's outputs stay safe where its state and output levels stand and the same interlocks are over it. -/
theorem outputsOk_congr {s t : State} {x : Svc} (state : (t.svc x).state = (s.svc x).state)
    (permit : (t.svc x).permit = (s.svc x).permit) (ceiling : (t.svc x).ceiling = (s.svc x).ceiling)
    (cut : (t.svc x).cut = (s.svc x).cut) (two : t.twoServices = s.twoServices) (interlocks : t.interlocks = s.interlocks)
    (settings : t.cfg.interlocks = s.cfg.interlocks) (h : outputsOk s x) : outputsOk t x := by
  simpa only [outputsOk, permitSafe, outputsDown, effHas, present, State.interlockRec, State.interlock, state, permit,
    ceiling, cut, two, interlocks, settings] using h

theorem KeepsSafe.refl (s : State) : KeepsSafe s s := ⟨.inl rfl, id, id, id, fun _ => id⟩

theorem Keeps.refl (s : State) : Keeps s s := ⟨.refl s, rfl, rfl⟩

theorem KeepsSafe.trans {s t u : State} (h : KeepsSafe s t) (k : KeepsSafe t u) : KeepsSafe s u where
  phase := by
    rcases h.phase with h1 | ⟨h1, h2⟩
    · rcases k.phase with k1 | ⟨k1, k2⟩
      · exact .inl (k1.trans h1)
      · exact .inr ⟨h1 ▸ k1, k2⟩
    · rcases k.phase with k1 | ⟨k1, _⟩
      · exact .inr ⟨h1, k1.trans h2⟩
      · rw [k1] at h2; cases h2
  load := h.load ∘ k.load
  ports := k.ports ∘ h.ports
  arrival := k.arrival ∘ h.arrival
  outputs x := k.outputs x ∘ h.outputs x

theorem Keeps.trans {s t u : State} (h : Keeps s t) (k : Keeps t u) : Keeps s u :=
  ⟨h.toKeepsSafe.trans k.toKeepsSafe, k.cfg.trans h.cfg, k.time.trans h.time⟩

/-- A fold of operations that each keep these keeps them. -/
theorem Keeps.foldl {α : Type} {f : State → α → State} (hf : ∀ s a, Keeps s (f s a)) (l : List α) (s : State) :
    Keeps s (l.foldl f s) := by
  induction l generalizing s with
  | nil => exact .refl s
  | cons a l ih => exact (hf s a).trans (ih (f s a))

/-- An operation that leaves the ports, the services, the interlocks, the phase and the store leaves what is kept. -/
theorem KeepsSafe.of_same {s t : State} (phase : t.phase = s.phase) (store : t.store = s.store) (ports : t.ports = s.ports)
    (arrival : t.arrival = s.arrival) (svcs : t.svcs = s.svcs) (two : t.twoServices = s.twoServices)
    (interlocks : t.interlocks = s.interlocks) (settings : t.cfg.interlocks = s.cfg.interlocks) : KeepsSafe s t where
  phase := .inl phase
  load := by simp only [isLoading, store]; exact id
  ports := by simp only [portsSound, ports]; exact id
  arrival := by simp only [arrivalSound, State.svc, arrival, svcs]; exact id
  outputs x := by
    have hx : t.svc x = s.svc x := by rw [State.svc, svcs, State.svc]
    exact outputsOk_congr (by rw [hx]) (by rw [hx]) (by rw [hx]) (by rw [hx]) two interlocks settings

theorem Keeps.of_same {s t : State} (phase : t.phase = s.phase) (store : t.store = s.store) (ports : t.ports = s.ports)
    (arrival : t.arrival = s.arrival) (svcs : t.svcs = s.svcs) (two : t.twoServices = s.twoServices)
    (interlocks : t.interlocks = s.interlocks) (cfg : t.cfg = s.cfg) (clock : t.clock = s.clock) : Keeps s t :=
  ⟨.of_same phase store ports arrival svcs two interlocks (by rw [cfg]), cfg, by rw [clock]⟩

/-! ## Updates -/

theorem keeps_setTable (s : State) (x : Svc) (v : ConfTable) : Keeps s (s.setTable x v) :=
  .of_same rfl rfl rfl rfl rfl rfl rfl rfl rfl
theorem keeps_setReceiver (s : State) (x : Svc) (v : Receiver) : Keeps s (s.setReceiver x v) :=
  .of_same rfl rfl rfl rfl rfl rfl rfl rfl rfl
theorem keeps_setJob (s : State) (j : Job) : Keeps s (s.setJob j) := .of_same rfl rfl rfl rfl rfl rfl rfl rfl rfl
theorem keeps_noJob (s : State) : Keeps s { s with job := none } := .of_same rfl rfl rfl rfl rfl rfl rfl rfl rfl
theorem keeps_setBus (s : State) (b : Bus) : Keeps s (s.setBus b) := .of_same rfl rfl rfl rfl rfl rfl rfl rfl rfl
theorem keeps_setScanner (s : State) (c : Scanner) : Keeps s (s.setScanner c) :=
  .of_same rfl rfl rfl rfl rfl rfl rfl rfl rfl
theorem keeps_mapPoints (s : State) (f : Fin 32 → PointState → PointState) : Keeps s (s.mapPoints f) := by
  apply Keeps.of_same <;> simp
theorem keeps_setPoint (s : State) (i : Fin 32) (v : PointState) : Keeps s (s.setPoint i v) :=
  .of_same rfl rfl rfl rfl rfl rfl rfl rfl rfl
theorem keeps_setExp (s : State) (e : Fin 8) (v : Expander) : Keeps s (s.setExp e v) :=
  .of_same rfl rfl rfl rfl rfl rfl rfl rfl rfl
theorem keeps_reach (s : State) (t : Nat) : Keeps s (s.reach t) := .of_same rfl rfl rfl rfl rfl rfl rfl rfl rfl

/-- A record kept for R177 takes another: the queue stays within 32, and ATTN is asserted (R177). -/
theorem portSound_deliver {p : Port} (r : EventRecord) (h : portSound p) : portSound (deliver r p) := by
  obtain ⟨hlen, hattn⟩ := h
  unfold deliver
  split
  · exact ⟨by simp; omega, by simp⟩
  · exact ⟨hlen, hattn⟩

theorem portsSound_post {s : State} (e : Event) (h : portsSound s) : portsSound (post e s) := by
  have offered (i : PortId) (r : EventRecord) : portSound (offer s e i r) := by
    unfold offer
    split
    · exact portSound_deliver r (h i)
    · exact h i
  unfold post
  split
  · exact h
  · intro i; cases i <;> exact offered _ _

theorem keeps_post (e : Event) (s : State) : Keeps s (post e s) where
  phase := .inl (post_phase e s)
  load := by simp [isLoading]
  ports := portsSound_post e
  arrival := by simp [arrivalSound]
  outputs x := by
    simp only [outputsOk, permitSafe, outputsDown, effHas, present_post, post_svc_at, post_interlockRec_at,
      post_interlock_at]
    exact id
  cfg := post_cfg e s
  time := by rw [post_clock]

theorem outputsOk_setSvc_other {s : State} {x y : Svc} (v : Service) (h : x ≠ y) (hs : outputsOk s y) :
    outputsOk (s.setSvc x v) y := by
  have hy := State.svc_setSvc_other s v h
  exact outputsOk_congr (s := s) (by rw [hy]) (by rw [hy]) (by rw [hy]) (by rw [hy]) rfl rfl rfl hs

/-- A change of a service's record that is none of its output levels, its state or its request. -/
theorem keeps_setSvc {s : State} {x : Svc} {v : Service} (state : v.state = (s.svc x).state)
    (permit : v.permit = (s.svc x).permit) (ceiling : v.ceiling = (s.svc x).ceiling) (cut : v.cut = (s.svc x).cut)
    (request : v.request = (s.svc x).request) : Keeps s (s.setSvc x v) where
  phase := .inl rfl
  load := id
  ports := id
  arrival := fun ⟨hn, hm⟩ => ⟨hn, fun y => by
    rcases eq_or_ne x y with rfl | h
    · simpa [request] using hm x
    · simpa [State.svc_setSvc_other s v h] using hm y⟩
  outputs y := by
    rcases eq_or_ne x y with rfl | h
    · exact outputsOk_congr (by simpa using state) (by simpa using permit) (by simpa using ceiling) (by simpa using cut)
        rfl rfl rfl
    · exact outputsOk_setSvc_other v h
  cfg := rfl
  time := rfl

/-! ## Outputs computed again -/

/-- No interlock of a service's effective mask is OPEN or LATCHED (R52). -/
theorem interlockHolds_eq_false (s : State) (x : Svc) :
    interlockHolds s x = false ↔
      ∀ k c, s.interlockRec k = some c → effHas s c.mask x = true → (s.interlock k).state = .closed := by
  have at' (k : Fin 4) : (effectiveOpen s k && interlockCovers s k x) = false ↔
      ∀ c, s.interlockRec k = some c → effHas s c.mask x = true → (s.interlock k).state = .closed := by
    unfold effectiveOpen interlockCovers
    cases s.interlockRec k with
    | none => simp
    | some c => by_cases h : (s.interlock k).state = .closed <;> simp [h]
  simp [interlockHolds, List.any_eq_false, ← at']

@[simp] theorem ceilingUnder_false (s : State) (x : Svc) : ceilingUnder s x false = 0 := by simp [ceilingUnder]

@[simp] theorem cutLevel_false (s : State) (x : Svc) (n : Nat) : cutLevel s x false n = false := by
  unfold cutLevel; split <;> rfl

theorem onOrNearAir_iff (st : SvcState) : onOrNearAir st = true ↔ st = .verifying ∨ st = .onAir := by
  cases st <;> simp [onOrNearAir]

/-- A service's record once its outputs are computed again (R52, R53, R55). -/
theorem outputs_svc_same (x : Svc) (s : State) :
    (outputs x s).svc x =
      { s.svc x with
        permit := permitLevel s x
        ceiling := ceilingUnder s x (permitLevel s x)
        cut := cutLevel s x (permitLevel s x) (ceilingUnder s x (permitLevel s x))
        edges := edgesTo (s.svc x) (permitLevel s x)
          (cutLevel s x (permitLevel s x) (ceilingUnder s x (permitLevel s x))) } := by
  rw [outputs_eq]; dsimp only; split <;> simp

theorem outputs_svc_other {x y : Svc} (s : State) (h : x ≠ y) : (outputs x s).svc y = s.svc y := by
  rw [outputs_eq]; dsimp only; split <;> simp [State.svc_setSvc_other s _ h]

theorem outputs_phase (x : Svc) (s : State) : (outputs x s).phase = s.phase := by
  rw [outputs_eq]; dsimp only; split <;> simp

theorem outputs_arrival (x : Svc) (s : State) : (outputs x s).arrival = s.arrival := by
  rw [outputs_eq]; dsimp only; split <;> simp

/-- A site that is kept gives the same masks and interlocks, so outputs that are safe over it stay safe. -/
theorem outputsOk_of_site {s t : State} {x : Svc} (h : KeepsSite s t) (hx : t.svc x = s.svc x) (hs : outputsOk s x) :
    outputsOk t x :=
  outputsOk_congr (by rw [hx]) (by rw [hx]) (by rw [hx]) (by rw [hx]) h.twoServices h.interlocks (by rw [h.cfg]) hs

/-- Computed again, the outputs of a service are safe whatever they were (R52, R53, R55). -/
theorem outputsOk_outputs (x : Svc) (s : State) : outputsOk (outputs x s) x := by
  have site := keepsSite_outputs x s
  constructor
  · intro hp
    simp only [outputs_svc_same, permitLevel, Bool.and_eq_true, Bool.not_eq_true', onOrNearAir_iff,
      interlockHolds_eq_false] at hp ⊢
    simpa only [effHas, present, State.interlockRec, State.interlock, site.cfg, site.twoServices, site.interlocks] using hp
  · intro hp
    rw [outputs_svc_same] at hp ⊢
    simp only at hp ⊢
    simp [hp]

/-- A service's record replaced, what follows kept, and its outputs computed again. -/
theorem keeps_outputs_after {s t : State} {x : Svc} {v : Service} (hreq : v.request = (s.svc x).request)
    (h : Keeps (s.setSvc x v) t) : Keeps s (outputs x t) where
  phase := by rw [outputs_phase]; exact h.phase
  load := by rw [isLoading, (keepsSite_outputs x t).store]; exact h.load
  ports hs := by
    have ht : portsSound t := h.ports hs
    rw [outputs_eq]; dsimp only
    split
    · exact ht
    · exact portsSound_post _ ht
  arrival := fun ⟨hn, hm⟩ => by
    have hset : arrivalSound (s.setSvc x v) := ⟨hn, fun y => by
      rcases eq_or_ne x y with rfl | hy
      · simpa [hreq] using hm x
      · simpa [State.svc_setSvc_other s v hy] using hm y⟩
    obtain ⟨tn, tm⟩ := h.arrival hset
    refine ⟨by rw [outputs_arrival]; exact tn, fun y => ?_⟩
    rw [outputs_arrival, tm y]
    rcases eq_or_ne x y with rfl | hy
    · rw [outputs_svc_same]
    · rw [outputs_svc_other t hy]
  outputs y hs := by
    rcases eq_or_ne x y with rfl | hy
    · exact outputsOk_outputs x t
    · exact outputsOk_of_site (keepsSite_outputs x t) (outputs_svc_other t hy)
        (h.outputs y (outputsOk_setSvc_other v hy hs))
  cfg := (keepsSite_outputs x t).cfg.trans h.cfg
  time := by rw [(keepsSite_outputs x t).clock]; exact h.time

theorem setSvc_self (s : State) (x : Svc) : s.setSvc x (s.svc x) = s := by cases x <;> rfl

theorem keeps_outputs (x : Svc) (s : State) : Keeps s (outputs x s) :=
  keeps_outputs_after (v := s.svc x) rfl (by rw [setSvc_self]; exact .refl s)

/-! ## Services -/

theorem keeps_closeWindow (x : Svc) (s : State) : Keeps s (closeWindow x s) := keeps_setTable _ _ _

theorem keeps_toHeld (x : Svc) (c : HoldCause) (s : State) : Keeps s (toHeld x c s) :=
  keeps_outputs_after (by rfl) ((keeps_closeWindow _ _).trans (keeps_post _ _))

theorem keeps_enterVerifying (x : Svc) (s : State) : Keeps s (enterVerifying x s) := by
  unfold enterVerifying
  split
  · exact .refl s
  · exact keeps_outputs_after (by rfl) (keeps_setTable _ _ _)

theorem keeps_takeForJob (x : Svc) (st : SvcState) (s : State) : Keeps s (takeForJob x st s) :=
  keeps_outputs_after (by rfl) (keeps_closeWindow _ _)

theorem keeps_toUndetermined (x : Svc) (s : State) : Keeps s (toUndetermined x s) :=
  keeps_outputs_after (by rfl) (.refl _)

theorem keeps_throughEntryCheck (x : Svc) (s : State) : Keeps s (throughEntryCheck x s) := by
  unfold throughEntryCheck
  split
  · exact keeps_toUndetermined _ _
  · exact keeps_toHeld _ _ _
  · exact keeps_toHeld _ _ _
  · exact keeps_enterVerifying _ _

theorem keeps_autoExit (x : Svc) (s : State) : Keeps s (autoExit x s) := by
  unfold autoExit
  split
  · exact keeps_enterVerifying _ _
  · exact .refl s

theorem keeps_autoExitAll (s : State) : Keeps s (autoExitAll s) := (keeps_autoExit _ _).trans (keeps_autoExit _ _)

theorem keeps_autoExitReading (x : Svc) (l : List (Fin 32)) (s : State) : Keeps s (autoExitReading x l s) := by
  unfold autoExitReading
  split
  · exact keeps_autoExit _ _
  · exact .refl s

theorem keeps_interlockHold (k : Fin 4) (x : Svc) (s : State) : Keeps s (interlockHold k x s) := by
  unfold interlockHold
  split
  · exact keeps_toHeld _ _ _
  · exact .refl s

theorem keeps_disturb (i : Fin 32) (s : State) : Keeps s (disturb i s) := by
  have one (x : Svc) (t : State) : Keeps t (disturbService i x t) := by
    have held (b : Bool) : Keeps t (if b then toHeld x .pointDisturbed t else t) := by
      split
      · exact keeps_toHeld _ _ _
      · exact .refl t
    exact held _
  exact ((keeps_post _ _).trans (one _ _)).trans (one _ _)

theorem keeps_judgePoint (s : State) (i : Fin 32) : Keeps s (judgePoint s i) := by
  unfold judgePoint
  split
  · exact keeps_disturb _ _
  · exact .refl s

theorem keeps_judgePoints (l : List (Fin 32)) (s : State) : Keeps s (judgePoints l s) := .foldl keeps_judgePoint l s

theorem keeps_rederive (s : State) : Keeps s (rederive s).1 := by
  simp only [rederive]
  exact keeps_mapPoints _ _

/-! ## Requests -/

theorem arrivalSound_removeRequest {s : State} (x : Svc) (h : ∀ y, x ≠ y → (y ∈ s.arrival ↔ (s.svc y).request.isSome = true))
    (hn : s.arrival.Nodup) : arrivalSound (removeRequest x s) := by
  refine ⟨hn.filter _, fun y => ?_⟩
  have hmem : y ∈ (removeRequest x s).arrival ↔ y ∈ s.arrival ∧ y ≠ x := by simp [removeRequest]
  have hsvc : (removeRequest x s).svc y = (s.setSvc x { s.svc x with request := none }).svc y := rfl
  rw [hmem, hsvc]
  rcases eq_or_ne x y with rfl | hy
  · simp
  · simp [State.svc_setSvc_other s _ hy, h y hy, hy.symm]

/-- The request and the arrival order are no part of what a service's outputs are judged by. -/
theorem outputsOk_setRequest {s : State} {x y : Svc} (r : Option Request) (l : List Svc) (h : outputsOk s y) :
    outputsOk { s.setSvc x { s.svc x with request := r } with arrival := l } y :=
  outputsOk_congr (s := s.setSvc x { s.svc x with request := r }) rfl rfl rfl rfl rfl rfl rfl
    (by
      rcases eq_or_ne x y with rfl | hy
      · exact outputsOk_congr (s := s) (by simp) (by simp) (by simp) (by simp) rfl rfl rfl h
      · exact outputsOk_setSvc_other _ hy h)

theorem keeps_removeRequest (x : Svc) (s : State) : Keeps s (removeRequest x s) where
  phase := .inl rfl
  load := id
  ports := id
  arrival := fun ⟨hn, hm⟩ => arrivalSound_removeRequest x (fun y _ => hm y) hn
  outputs _ := outputsOk_setRequest none _
  cfg := rfl
  time := rfl

/-- The record of a request that waits at the end of the arrival order (R64). -/
def joinArrival (x : Svc) (r : Request) (s : State) : State :=
  { s.setSvc x { s.svc x with request := some r } with arrival := s.arrival ++ [x] }

/-- A request joins the arrival order of a service that had none. -/
theorem keeps_joinArrival {x : Svc} {s : State} (r : Request) (h : (s.svc x).request = none) :
    Keeps s (joinArrival x r s) where
  phase := .inl rfl
  load := id
  ports := id
  arrival := fun ⟨hn, hm⟩ => by
    have hx : x ∉ s.arrival := fun hmem => by simpa [h] using (hm x).1 hmem
    refine ⟨List.nodup_append.2 ⟨hn, by simp, by rintro y hy _ hx' rfl; simp_all⟩, fun y => ?_⟩
    have hsvc : (joinArrival x r s).svc y = (s.setSvc x { s.svc x with request := some r }).svc y := rfl
    have hmem : y ∈ (joinArrival x r s).arrival ↔ y ∈ s.arrival ∨ y = x := by simp [joinArrival]
    rw [hmem, hsvc]
    rcases eq_or_ne x y with rfl | hy
    · simp
    · simp [State.svc_setSvc_other s _ hy, hm y, hy.symm]
  outputs _ := outputsOk_setRequest (some r) _
  cfg := rfl
  time := rfl

theorem removeRequest_request (x : Svc) (s : State) : ((removeRequest x s).svc x).request = none := by
  have hsvc : (removeRequest x s).svc x = (s.setSvc x { s.svc x with request := none }).svc x := rfl
  rw [hsvc, State.svc_setSvc_same]

theorem keeps_storeRequest (x : Svc) (r : Request) (s : State) : Keeps s (storeRequest x r s) := by
  unfold storeRequest
  split
  · exact (((keeps_post _ _).trans (keeps_removeRequest _ _)).trans
      (keeps_joinArrival r (removeRequest_request _ _))).trans (keeps_post _ _)
  · next h => exact (keeps_joinArrival r h).trans (keeps_post _ _)

theorem keeps_dropRequest (x : Svc) (d : DropReason) (s : State) : Keeps s (dropRequest x d s) := by
  unfold dropRequest
  split
  · exact (keeps_removeRequest _ _).trans (keeps_post _ _)
  · exact .refl s

theorem keeps_postFired (x : Svc) (f : Option (Fin 4 × FiredDetail)) (s : State) : Keeps s (postFired x f s) := by
  unfold postFired
  split
  · exact keeps_post _ _
  · exact .refl s

theorem keeps_storeFired (x : Svc) (f : Option (Fin 4 × FiredDetail)) (s : State) : Keeps s (storeFired x f s) := by
  unfold storeFired
  split
  · split
    · exact .refl s
    · exact keeps_storeRequest _ _ _
  · exact .refl s

theorem keeps_handOver (a b : Option (Fin 4 × FiredDetail)) (s : State) : Keeps s (handOver a b s) :=
  (((keeps_postFired _ _ _).trans (keeps_postFired _ _ _)).trans (keeps_storeFired _ _ _)).trans (keeps_storeFired _ _ _)

theorem keeps_deriveOne (x : Svc) (s : State) : Keeps s (deriveOne x s) :=
  (keeps_postFired _ _ _).trans (keeps_storeFired _ _ _)

/-! ## The Transfer Engine -/

theorem keeps_postEach (xs : List Svc) (f : Svc → Event) (s : State) : Keeps s (postEach xs f s) :=
  .foldl (fun t _ => keeps_post _ t) xs s

theorem keeps_clearMarks (s : State) : Keeps s (clearMarks s) := keeps_mapPoints _ _

theorem keeps_withdrawWrites (s : State) : Keeps s (withdrawWrites s) := keeps_setBus _ _

theorem keeps_requestWrites (ts : List (Fin 32 × Pos)) (s : State) : Keeps s (requestWrites ts s) := by
  simp only [requestWrites, markPoints]
  exact (keeps_setBus _ _).trans (keeps_mapPoints _ _)

theorem keeps_releaseAll (j : Job) (s : State) : Keeps s (releaseAll j s) :=
  ((Keeps.foldl (fun t x => keeps_throughEntryCheck x t) (mutedSvcs j) s).trans (keeps_clearMarks _)).trans (keeps_noJob _)

theorem keeps_applyChange (c : Changing) (s : State) : Keeps s (applyChange c s) := by
  unfold applyChange
  dsimp only
  split <;> exact keeps_setSvc rfl rfl rfl rfl rfl

theorem keeps_succeed (j : Job) (s : State) : Keeps s (succeed j s) :=
  (Keeps.foldl (fun _ _ => (keeps_applyChange _ _).trans (keeps_post _ _)) j.changing s).trans (keeps_releaseAll _ _)

theorem keeps_cancelJob (j : Job) (d : DropReason) (s : State) : Keeps s (cancelJob j d s) :=
  (Keeps.foldl (fun _ _ => keeps_post _ _) j.changing s).trans (keeps_releaseAll _ _)

theorem keeps_rollbackDone (j : Job) (s : State) : Keeps s (rollbackDone j s) :=
  (keeps_postEach _ _ _).trans (keeps_releaseAll _ _)

theorem keeps_runRollbackStage (j : Job) (k : Fin 4) (s : State) : Keeps s (runRollbackStage j k s) :=
  (keeps_setJob _ _).trans (keeps_requestWrites _ _)

theorem keeps_rollbackNext (j : Job) (n : Nat) (q : Bool) (s : State) : Keeps s (rollbackNext j n q s) := by
  unfold rollbackNext
  split
  · exact keeps_rollbackDone _ _
  · split
    · dsimp only
      split
      · exact keeps_setJob _ _
      · exact (keeps_setJob _ _).trans (keeps_postEach _ _ _)
    · exact keeps_runRollbackStage _ _ _

theorem keeps_startRollback (j : Job) (c : RollbackCause) (q : Bool) (s : State) : Keeps s (startRollback j c q s) := by
  have h : Keeps s (clearMarks (withdrawWrites s)) := (keeps_withdrawWrites _).trans (keeps_clearMarks _)
  simp only [startRollback]
  split
  · exact h.trans (keeps_setJob _ _)
  · exact (h.trans (keeps_setJob _ _)).trans (keeps_rollbackNext _ _ _ _)

theorem keeps_transferFault (j : Job) (i : Fin 32) (r : FaultReason) (s : State) : Keeps s (transferFault j i r s) :=
  (keeps_postEach _ _ _).trans (keeps_startRollback _ _ _ _)

theorem keeps_disownWrite (s : State) : Keeps s (disownWrite s) := by
  unfold disownWrite
  split
  · split
    · exact keeps_setBus _ _
    · exact .refl s
  · exact .refl s

theorem keeps_failService (j : Job) (x : Svc) (s : State) : Keeps s (failService j x s) := by
  unfold failService
  split
  · exact (keeps_setSvc (v := { s.svc x with inForce := none, revertMark := false }) rfl rfl rfl rfl rfl).trans
      (keeps_toUndetermined _ _)
  · exact keeps_toHeld _ _ _

theorem keeps_rollbackFailed (j : Job) (i : Fin 32) (r : FaultReason) (s : State) : Keeps s (rollbackFailed j i r s) :=
  (((((keeps_withdrawWrites _).trans (keeps_disownWrite _)).trans (keeps_postEach _ _ _)).trans
    (Keeps.foldl (fun t x => keeps_failService j x t) _ _)).trans (keeps_clearMarks _)).trans (keeps_noJob _)

theorem keeps_beginStage (j : Job) (k : Fin 4) (s : State) : Keeps s (beginStage j k s) := by
  unfold beginStage
  split
  · exact (keeps_setJob _ _).trans (keeps_postEach _ _ _)
  · split
    · exact (keeps_setJob _ _).trans (keeps_transferFault _ _ _ _)
    · exact (keeps_setJob _ _).trans (keeps_requestWrites _ _)

theorem keeps_testStage (j : Job) (s : State) : Keeps s (testStage j s) := by
  unfold testStage
  split
  · exact .refl s
  · split
    · dsimp only
      split
      · exact ((keeps_setJob _ _).trans (keeps_clearMarks _)).trans (keeps_beginStage _ _ _)
      · exact ((keeps_setJob _ _).trans (keeps_clearMarks _)).trans (keeps_succeed _ _)
    · exact .refl s

theorem keeps_testRollback (j : Job) (s : State) : Keeps s (testRollback j s) := by
  unfold testRollback
  split
  · exact .refl s
  · split
    · exact ((keeps_setJob _ _).trans (keeps_clearMarks _)).trans (keeps_rollbackNext _ _ _ _)
    · exact .refl s

theorem keeps_testSettled (j : Job) (s : State) : Keeps s (testSettled j s) := by
  unfold testSettled
  split
  · split
    · exact keeps_succeed _ _
    · exact keeps_beginStage _ _ _
  · exact .refl s

theorem keeps_settleSvc (j : Job) (x : Svc) (s : State) : Keeps s (settleSvc j x s) :=
  (keeps_setJob _ _).trans (keeps_testSettled _ _)

theorem keeps_answerCompleted (ts : List (Fin 32 × Pos)) (s : State) : Keeps s (answerCompleted ts s) := by
  unfold answerCompleted
  split
  · exact .refl s
  · split
    · exact (keeps_setJob _ _).trans (keeps_testStage _ _)
    · split
      · exact (keeps_setJob _ _).trans (keeps_rollbackNext _ _ _ _)
      · exact (keeps_setJob _ _).trans (keeps_testRollback _ _)
    · exact .refl s

theorem keeps_answerFailedSent (ts : List (Fin 32 × Pos)) (l : List (Fin 32)) (s : State) :
    Keeps s (answerFailedSent ts l s) := by
  unfold answerFailedSent
  split
  · exact .refl s
  · dsimp only
    split
    · exact (keeps_setJob _ _).trans (keeps_transferFault _ _ _ _)
    · split
      · exact (keeps_setJob _ _).trans (keeps_rollbackNext _ _ _ _)
      · exact keeps_rollbackFailed _ _ _ _
    · exact .refl s

theorem keeps_answerNotSent (ts : List (Fin 32 × Pos)) (s : State) : Keeps s (answerNotSent ts s) := by
  unfold answerNotSent
  split
  · exact .refl s
  · split
    · exact keeps_transferFault _ _ _ _
    · exact keeps_rollbackFailed _ _ _ _
    · exact .refl s

theorem keeps_engineSensed (l : List (Fin 32)) (s : State) : Keeps s (engineSensed l s) := by
  unfold engineSensed
  split
  · exact .refl s
  · split
    · dsimp only
      split
      · exact keeps_transferFault _ _ _ _
      · split
        · exact .refl s
        · exact keeps_testStage _ _
    · split
      · exact .refl s
      · dsimp only
        split
        · exact keeps_rollbackFailed _ _ _ _
        · split
          · exact .refl s
          · exact keeps_testRollback _ _
    · exact .refl s

theorem keeps_engineInterlock (k : Fin 4) (s : State) : Keeps s (engineInterlock k s) := by
  unfold engineInterlock
  split
  · exact .refl s
  · split
    · split
      · dsimp only
        split
        · exact (keeps_postEach _ _ _).trans (keeps_beginStage _ _ _)
        · exact (keeps_postEach _ _ _).trans (keeps_runRollbackStage _ _ _)
      · exact .refl s
    · exact .refl s

theorem keeps_abortJob {j : Job} {s t : State} (h : abortJob j s = some t) : Keeps s t := by
  have dropped : Keeps s (j.changing.foldl (fun t c => post (.requestDropped c.svc c.target .aborted) t) s) :=
    .foldl (fun _ _ => keeps_post _ _) _ _
  unfold abortJob at h
  split at h
  · cases h; exact keeps_cancelJob _ _ _
  · cases h; exact dropped.trans (keeps_startRollback _ _ _ _)
  · cases h; exact dropped.trans (keeps_startRollback _ _ _ _)
  · cases h
  · cases h

/-! ## Formation -/

theorem keeps_startJob (cs : List Changing) (s : State) : Keeps s (startJob cs s) := by
  have first : Keeps s
      (cs.foldl (fun t c => post (.changeStarted c.svc c.target (formedJob s cs).moves.length) t)
        ((cs.foldl (fun t c => removeRequest c.svc t) s).setJob (formedJob s cs))) :=
    ((Keeps.foldl (fun _ _ => keeps_removeRequest _ _) cs s).trans (keeps_setJob _ _)).trans
      (Keeps.foldl (fun _ _ => keeps_post _ _) cs _)
  have taken (t : State) : Keeps t ((mutedSvcs (formedJob s cs)).foldl (takeMuted (formedJob s cs)) t) :=
    Keeps.foldl (fun _ _ => keeps_takeForJob _ _ _) _ t
  simp only [startJob]
  split
  · exact ((first.trans (keeps_post _ _)).trans (taken _)).trans (keeps_testSettled _ _)
  · exact (first.trans (taken _)).trans (keeps_testSettled _ _)

theorem keeps_formSingle (x : Svc) (r : Request) (s : State) : Keeps s (formSingle x r s) := by
  unfold formSingle
  split
  · exact keeps_startJob _ _
  · exact keeps_dropRequest _ _ _

theorem keeps_formPair (x : Svc) (r q : Request) (s : State) : Keeps s (formPair x r q s) := by
  unfold formPair
  split
  · split <;> exact keeps_startJob _ _
  · exact keeps_formSingle _ _ _

theorem keeps_formationPass (s : State) : Keeps s (formationPass s) := by
  unfold formationPass
  split
  · exact .refl s
  · split
    · exact keeps_removeRequest _ _
    · split
      · exact keeps_dropRequest _ _ _
      · split
        · exact keeps_formSingle _ _ _
        · split
          · exact (keeps_dropRequest _ _ _).trans (keeps_formSingle _ _ _)
          · exact keeps_formPair _ _ _ _

/-! ## The bus -/

theorem keeps_occupy (t : Txn) (op : BusOp) (a : Nat) (s : State) : Keeps s (occupy t op a s) := keeps_setBus _ _

theorem keeps_enqueue (l : List Claim) (s : State) : Keeps s (enqueue l s) := keeps_setBus _ _

theorem keeps_dropClaims (p : Claim → Bool) (s : State) : Keeps s (dropClaims p s) := keeps_setBus _ _

theorem keeps_discardCurrent (p : Txn → Bool) (s : State) : Keeps s (discardCurrent p s) := by
  unfold discardCurrent
  split
  · split
    · exact keeps_setBus _ _
    · exact .refl s
  · exact .refl s

theorem keeps_grantDrive (e : Fin 8) (ts : List (Fin 32 × Pos)) (s : State) : Keeps s (grantDrive e ts s) := by
  have commanded : Keeps s (command ts s) := keeps_mapPoints _ _
  simp only [grantDrive]
  split
  · exact keeps_answerNotSent _ _
  · exact commanded.trans (keeps_occupy _ _ _ _)

theorem keeps_grantClaim (c : Claim) (s : State) : Keeps s (grantClaim c s) := by
  cases c with
  | drive e ts => exact keeps_grantDrive e ts s
  | seq step e r4 => exact keeps_occupy _ _ _ _

theorem keeps_grantScan (i : ScanItem) (s : State) : Keeps s (grantScan i s) := by
  cases i <;> exact keeps_occupy _ _ _ _

theorem keeps_of_grantNext {s t : State} (h : grantNext s = some t) : Keeps s t := by
  unfold grantNext at h
  split at h
  · cases h
  · split at h
    · cases h; exact (keeps_setBus _ _).trans (keeps_grantClaim _ _)
    · split at h
      · cases h; exact (keeps_setScanner _ _).trans (keeps_grantScan _ _)
      · split at h
        · cases h; exact (keeps_setBus _ _).trans (keeps_occupy _ _ _ _)
        · cases h

theorem keeps_requestPass (p : Bool) (s : State) : Keeps s (requestPass p s) := by
  unfold requestPass
  split <;> exact keeps_setScanner _ _

theorem keeps_endPass (s : State) : Keeps s (endPass s) := by
  simp only [endPass]
  split
  · exact (keeps_setScanner _ _).trans (keeps_setScanner _ _)
  · exact keeps_setScanner _ _

theorem keeps_startScanner (s : State) : Keeps s (startScanner s) := by
  simp only [startScanner]
  split
  · exact (keeps_setScanner _ _).trans (keeps_requestPass _ _)
  · exact keeps_setScanner _ _

/-! ## Adoption -/

theorem keeps_adopt (x : Svc) (k : Fin 4) (d : AdoptDetail) (s : State) : Keeps s (adopt x k d s) :=
  ((keeps_setSvc (v := { s.svc x with inForce := some k }) rfl rfl rfl rfl rfl).trans (keeps_post _ _)).trans
    (keeps_throughEntryCheck _ _)

theorem keeps_adoptService (s : State) (x : Svc) : Keeps s (adoptService s x) := by
  unfold adoptService
  split
  · exact keeps_post _ _
  · exact keeps_adopt _ _ _ _
  · split
    · exact keeps_adopt _ _ _ _
    · exact keeps_post _ _

/-- Adoption finishes start-up: it is the one thing that follows in an event and moves the phase (R188). -/
theorem keeps_adoptAll {s : State} (h : s.phase = .starting) : Keeps s (adoptAll s) := by
  have judged : Keeps s ((presentSvcs s).foldl adoptService s) := .foldl keeps_adoptService _ _
  have hphase : ((presentSvcs s).foldl adoptService s).phase = .starting ∨
      ((presentSvcs s).foldl adoptService s).phase = .running := by
    rcases judged.phase with hp | ⟨_, hp⟩
    · exact .inl (hp.trans h)
    · exact .inr hp
  have finished (t : State) (ht : t.phase = .starting ∨ t.phase = .running) : Keeps t { t with phase := .running } := by
    refine ⟨⟨?_, id, id, id, fun _ => id⟩, rfl, rfl⟩
    rcases ht with ht | ht
    · exact .inr ⟨ht, rfl⟩
    · exact .inl ht.symm
  exact (judged.trans (finished _ hphase)).trans (keeps_handOver _ _ _)

/-! ## The end of an event -/

theorem keeps_of_advance {s t : State} (h : advance s = some t) : Keeps s t := by
  unfold advance at h
  split at h
  · next ready =>
      cases h
      refine keeps_adoptAll ?_
      simp only [adoptionReady, Bool.and_eq_true, beq_iff_eq] at ready
      exact ready.1.1
  · split at h
    · cases h; exact keeps_startScanner s
    · split at h
      · cases h; exact keeps_endPass s
      · split at h
        · cases h; exact keeps_formationPass s
        · exact keeps_of_grantNext h

/-- What follows in an event is kept: induction on the number of things that follow. -/
theorem keeps_settleFor (n : Nat) (s : State) : Keeps s (settleFor n s) := by
  induction n generalizing s with
  | zero => exact .refl s
  | succ n ih =>
      cases h : advance s with
      | none => rw [settleFor_of_none h]; exact .refl s
      | some t => rw [settleFor_of_advance h]; exact (keeps_of_advance h).trans (ih t)

theorem keeps_finish (s : State) : Keeps s (finish s) := keeps_settleFor 64 s

end Sys2Proof.Machine
end

section
/-! PROOFS. What a configuration write or an image stores is sound (O60): the fields of frames and images, the line rule
and the month rows. -/

namespace Sys2Proof.Machine

/-! ## Readers of fields -/

theorem keepIf_eq_some {α : Type} {ok : Bool} {v w : α} : keepIf ok v = some w ↔ ok = true ∧ v = w := by
  cases ok <;> simp [keepIf]

theorem within_iff {low high n : Nat} : within low high n = true ↔ low ≤ n ∧ n ≤ high := decide_eq_true_iff

theorem mapM_eq_some {α β : Type} {f : α → Option β} {l : List α} {m : List β} :
    l.mapM f = some m ↔ l.map f = m.map some := by
  induction l generalizing m with
  | nil => cases m <;> simp
  | cons a l ih =>
    cases m with
    | nil => cases h : f a <;> cases h2 : l.mapM f <;> simp_all
    | cons b m => simp [List.mapM_cons, Option.bind_eq_some_iff, ← ih]

/-- A vector of optional values is present exactly when each of them is. -/
theorem allPresent_eq_some {α : Type} {n : Nat} {f : Fin n → Option α} {v : Vector α n} :
    allPresent n f = some v ↔ ∀ i : Fin n, f i = some v[i] := by
  have hlist : (∀ i : Fin n, f i = some v[i]) ↔ (List.finRange n).map f = v.toList.map some := by
    rw [← List.ofFn_eq_map]
    constructor
    · intro h
      apply List.ext_getElem (by simp)
      intro i _ _
      simpa using h ⟨i, by simpa using ‹i < (List.ofFn f).length›⟩
    · intro h i
      have := congrArg (fun l => l[i.val]?) h
      simpa using this
  rw [hlist, ← mapM_eq_some]
  unfold allPresent
  cases hm : (List.finRange n).mapM f with
  | none => simp
  | some l =>
    have hl : l.length = n := by simpa using length_of_mapM hm
    simp only [hl, dite_true, Option.some.injEq]
    constructor
    · rintro rfl; rfl
    · rintro rfl; rfl

theorem labelChar_eq_some {b c : Byte} : labelChar b = some c ↔ (0x20 ≤ b.toNat ∧ b.toNat ≤ 0x7E) ∧ b = c := by
  simp [labelChar, keepIf_eq_some, within_iff]

/-- A tower entry's fields lie within the values of R34. -/
def towerSound (t : TowerEntry) : Prop :=
  1 ≤ t.ratio ∧ t.ratio ≤ 20000 ∧ -1800 ≤ t.phase ∧ t.phase ≤ 1799 ∧ 1 ≤ t.ratioTol ∧ t.ratioTol ≤ 500 ∧
    1 ≤ t.phaseTol ∧ t.phaseTol ≤ 900

theorem towerInRange_iff (t : TowerEntry) : towerInRange t = true ↔ towerSound t := by
  simp [towerInRange, towerSound, within_iff, and_assoc]

theorem towerSound_of_towerOf {flags : Byte} {ratio phase ratioTol phaseTol : Half} {t : TowerEntry}
    (h : towerOf flags ratio phase ratioTol phaseTol = some (some t)) : towerSound t := by
  unfold towerOf at h
  split at h
  · simp at h
  · simp only [bind, Option.bind_eq_some_iff, keepIf_eq_some, Option.some.injEq] at h
    obtain ⟨re, _, pe, _, hr, rfl⟩ := h
    exact (towerInRange_iff _).1 hr

theorem patternSound_iff (p : Pattern) : patternSound p ↔
    (∀ k : Fin 8, 0x20 ≤ (p.label[k]).toNat ∧ (p.label[k]).toNat ≤ 0x7E) ∧
    1 ≤ p.power ∧ p.power ≤ 10000 ∧ 10 ≤ p.cutback ∧ p.cutback ≤ 90 ∧ 2 ≤ p.window ∧ p.window ≤ 120 ∧
    1 ≤ p.persistence ∧ p.persistence ≤ 15 ∧ ∀ (i : Fin 12) t, p.towers[i] = some t → towerSound t := Iff.rfl

/-! ## WRITE_PATTERN and TUNE_PATTERN (R34, R36) -/

theorem clampWindow_mem (b : Byte) : 2 ≤ clampWindow b ∧ clampWindow b ≤ 120 := by
  simp only [clampWindow, clampTo]; omega

theorem clampPersistence_mem (b : Byte) : 1 ≤ clampPersistence b ∧ clampPersistence b ≤ 15 := by
  simp only [clampPersistence, clampTo]; omega

/-- Everything WRITE_PATTERN's long form says of the pattern it stores (R34). -/
theorem patternOfFrame_eq_some {f : PatternFrame} {q : Pattern × Bool} :
    patternOfFrame f = some q ↔
      ∃ label ref policy towers map,
        (∀ k : Fin 8, labelChar f.label[k] = some label[k]) ∧ indexOf 12 f.refTower = some ref ∧
        policyOfCode f.fallback = some policy ∧ (∀ k : Fin 12, towerOfFrame f.towers[k] = some towers[k]) ∧
        mapOfPairs f.pairs = some map ∧ (1 ≤ f.power.toNat ∧ f.power.toNat ≤ 10000) ∧
        (10 ≤ f.cutback.toNat ∧ f.cutback.toNat ≤ 90) ∧
        q = ({ label := label, power := f.power.toNat, cutback := f.cutback.toNat, refTower := ref,
               window := clampWindow f.window, persistence := clampPersistence f.persistence, policy := policy,
               towers := towers, map := map },
             clampWindow f.window != f.window.toNat || clampPersistence f.persistence != f.persistence.toNat) := by
  simp only [patternOfFrame, bind, Option.bind_eq_some_iff, allPresent_eq_some, keepIf_eq_some, Bool.and_eq_true,
    within_iff, and_assoc, eq_comm (b := q)]
  constructor
  · rintro ⟨label, hl, ref, hr, policy, hp, towers, ht, map, hm, h1, h2, h3, h4, rfl⟩
    exact ⟨label, ref, policy, towers, map, hl, hr, hp, ht, hm, h1, h2, h3, h4, rfl⟩
  · rintro ⟨label, ref, policy, towers, map, hl, hr, hp, ht, hm, h1, h2, h3, h4, rfl⟩
    exact ⟨label, hl, ref, hr, policy, hp, towers, ht, map, hm, h1, h2, h3, h4, rfl⟩

theorem patternSound_of_frame {f : PatternFrame} {q : Pattern × Bool} (h : patternOfFrame f = some q) :
    patternSound q.1 := by
  obtain ⟨label, ref, policy, towers, map, hl, _, _, ht, _, hpow, hcut, rfl⟩ := patternOfFrame_eq_some.1 h
  refine ⟨fun k => ?_, hpow.1, hpow.2, hcut.1, hcut.2, (clampWindow_mem _).1, (clampWindow_mem _).2,
    (clampPersistence_mem _).1, (clampPersistence_mem _).2, fun i t hi => towerSound_of_towerOf ((ht i).trans ?_)⟩
  · obtain ⟨hc, heq⟩ := labelChar_eq_some.1 (hl k)
    rw [← heq]; exact hc
  · rw [← hi]

/-- What a tower item of TUNE_PATTERN gives (R36). -/
theorem tuningOf_eq_some {t : TuneItem} {u : Tuning} :
    tuningOf t = some u ↔
      ∃ i re pe, indexOf 12 t.tower = some i ∧ enforcementOfCode t.ratioEnf = some re ∧
        enforcementOfCode t.phaseEnf = some pe ∧ (1 ≤ t.ratioTol.toNat ∧ t.ratioTol.toNat ≤ 500) ∧
        (1 ≤ t.phaseTol.toNat ∧ t.phaseTol.toNat ≤ 900) ∧
        u = { tower := i, ratioTol := t.ratioTol.toNat, phaseTol := t.phaseTol.toNat, ratioEnf := re, phaseEnf := pe } := by
  simp only [tuningOf, bind, Option.bind_eq_some_iff, keepIf_eq_some, Bool.and_eq_true, within_iff, eq_comm (b := u)]
  constructor
  · rintro ⟨i, hi, re, hr, pe, hp, ⟨h1, h2⟩, h3⟩
    exact ⟨i, re, pe, hi, hr, hp, h1, h2, h3⟩
  · rintro ⟨i, re, pe, hi, hr, hp, h1, h2, h3⟩
    exact ⟨i, hi, re, hr, pe, hp, ⟨h1, h2⟩, h3⟩

/-- Everything TUNE_PATTERN says of the pattern it stores (R36). -/
theorem tunedPattern_eq_some {p : Pattern} {cutback window persistence : Byte} {items : List TuneItem}
    {q : Pattern × Bool} :
    tunedPattern p cutback window persistence items = some q ↔
      ∃ ts, items.mapM tuningOf = some ts ∧ noRepeats (ts.map Tuning.tower) = true ∧
        (∀ u ∈ ts, (p.towers[u.tower]).isSome = true) ∧ (10 ≤ cutback.toNat ∧ cutback.toNat ≤ 90) ∧
        q = ({ p with
               cutback := cutback.toNat
               window := clampWindow window
               persistence := clampPersistence persistence
               towers := Vector.ofFn fun i => (p.towers[i]).map (tuneTower ts i) },
             clampWindow window != window.toNat || clampPersistence persistence != persistence.toNat) := by
  simp only [tunedPattern, bind, Option.bind_eq_some_iff, keepIf_eq_some, Bool.and_eq_true, within_iff, List.all_eq_true,
    and_assoc, eq_comm (b := q)]

/-- A tuned tower takes its tolerances from an item within their values (R36). -/
theorem towerSound_tuneTower {items : List TuneItem} {ts : List Tuning} (h : items.mapM tuningOf = some ts) (i : Fin 12)
    {t : TowerEntry} (ht : towerSound t) : towerSound (tuneTower ts i t) := by
  unfold tuneTower
  split
  · next u hu =>
    have hmem : some u ∈ items.map tuningOf := by
      rw [mapM_eq_some.1 h]; exact List.mem_map_of_mem (List.mem_of_find?_eq_some hu)
    obtain ⟨item, _, hitem⟩ := List.mem_map.1 hmem
    obtain ⟨_, _, _, _, _, _, hrt, hpt, rfl⟩ := tuningOf_eq_some.1 hitem
    obtain ⟨h1, h2, h3, h4, _⟩ := ht
    exact ⟨h1, h2, h3, h4, hrt.1, hrt.2, hpt.1, hpt.2⟩
  · exact ht

theorem patternSound_of_tuned {p : Pattern} {cutback window persistence : Byte} {items : List TuneItem}
    {q : Pattern × Bool} (hp : patternSound p) (h : tunedPattern p cutback window persistence items = some q) :
    patternSound q.1 := by
  obtain ⟨ts, hts, _, _, hcut, rfl⟩ := tunedPattern_eq_some.1 h
  obtain ⟨hl, hp1, hp2, _, _, _, _, _, _, htow⟩ := hp
  refine ⟨hl, hp1, hp2, hcut.1, hcut.2, (clampWindow_mem _).1, (clampWindow_mem _).2, (clampPersistence_mem _).1,
    (clampPersistence_mem _).2, fun i t hi => ?_⟩
  simp only [Fin.getElem_fin, Vector.getElem_ofFn, Option.map_eq_some_iff] at hi
  obtain ⟨t', ht', rfl⟩ := hi
  exact towerSound_tuneTower hts i (htow i t' ht')

/-! ## The line rule (R2) -/

theorem noRepeats_iff {α : Type} [DecidableEq α] (l : List α) : noRepeats l = true ↔ l.Nodup := by
  induction l with
  | nil => simp [noRepeats]
  | cons a l ih => simp [noRepeats, ih]

theorem nodup_recLines_iff (r : PointRec) :
    (recLines r).Nodup ↔ r.drive ≠ r.sense1 ∧ r.drive ≠ r.sense2 ∧ r.sense1 ≠ r.sense2 := by
  simp [recLines, and_assoc]

theorem mem_mapLines {points : Vector (Option PointRec) 32} {l : Line} :
    l ∈ mapLines points ↔ ∃ (i : Fin 32) (r : PointRec), points[i] = some r ∧ l ∈ recLines r := by
  simp only [mapLines, List.mem_flatMap, List.mem_finRange, true_and]
  refine exists_congr fun i => ?_
  cases points[i] <;> simp

/-- A map with a record replaced keeps the line rule where the new record shares no line with the others (R2, R3). -/
theorem linesDistinct_set {points : Vector (Option PointRec) 32} {i : Fin 32} {new : Option PointRec}
    (h : linesDistinct points) (hnew : lineRuleKept points i new = true) : linesDistinct (points.set i new) := by
  obtain ⟨hself, hpair⟩ := h
  have old {k : Fin 32} {r : PointRec} (hk : k ≠ i) (hr : (points.set i new)[k] = some r) : points[k] = some r := by
    have hne : i.val ≠ k.val := fun e => hk (Fin.ext e.symm)
    simpa [Vector.getElem_set_ne, hne] using hr
  have here {r : PointRec} (hr : (points.set i new)[i] = some r) : new = some r := by simpa using hr
  have kept {r : PointRec} (hr : new = some r) :
      (recLines r).Nodup ∧ ∀ l ∈ recLines r, l ∉ mapLines (points.set i none) := by
    subst hr
    simpa [lineRuleKept, noRepeats_iff] using hnew
  have other {k : Fin 32} {r : PointRec} (hk : k ≠ i) (hr : points[k] = some r) {l : Line} (hl : l ∈ recLines r) :
      l ∈ mapLines (points.set i none) := by
    have hne : i.val ≠ k.val := fun e => hk (Fin.ext e.symm)
    exact mem_mapLines.2 ⟨k, r, by simpa [Vector.getElem_set_ne, hne] using hr, hl⟩
  refine ⟨fun k r hr => ?_, fun j k r q hjk hr hq l hl hl' => ?_⟩
  · rcases eq_or_ne k i with rfl | hk
    · exact (nodup_recLines_iff r).1 (kept (here hr)).1
    · exact hself k r (old hk hr)
  · rcases eq_or_ne j i with rfl | hj
    · exact (kept (here hr)).2 l hl (other hjk.symm (old hjk.symm hq) hl')
    · rcases eq_or_ne k i with rfl | hk
      · exact (kept (here hq)).2 l hl' (other hj (old hj hr) hl)
      · exact hpair j k r q hjk (old hj hr) (old hk hq) l hl hl'

/-- A map whose lines hold none twice keeps the line rule (R2, R181). -/
theorem linesDistinct_of_siteMapValid {points : Vector (Option PointRec) 32} (h : siteMapValid points = true) :
    linesDistinct points := by
  rw [siteMapValid, noRepeats_iff, mapLines, List.nodup_flatMap] at h
  obtain ⟨hself, hpair⟩ := h
  have apart {i j : Fin 32} (hij : i < j) {r q : PointRec} (hr : points[i] = some r) (hq : points[j] = some q) {l : Line}
      (hl : l ∈ recLines r) : l ∉ recLines q := by
    have hd := List.pairwise_iff_getElem.1 hpair i.val j.val (by simp) (by simp) hij
    intro hl'
    simp only [Function.onFun, List.getElem_finRange, Fin.cast_mk, Fin.eta, hr, hq] at hd
    exact hd hl hl'
  refine ⟨fun i r hr => ?_, fun i j r q hij hr hq l hl hl' => ?_⟩
  · have hi := hself i (List.mem_finRange i)
    simp only [hr] at hi
    exact (nodup_recLines_iff r).1 hi
  · rcases lt_or_gt_of_ne hij with hlt | hlt
    · exact apart hlt hr hq hl hl'
    · exact apart hlt hq hr hl' hl

/-! ## The other writes (R3, R5, R61) -/

theorem clampTransit_mem (h : Half) : 50 ≤ clampTransit h ∧ clampTransit h ≤ 2000 ∧ clampTransit h % 10 = 0 := by
  simp only [clampTransit, clampTo]; omega

theorem clampDebounce_mem (h : Half) : 4 ≤ clampDebounce h ∧ clampDebounce h ≤ 64 ∧ clampDebounce h % 4 = 0 := by
  simp only [clampDebounce, clampTo]; omega

theorem baseValid_iff (base : Nat) :
    baseValid base = true ↔ 0x08 ≤ base ∧ base ≤ 0x70 ∧ ¬(0x50 ≤ base ∧ base ≤ 0x57) := by
  simp only [baseValid, within, Bool.and_eq_true, Bool.not_eq_true', decide_eq_true_eq, decide_eq_false_iff_not]
  tauto

/-- Everything WRITE_POINT's long form says of the record it stores (R3). -/
theorem pointOfFrame_eq_some {f : PointFrame} {q : PointRec × Bool} :
    pointOfFrame f = some q ↔
      ∃ drive sense1 sense2 hot stage, lineOf f.driveExp f.driveLine = some drive ∧
        lineOf f.sense1Exp f.sense1Line = some sense1 ∧ lineOf f.sense2Exp f.sense2Line = some sense2 ∧
        maskOfCode f.hot = some hot ∧ indexOf 4 f.stage = some stage ∧
        q = ({ drive := drive, sense1 := sense1, sense2 := sense2, hot := hot, stage := stage,
               transit := clampTransit f.transit }, clampTransit f.transit != f.transit.toNat) := by
  simp only [pointOfFrame, bind, Option.bind_eq_some_iff, pure, Option.some.injEq, eq_comm (b := q)]
  constructor
  · rintro ⟨d, hd, a, ha, b, hb, m, hm, g, hg, hq⟩
    exact ⟨d, a, b, m, g, hd, ha, hb, hm, hg, hq⟩
  · rintro ⟨d, a, b, m, g, hd, ha, hb, hm, hg, hq⟩
    exact ⟨d, hd, a, ha, b, hb, m, hm, g, hg, hq⟩

/-- A record WRITE_POINT installs has a transit limit within its values (R3). -/
theorem transit_of_pointOperand {body : Option PointFrame} {new : Option PointRec} {changed : Bool} {r : PointRec}
    (h : pointOperand body = some (new, changed)) (hr : new = some r) :
    50 ≤ r.transit ∧ r.transit ≤ 2000 ∧ r.transit % 10 = 0 := by
  cases body with
  | none =>
    simp only [pointOperand, Option.some.injEq, Prod.mk.injEq] at h
    rw [← h.1] at hr; cases hr
  | some f =>
    simp only [pointOperand, Option.map_eq_some_iff, Prod.mk.injEq] at h
    obtain ⟨q, hq, hnew, _⟩ := h
    obtain ⟨_, _, _, _, _, _, _, _, _, _, rfl⟩ := pointOfFrame_eq_some.1 hq
    obtain rfl : _ = r := by simpa [← hnew] using hr
    exact clampTransit_mem _

/-- Everything WRITE_SERVICE_SETTINGS says of the settings it stores (R61). -/
theorem settingsOfFrame_eq_some {f : SettingsFrame} {q : ServiceSettings × Bool} :
    settingsOfFrame f = some q ↔
      ∃ mode conf baud, modeOfCode f.initialMode = some mode ∧ muteConfirmOfCode f.muteConfirm = some conf ∧
        baudOfCode f.baud = some baud ∧ (1 ≤ f.minRef.toNat ∧ f.minRef.toNat ≤ 65535) ∧
        q = ({ initialMode := mode, muteConfirm := conf, settle := clampTo 50 1000 10 f.settle.toNat,
               muteTimeout := clampTo 100 5000 100 f.muteTimeout.toNat, stale := clampTo 2 60 1 f.stale.toNat,
               baud := baud, minRef := f.minRef.toNat },
             clampTo 50 1000 10 f.settle.toNat != f.settle.toNat ||
               clampTo 100 5000 100 f.muteTimeout.toNat != f.muteTimeout.toNat ||
               clampTo 2 60 1 f.stale.toNat != f.stale.toNat) := by
  simp only [settingsOfFrame, bind, Option.bind_eq_some_iff, keepIf_eq_some, within_iff, eq_comm (b := q)]
  constructor
  · rintro ⟨m, hm, c, hc, b, hb, hr, hq⟩
    exact ⟨m, c, b, hm, hc, hb, hr, hq⟩
  · rintro ⟨m, c, b, hm, hc, hb, hr, hq⟩
    exact ⟨m, hm, c, hc, b, hb, hr, hq⟩

theorem settingsSound_of_frame {f : SettingsFrame} {q : ServiceSettings × Bool} (h : settingsOfFrame f = some q) :
    settingsSound q.1 := by
  obtain ⟨mode, conf, baud, _, _, _, hr, rfl⟩ := settingsOfFrame_eq_some.1 h
  simp only [settingsSound, clampTo]
  omega

/-! ## The image (R181, R193) -/

theorem transit_of_image {img : List Byte} {i : Nat} {r : PointRec} (h : pointOfImage img i = some (some r)) :
    50 ≤ r.transit ∧ r.transit ≤ 2000 ∧ r.transit % 10 = 0 := by
  unfold pointOfImage at h
  dsimp only at h
  split at h
  · simp at h
  · simp only [bind, Option.bind_eq_some_iff, keepIf_eq_some, within_iff, Option.some.injEq] at h
    obtain ⟨_, _, _, _, _, _, _, _, _, _, hr, rfl⟩ := h
    dsimp only
    omega

theorem settingsSound_of_image {img : List Byte} {i : Nat} {c : ServiceSettings} (h : settingsOfImage img i = some c) :
    settingsSound c := by
  simp only [settingsOfImage, bind, Option.bind_eq_some_iff, keepIf_eq_some, within_iff, Bool.and_eq_true] at h
  obtain ⟨_, _, _, _, _, _, hr, rfl⟩ := h
  simp only [settingsSound]
  omega

theorem patternSound_of_image {img : List Byte} {i : Nat} {p : Pattern} (h : slotOfImage img i = some (some p)) :
    patternSound p := by
  unfold slotOfImage at h
  split at h
  · simp at h
  · split at h
    · simp at h
    · simp only [bind, Option.bind_eq_some_iff, keepIf_eq_some, within_iff, Bool.and_eq_true, Option.some.injEq,
        allPresent_eq_some] at h
      obtain ⟨label, hl, _, _, _, _, towers, ht, _, _, hr, rfl⟩ := h
      obtain ⟨⟨⟨hpow, hcut⟩, hwin⟩, hper⟩ := hr
      refine ⟨fun k => ?_, hpow.1, hpow.2, hcut.1, hcut.2, hwin.1, hwin.2, hper.1, hper.2, fun k t hk =>
        towerSound_of_towerOf ((ht k).trans (by rw [← hk]))⟩
      obtain ⟨hc, heq⟩ := labelChar_eq_some.1 (hl k)
      rw [← heq]; exact hc

theorem rowSound_of_image {img : List Byte} {i : Nat} {row : List RowEntry} (h : rowOfImage img i = some row) :
    rowSound row := by
  simp only [rowOfImage, bind, Option.bind_eq_some_iff, keepIf_eq_some] at h
  obtain ⟨_, _, _, _, hr, rfl⟩ := h
  exact (rowValid_iff _).1 hr

/-- Everything an image body says of the configuration it holds (R181). -/
theorem configOfBody_eq_some {img : List Byte} {c : ConfigRam} :
    configOfBody img = some c ↔
      ∃ points interlocks setA setB patA patB rowsA rowsB routes,
        (∀ k : Fin 32, pointOfImage img (8 + 5 * k.val) = some points[k]) ∧
        (∀ k : Fin 4, interlockOfImage img (168 + k.val) = some interlocks[k]) ∧
        settingsOfImage img 172 = some setA ∧ settingsOfImage img 180 = some setB ∧
        (∀ k : Fin 4, slotOfImage img (188 + 156 * k.val) = some patA[k]) ∧
        (∀ k : Fin 4, slotOfImage img (812 + 156 * k.val) = some patB[k]) ∧
        (∀ k : Fin 12, rowOfImage img (1436 + 12 * k.val) = some rowsA[k]) ∧
        (∀ k : Fin 12, rowOfImage img (1580 + 12 * k.val) = some rowsB[k]) ∧
        (∀ k : Fin 32, portSetOfCode (byteAt img (1724 + k.val)) = some routes[k]) ∧
        baseValid (byteAt img 4).toNat = true ∧ (4 ≤ (byteAt img 5).toNat ∧ (byteAt img 5).toNat ≤ 64) ∧
        (byteAt img 5).toNat % 4 = 0 ∧ siteMapValid points = true ∧
        c = { points := points, base := (byteAt img 4).toNat,
              speed := if (byteAt img 3).getLsbD 1 then .khz400 else .khz100, debounce := (byteAt img 5).toNat,
              interlocks := interlocks, settings := ⟨setA, setB⟩, patterns := ⟨patA, patB⟩, rows := ⟨rowsA, rowsB⟩,
              routes := routes, timebase := if (byteAt img 3).getLsbD 0 then .tickIn else .internal } := by
  simp only [configOfBody, bind, Option.bind_eq_some_iff, allPresent_eq_some, keepIf_eq_some, Bool.and_eq_true, within_iff,
    beq_iff_eq, eq_comm (b := c)]
  constructor
  · rintro ⟨points, h1, interlocks, h2, setA, h3, setB, h4, patA, h5, patB, h6, rowsA, h7, rowsB, h8, routes, h9,
      ⟨⟨⟨h10, h11⟩, h12⟩, h13⟩, hc⟩
    exact ⟨points, interlocks, setA, setB, patA, patB, rowsA, rowsB, routes, h1, h2, h3, h4, h5, h6, h7, h8, h9, h10, h11,
      h12, h13, hc⟩
  · rintro ⟨points, interlocks, setA, setB, patA, patB, rowsA, rowsB, routes, h1, h2, h3, h4, h5, h6, h7, h8, h9, h10, h11,
      h12, h13, hc⟩
    exact ⟨points, h1, interlocks, h2, setA, h3, setB, h4, patA, h5, patB, h6, rowsA, h7, rowsB, h8, routes, h9,
      ⟨⟨⟨h10, h11⟩, h12⟩, h13⟩, hc⟩

/-- The configuration of a valid image is sound (R180, R181). -/
theorem configSound_of_image {img : List Byte} {c : ConfigRam} (h : configOf img = some c) : configSound c := by
  unfold configOf at h
  split at h
  · obtain ⟨points, interlocks, setA, setB, patA, patB, rowsA, rowsB, routes, hpt, _, hsa, hsb, hpa, hpb, hra, hrb, _, hbase,
      hdeb, hdeb4, hmap, rfl⟩ := configOfBody_eq_some.1 h
    refine ⟨linesDistinct_of_siteMapValid hmap, fun i r hr => transit_of_image ((hpt i).trans (by rw [← hr])),
      (baseValid_iff _).1 hbase, ⟨hdeb.1, hdeb.2, hdeb4⟩, fun x => ?_, fun x k p hp => ?_, fun x m => ?_⟩
    · cases x
      · exact settingsSound_of_image hsa
      · exact settingsSound_of_image hsb
    · cases x
      · exact patternSound_of_image ((hpa k).trans (congrArg some hp))
      · exact patternSound_of_image ((hpb k).trans (congrArg some hp))
    · cases x
      · exact rowSound_of_image (hra m)
      · exact rowSound_of_image (hrb m)
  · cases h

/-- The blank configuration is sound (R182). -/
theorem configSound_blank : configSound ConfigRam.blank := by
  refine ⟨⟨fun i r hr => ?_, fun i j r q _ hr => ?_⟩, fun i r hr => ?_, by decide, by decide, fun x => ?_,
    fun x k p hp => ?_, fun x m => ?_⟩
  · simp [ConfigRam.blank] at hr
  · simp [ConfigRam.blank] at hr
  · simp [ConfigRam.blank] at hr
  · cases x <;> simp [settingsSound, ConfigRam.blank, ServiceSettings.blank, Per.get]
  · cases x <;> simp [ConfigRam.blank, Per.get] at hp
  · cases x <;> simp [ConfigRam.blank, Per.get, rowSound]

end Sys2Proof.Machine
end

section
/-! PROOFS. Each command's step, told once for the invariants (O58 to O60): it keeps them, ends the image load, or is a
reset. -/

namespace Sys2Proof.Machine

/-! ## The end of a transaction -/

theorem keeps_reportSensed (s : State) : Keeps s (reportSensed s) := by
  simp only [reportSensed]
  exact ((((keeps_rederive s).trans (keeps_judgePoints _ _)).trans (keeps_engineSensed _ _)).trans
    (keeps_autoExitReading _ _ _)).trans (keeps_autoExitReading _ _ _)

theorem keeps_afterTxn (c : Current) (s : State) : Keeps s (afterTxn c s) := by
  unfold afterTxn
  split
  · exact keeps_autoExitAll _
  · exact .refl s

theorem keeps_freeBus (s : State) : Keeps s (freeBus s) := keeps_setBus _ _

theorem keeps_recoverBus (s : State) : Keeps s (recoverBus s) := keeps_setBus _ _

theorem keeps_endWith {free : State → State} {isIt : Current → Bool} {result : Current → State → State}
    (hf : ∀ u, Keeps u (free u)) (hr : ∀ c u, Keeps u (result c u)) (s : State) : Keeps s (endWith free isIt result s) := by
  unfold endWith
  split
  · split
    · refine Keeps.trans ?_ ((keeps_afterTxn _ _).trans (keeps_finish _))
      split
      · exact hf s
      · exact (hf s).trans (hr _ _)
    · exact .refl s
  · exact .refl s

theorem keeps_endTxn {isIt : Current → Bool} {result : Current → State → State} (hr : ∀ c u, Keeps u (result c u))
    (s : State) : Keeps s (endTxn isIt result s) := keeps_endWith keeps_freeBus hr s

theorem keeps_failTxn {isIt : Current → Bool} {result : Current → State → State} (hr : ∀ c u, Keeps u (result c u))
    (s : State) : Keeps s (failTxn isIt result s) := keeps_endWith keeps_recoverBus hr s

theorem keeps_readBack (e : Fin 8) (word : Half) (s : State) : Keeps s (readBack e word s) := keeps_mapPoints _ _

theorem keeps_becomeOk (e : Fin 8) (word : Half) (s : State) : Keeps s (becomeOk e word s) := keeps_setExp _ _ _

theorem keeps_initStepDone (word : Half) (c : Current) (s : State) : Keeps s (initStepDone word c s) := by
  unfold initStepDone
  split
  · exact keeps_readBack _ _ _
  · exact (keeps_becomeOk _ _ _).trans (keeps_reportSensed _)
  · exact .refl s

theorem keeps_confirmDone (word : Half) (c : Current) (s : State) : Keeps s (confirmDone word c s) := by
  unfold confirmDone
  split
  · exact (keeps_setExp _ _ _).trans (keeps_reportSensed _)
  · exact .refl s

theorem keeps_restored (e : Fin 8) (s : State) : Keeps s (restored e s) := by
  simp only [restored]
  exact ((((keeps_rederive s).trans (keeps_judgePoints _ _)).trans (keeps_engineSensed _ _)).trans (keeps_post _ _)).trans
    (keeps_autoExitAll _)

theorem keeps_restoreStepDone (word : Half) (c : Current) (s : State) : Keeps s (restoreStepDone word c s) := by
  unfold restoreStepDone
  split
  · exact keeps_readBack _ _ _
  · exact (keeps_becomeOk _ _ _).trans (keeps_restored _ _)
  · exact .refl s

theorem keeps_scanDone (word : Half) (c : Current) (s : State) : Keeps s (scanDone word c s) := by
  unfold scanDone
  split
  · exact (keeps_setExp _ _ _).trans (keeps_reportSensed _)
  · exact .refl s

theorem keeps_retryDone (c : Current) (s : State) : Keeps s (retryDone c s) := by
  unfold retryDone
  split
  · exact keeps_enqueue _ _
  · exact .refl s

theorem keeps_driveDone (c : Current) (s : State) : Keeps s (driveDone c s) := by
  unfold driveDone
  split
  · exact keeps_answerCompleted _ _
  · exact .refl s

theorem keeps_toFaulted (e : Fin 8) (s : State) : Keeps s (toFaulted e s) := (keeps_setExp _ _ _).trans (keeps_dropClaims _ _)

theorem keeps_reportFailure (c : Current) (l : List (Fin 32)) (s : State) : Keeps s (reportFailure c l s) := by
  unfold reportFailure
  split
  · exact keeps_answerFailedSent _ _ _
  · exact keeps_engineSensed _ _

theorem keeps_disturbDriven (e : Fin 8) (posted : List (Fin 32)) (s : State) (i : Fin 32) :
    Keeps s (disturbDriven e posted s i) := by
  unfold disturbDriven
  split
  · exact keeps_disturb _ _
  · exact .refl s

theorem keeps_failOk (c : Current) (e : Fin 8) (s : State) : Keeps s (failOk c e s) := by
  simp only [failOk]
  exact (((((((keeps_toFaulted e s).trans (keeps_post _ _)).trans (keeps_rederive _)).trans (keeps_judgePoints _ _)).trans
    (keeps_reportFailure _ _ _)).trans (Keeps.foldl (keeps_disturbDriven _ _) _ _)).trans (keeps_autoExitReading _ _ _)).trans
    (keeps_autoExitReading _ _ _)

theorem keeps_failInit (c : Current) (e : Fin 8) (s : State) : Keeps s (failInit c e s) := by
  simp only [failInit]
  refine Keeps.trans ?_ (((keeps_dropClaims _ _).trans (keeps_toFaulted _ _)).trans (keeps_post _ _))
  split
  · exact keeps_mapPoints _ _
  · exact .refl s

theorem keeps_failFaulted (c : Current) (e : Fin 8) (s : State) : Keeps s (failFaulted c e s) := by
  unfold failFaulted
  refine Keeps.trans ?_ (keeps_reportFailure _ _ _)
  split
  · exact keeps_dropClaims _ _
  · exact .refl s

theorem keeps_expanderFailed (c : Current) (e : Fin 8) (s : State) : Keeps s (expanderFailed c e s) := by
  unfold expanderFailed
  split
  · exact keeps_failOk _ _ _
  · exact keeps_failInit _ _ _
  · exact keeps_failFaulted _ _ _
  · exact .refl s

theorem keeps_expanderTxnFailed (c : Current) (s : State) : Keeps s (expanderTxnFailed c s) := by
  unfold expanderTxnFailed
  split
  · exact keeps_expanderFailed _ _ _
  · exact .refl s

/-! ## The store -/

theorem keeps_setStore {s : State} {st : Store} (h : (∃ page buffer, st = .loading page buffer) → isLoading s) :
    Keeps s { s with store := st } := ⟨⟨.inl rfl, h, id, id, fun _ => id⟩, rfl, rfl⟩

theorem keeps_askEeprom (op : BusOp) (s : State) : Keeps s (askEeprom op s) := keeps_setBus _ _

theorem keeps_writePage (page : Nat) (image : List Byte) (s : State) : Keeps s (writePage page image s) :=
  (keeps_setStore (by simp)).trans (keeps_askEeprom _ _)

theorem keeps_failSave (f : SaveFailure) (s : State) : Keeps s (failSave f s) :=
  ((keeps_setStore (st := .idle) (by simp)).trans (keeps_setBus _ _)).trans (keeps_post _ _)

theorem keeps_endSave (s : State) : Keeps s (endSave s) :=
  have idle : Keeps s { s with store := .idle, dirty := false } :=
    ⟨⟨.inl rfl, fun ⟨_, _, h⟩ => (nomatch h), id, id, fun _ => id⟩, rfl, rfl⟩
  idle.trans (keeps_post _ _)

theorem keeps_verifyPage (page : Nat) (image data : List Byte) (s : State) : Keeps s (verifyPage page image data s) := by
  unfold verifyPage
  split
  · exact keeps_failSave _ _
  · split
    · exact keeps_writePage _ _ _
    · exact keeps_endSave _

theorem keeps_pageWriteDone (s : State) : Keeps s (pageWriteDone s) := by
  unfold pageWriteDone
  split
  · exact keeps_setStore (by simp)
  · exact .refl s

theorem keeps_pollMoment (s : State) : Keeps s (pollMoment s) := by
  unfold pollMoment
  split
  · dsimp only
    split
    · exact (keeps_reach _ _).trans (keeps_setStore (by simp))
    · exact (((keeps_reach _ _).trans (keeps_setStore (by simp))).trans (keeps_askEeprom _ _)).trans (keeps_finish _)
  · exact .refl s

theorem keeps_pollDone (acked : Bool) (s : State) : Keeps s (pollDone acked s) := by
  unfold pollDone
  split
  · split
    · exact (keeps_setStore (by simp)).trans (keeps_askEeprom _ _)
    · exact .refl s
  · exact .refl s

theorem keeps_pollExpired (s : State) : Keeps s (pollExpired s) := by
  unfold pollExpired
  split
  · exact (((keeps_reach _ _).trans (keeps_failSave _ _)).trans (keeps_discardCurrent _ _)).trans (keeps_finish _)
  · exact .refl s

/-! ## Monitors and verify windows -/

theorem keeps_enterOnAir_outputs (x : Svc) (p : Pattern) (b : Bool) (s : State) : Keeps s (outputs x (enterOnAir x p b s)) :=
  keeps_outputs_after (by rfl) (keeps_closeWindow _ _)

theorem keeps_verifyTest (x : Svc) (p : Pattern) (s : State) : Keeps s (verifyTest x p s) := by
  simp only [verifyTest]
  split
  · exact (keeps_post _ _).trans (keeps_enterOnAir_outputs _ _ _ _)
  · exact .refl s

theorem keeps_steadyReading (x : Svc) (p : Pattern) (s : State) : Keeps s (steadyReading x p s) := by
  simp only [steadyReading]
  split
  · exact keeps_toHeld _ _ _
  · exact keeps_outputs_after (by rfl) (.refl _)

theorem keeps_handReading (x : Svc) (p : Pattern) (s : State) : Keeps s (handReading x p s) := by
  unfold handReading
  split
  · exact keeps_verifyTest _ _ _
  · exact keeps_steadyReading _ _ _
  · exact .refl s

theorem keeps_updateTable (x : Svc) (p : Pattern) (ref : MonitorEntry) (frame : List MonitorEntry) (s : State) :
    Keeps s (updateTable x p ref frame s) := by
  simp only [updateTable]
  exact (keeps_setTable _ _ _).trans (Keeps.foldl (fun _ _ => keeps_post _ _) _ _)

theorem keeps_invalidReading (x : Svc) (o : LastOutcome) (s : State) : Keeps s (invalidReading x o s) := by
  simp only [invalidReading]
  split
  · exact (keeps_setTable _ _ _).trans (keeps_outputs _ _)
  · exact keeps_setTable _ _ _

theorem keeps_evaluate (x : Svc) (frame : List MonitorEntry) (s : State) : Keeps s (evaluate x frame s) := by
  unfold evaluate
  split
  · exact .refl s
  · split
    · exact (keeps_updateTable _ _ _ _ _).trans (keeps_handReading _ _ _)
    · exact keeps_invalidReading _ _ _

/-- The receiver once it has taken a good frame (R109, R112). -/
def frameTaken (x : Svc) (frame : List MonitorEntry) (s : State) : State :=
  s.setReceiver x
    { hunt (s.receiver x) with
      lastGood := some frame
      goodCount := (s.receiver x).goodCount + 1
      stale := false
      staleDue := some (s.now + (s.settings x).stale * 1000) }

/-- The cause STALE taken from a service on the air (R143). -/
def clearStale (x : Svc) (s : State) : State :=
  if (s.svc x).state = .onAir then s.setSvc x { s.svc x with causes := { (s.svc x).causes with stale := false } } else s

/-- A good frame before its reading is evaluated (R109, R112, R143). -/
def lineResumed (x : Svc) (frame : List MonitorEntry) (s : State) : State :=
  if (s.receiver x).stale then clearStale x (post (.monitorResumed x (s.svc x).inForce) (frameTaken x frame s))
  else frameTaken x frame s

theorem goodFrame_eq (x : Svc) (frame : List MonitorEntry) (s : State) :
    goodFrame x frame s =
      if onOrNearAir ((lineResumed x frame s).svc x).state then evaluate x frame (lineResumed x frame s)
      else lineResumed x frame s := rfl

theorem keeps_clearStale (x : Svc) (s : State) : Keeps s (clearStale x s) := by
  unfold clearStale
  split
  · exact keeps_setSvc rfl rfl rfl rfl rfl
  · exact .refl s

theorem keeps_lineResumed (x : Svc) (frame : List MonitorEntry) (s : State) : Keeps s (lineResumed x frame s) := by
  have taken : Keeps s (frameTaken x frame s) := keeps_setReceiver _ _ _
  unfold lineResumed
  split
  · exact (taken.trans (keeps_post _ _)).trans (keeps_clearStale _ _)
  · exact taken

theorem keeps_goodFrame (x : Svc) (frame : List MonitorEntry) (s : State) : Keeps s (goodFrame x frame s) := by
  rw [goodFrame_eq]
  split
  · exact (keeps_lineResumed _ _ _).trans (keeps_evaluate _ _ _)
  · exact keeps_lineResumed _ _ _

theorem keeps_takeByte (x : Svc) (b : Byte) (s : State) : Keeps s (takeByte x b s) := by
  unfold takeByte
  dsimp only
  split
  · split
    · exact keeps_setReceiver _ _ _
    · exact .refl s
  · split <;> exact keeps_setReceiver _ _ _
  · exact keeps_setReceiver _ _ _
  · split
    · exact keeps_goodFrame _ _ _
    · exact keeps_setReceiver _ _ _

theorem keeps_takeFramingError (x : Svc) (s : State) : Keeps s (takeFramingError x s) := by
  unfold takeFramingError
  split
  · exact .refl s
  all_goals exact keeps_setReceiver _ _ _

theorem keeps_lineStale (x : Svc) (s : State) : Keeps s (lineStale x s) := by
  simp only [lineStale]
  have first := (keeps_setReceiver s x { s.receiver x with stale := true, staleDue := none }).trans
    (keeps_post (.monitorStale x (s.svc x).inForce (s.settings x).stale) _)
  split
  · exact first.trans (keeps_outputs_after (by simp [State.svc]) (.refl _))
  · exact first

theorem keeps_holdCutback (x : Svc) (p : Pattern) (s : State) : Keeps s (holdCutback x p s) := by
  unfold holdCutback
  dsimp only
  split
  · refine keeps_outputs_after (v := { s.svc x with
      state := .held, hold := some .deviation, causes := Causes.empty }) rfl ?_
    have twice : toHeld x .deviation (enterOnAir x p true s) = toHeld x .deviation (enterOnAir x p true s) := rfl
    have hset : ((enterOnAir x p true s).setSvc x
        { (enterOnAir x p true s).svc x with state := .held, hold := some .deviation, causes := Causes.empty }) =
        closeWindow x (s.setSvc x { s.svc x with state := .held, hold := some .deviation, causes := Causes.empty }) := by
      cases x <;> rfl
    rw [hset]
    exact (((keeps_closeWindow _ _).trans (keeps_closeWindow _ _))).trans (keeps_post _ _)
  · exact keeps_enterOnAir_outputs _ _ _ _

theorem keeps_windowExpired (x : Svc) (p : Pattern) (s : State) : Keeps s (windowExpired x p s) := by
  unfold windowExpired
  dsimp only
  split
  · split
    · exact ((keeps_post _ _).trans (keeps_toHeld _ _ _)).trans (keeps_storeRequest _ _ _)
    · exact (keeps_post _ _).trans (keeps_toHeld _ _ _)
  · exact (keeps_post _ _).trans (keeps_toHeld _ _ _)
  · exact (keeps_post _ _).trans (keeps_toHeld _ _ _)
  · exact (keeps_post _ _).trans (keeps_holdCutback _ _ _)

theorem keeps_verifyExpired (x : Svc) (s : State) : Keeps s (verifyExpired x s) := by
  unfold verifyExpired
  split
  · split
    · exact (((keeps_reach _ _).trans (keeps_closeWindow _ _)).trans (keeps_windowExpired _ _ _)).trans (keeps_finish _)
    · exact .refl s
  · exact .refl s

/-! ## Interlocks -/

/-- An interlock that closes, or that was not CLOSED, cannot make an output unsafe (R52). -/
theorem outputsOk_setInterlock {s : State} {k : Fin 4} {v : Interlock} {x : Svc}
    (h : (s.interlock k).state = .closed → v.state = .closed) (hs : outputsOk s x) : outputsOk (s.setInterlock k v) x := by
  refine ⟨fun hp => ?_, hs.2⟩
  obtain ⟨hst, hclosed⟩ := hs.1 hp
  refine ⟨hst, fun l c hc he => ?_⟩
  rcases eq_or_ne k l with rfl | hl
  · rw [State.interlock_setInterlock_same]; exact h (hclosed k c hc he)
  · rw [State.interlock_setInterlock_other s v hl]; exact hclosed l c hc he

theorem keeps_setInterlock {s : State} {k : Fin 4} {v : Interlock}
    (h : (s.interlock k).state = .closed → v.state = .closed) : Keeps s (s.setInterlock k v) :=
  ⟨⟨.inl rfl, id, id, id, fun _ => outputsOk_setInterlock h⟩, rfl, rfl⟩

theorem toHeld_svc_other {x y : Svc} (c : HoldCause) (s : State) (h : x ≠ y) : (toHeld x c s).svc y = s.svc y := by
  simp [toHeld, outputs_svc_other _ h, closeWindow, State.svc_setSvc_other s _ h]

theorem interlockHold_svc_other (k : Fin 4) {x y : Svc} (s : State) (h : x ≠ y) :
    (interlockHold k x s).svc y = s.svc y := by
  unfold interlockHold
  split
  · exact toHeld_svc_other _ _ h
  · rfl

/-- An interlock that opened leaves no service of its effective mask with its permit high (R52, R56). -/
theorem outputsOk_interlockHold {s t : State} {k : Fin 4} {x : Svc} (hx : t.svc x = s.svc x)
    (two : t.twoServices = s.twoServices) (settings : t.cfg.interlocks = s.cfg.interlocks)
    (others : ∀ l, k ≠ l → t.interlock l = s.interlock l) (hs : outputsOk s x) : outputsOk (interlockHold k x t) x := by
  have hrec (l : Fin 4) : t.interlockRec l = s.interlockRec l := by rw [State.interlockRec, settings, State.interlockRec]
  have heff (m : Mask) : effHas t m x = effHas s m x := by simp [effHas, present, two]
  unfold interlockHold
  split
  · exact outputsOk_outputs _ _
  · next hno =>
    refine ⟨fun hp => ?_, by simpa only [outputsDown, hx] using hs.2⟩
    rw [hx] at hp
    obtain ⟨hst, hclosed⟩ := hs.1 hp
    refine ⟨by rw [hx]; exact hst, fun l c hc he => ?_⟩
    rcases eq_or_ne k l with rfl | hl
    · exact absurd (by simp [interlockCovers, hc, he, hx, (onOrNearAir_iff _).2 hst]) hno
    · rw [others l hl]
      exact hclosed l c (by rw [← hrec]; exact hc) (by rw [← heff]; exact he)

theorem keeps_exitMask (m : Mask) (s : State) : Keeps s (exitMask m s) := by
  have one (b : Bool) (x : Svc) (t : State) : Keeps t (if b then autoExit x t else t) := by
    split
    · exact keeps_autoExit _ _
    · exact .refl t
  exact (one _ _ _).trans (one _ _ _)

theorem keeps_handOn (k : Fin 4) (left : InterlockState) (m : Mask) (s : State) : Keeps s (handOn k left m s) := by
  simp only [handOn]
  refine Keeps.trans ?_ (keeps_engineInterlock _ _)
  split
  · exact (keeps_interlockHold _ _ _).trans (keeps_interlockHold _ _ _)
  · split
    · exact keeps_exitMask _ _
    · exact .refl s

/-- An interlock moved: a service it opens over is held before anything else, and no CLOSED one becomes LATCHED. -/
theorem keeps_moveInterlock {k : Fin 4} {m : Mask} {to' : InterlockState} {s : State}
    (h : to' = .latched → (s.interlock k).state ≠ .closed) : Keeps s (moveInterlock k m to' s) := by
  simp only [moveInterlock]
  split
  · exact .refl s
  · next hmoved =>
    cases to' with
    | closed => exact ((keeps_setInterlock fun _ => rfl).trans (keeps_post _ _)).trans (keeps_handOn _ _ _ _)
    | latched => exact (keeps_setInterlock fun hc => absurd hc (h rfl)).trans (keeps_handOn _ _ _ _)
    | opened =>
      by_cases hc : (s.interlock k).state = .closed
      · have rest := (keeps_post (.interlockOpened k (s.interlock k).state)
          (s.setInterlock k { s.interlock k with state := .opened })).trans (keeps_handOn k (s.interlock k).state m _)
        refine ⟨⟨rest.phase, rest.load, rest.ports, rest.arrival, fun x hs => ?_⟩, rest.cfg, rest.time⟩
        simp only [handOn, hc, post_interlock_at, State.interlock_setInterlock_same, and_self, if_true]
        refine (keeps_engineInterlock k _).outputs x ?_
        have others (l : Fin 4) (hl : k ≠ l) := State.interlock_setInterlock_other s
          { s.interlock k with state := .opened } hl
        cases x with
        | a =>
          exact (keeps_interlockHold k .b _).outputs .a
            (outputsOk_interlockHold (s := s) (by simp) (by simp) (by simp)
              (fun l hl => by simpa using others l hl) hs)
        | b =>
          have site := keepsSite_interlockHold k .a (post (.interlockOpened k .closed)
            (s.setInterlock k { s.interlock k with state := .opened }))
          refine outputsOk_interlockHold (s := s) (by rw [interlockHold_svc_other _ _ (by decide)]; simp)
            (by rw [site.twoServices]; simp) (by rw [site.cfg]; simp) (fun l hl => ?_) hs
          rw [State.interlock, site.interlocks]
          simpa [State.interlock] using others l hl
      · exact ((keeps_setInterlock fun hc' => absurd hc' hc).trans (keeps_post _ _)).trans (keeps_handOn _ _ _ _)

theorem keeps_firstSample (k : Fin 4) (high : Bool) (s : State) : Keeps s (firstSample k high s) := by
  unfold firstSample
  split
  · next c _ =>
    split
    · refine ((keeps_setInterlock (by exact id)).trans (keeps_moveInterlock ?_)).trans (keeps_finish _)
      rw [State.interlock_setInterlock_same]
      intro hl
      split at hl
      · cases hl
      · simp [hl]
    · exact .refl s
  · exact .refl s

/-- An accepted level makes an interlock LATCHED only where it was not CLOSED (R21). -/
theorem nextInterlock_latched {c : InterlockSettings} {st : InterlockState} {b : Bool}
    (h : nextInterlock c st b = .latched) : st ≠ .closed := by
  rintro rfl
  cases b <;> simp [nextInterlock] at h

theorem keeps_acceptLevel (k : Fin 4) (high : Bool) (s : State) : Keeps s (acceptLevel k high s) := by
  unfold acceptLevel
  split
  · dsimp only
    split
    · refine (((keeps_reach _ _).trans (keeps_setInterlock (by exact id))).trans (keeps_moveInterlock ?_)).trans
        (keeps_finish _)
      rw [State.interlock_setInterlock_same]
      exact nextInterlock_latched
    · exact .refl s
  · exact .refl s

theorem keeps_pinChanged (k : Fin 4) (high : Bool) (s : State) : Keeps s (pinChanged k high s) := by
  simp only [pinChanged]
  split
  · exact keeps_setInterlock id
  · exact .refl s

theorem keeps_acknowledge (k : Fin 4) (s : State) : Keeps s (acknowledge k s) := by
  unfold acknowledge
  split
  · exact keeps_moveInterlock (by simp)
  · exact .refl s

/-! ## The engine's timers -/

theorem keeps_settleExpired (x : Svc) (s : State) : Keeps s (settleExpired x s) := by
  unfold settleExpired
  split
  · split
    · exact ((keeps_reach _ _).trans (keeps_settleSvc _ _ _)).trans (keeps_finish _)
    · exact .refl s
  · exact .refl s

theorem keeps_muteExpired (x : Svc) (s : State) : Keeps s (muteExpired x s) := by
  unfold muteExpired
  split
  · split
    · exact ((keeps_reach _ _).trans (keeps_cancelJob _ _ _)).trans (keeps_finish _)
    · exact .refl s
  · exact .refl s

theorem keeps_limitExpired (j : Job) (m : Move) (s : State) : Keeps s (limitExpired j m s) := by
  unfold limitExpired
  split
  · unfold forwardExpired
    split
    · exact .refl s
    · exact keeps_transferFault _ _ _ _
  · unfold backwardExpired
    split
    · exact .refl s
    · split <;> exact keeps_rollbackFailed _ _ _ _
  · exact .refl s

theorem keeps_transitExpired (i : Fin 32) (s : State) : Keeps s (transitExpired i s) := by
  unfold transitExpired
  split
  · split
    · split
      · exact (((keeps_reach _ _).trans (keeps_setJob _ _)).trans (keeps_limitExpired _ _ _)).trans (keeps_finish _)
      · exact .refl s
    · exact .refl s
  · exact .refl s

theorem keeps_confirmSettled (x : Svc) (s : State) : Keeps s (confirmSettled x s) := by
  unfold confirmSettled
  split
  · split
    · exact (keeps_settleSvc _ _ _).trans (keeps_finish _)
    · exact .refl s
  · exact .refl s

theorem keeps_rfdown (s : State) (p : Per Bool) : Keeps s { s with rfdown := p } :=
  .of_same rfl rfl rfl rfl rfl rfl rfl rfl rfl

theorem keeps_expAttn (s : State) (b : Bool) : Keeps s { s with expAttn := b } :=
  .of_same rfl rfl rfl rfl rfl rfl rfl rfl rfl

end Sys2Proof.Machine
end

section
/-! PROOFS. The step lemmas of the invariants (O58 to O60): the configuration writes, the clock, the load end and the
resets, and each command by its case. -/

namespace Sys2Proof.Machine

/-! ## What every command but a reset and the load end keeps -/

/-- The conditions of every moment, apart from those of the phases in which no service is taken up. -/
structure KeepsAll (s t : State) : Prop extends KeepsSafe s t where
  config : configSound s.cfg → configSound t.cfg
  clock  : clockSound s → clockSound t

theorem Keeps.all {s t : State} (h : Keeps s t) : KeepsAll s t :=
  ⟨h.toKeepsSafe, by rw [h.cfg]; exact id, by rw [clockSound, clockSound, h.time]; exact id⟩

theorem KeepsAll.refl (s : State) : KeepsAll s s := (Keeps.refl s).all

theorem KeepsAll.trans {s t u : State} (h : KeepsAll s t) (k : KeepsAll t u) : KeepsAll s u :=
  ⟨h.toKeepsSafe.trans k.toKeepsSafe, k.config ∘ h.config, k.clock ∘ h.clock⟩

/-! ## Windows and answers -/

theorem keeps_setPort {s : State} {i : PortId} {p : Port} (h : portSound (s.ports.get i) → portSound p) :
    Keeps s (s.setPort i p) := by
  refine ⟨⟨.inl rfl, id, fun hs k => ?_, id, fun _ => id⟩, rfl, rfl⟩
  rcases eq_or_ne i k with rfl | hk
  · rw [State.port_setPort_same]; exact h (hs i)
  · rw [State.port_setPort_other s p hk]; exact hs k

theorem keeps_closePort (i : PortId) (n : Nat) (s : State) : Keeps s (closePort i n s) := keeps_setPort id

theorem keeps_respond (i : PortId) (frame : List Byte) (s : State) : Keeps s (respond i frame s) := keeps_setPort id

theorem keeps_poll (i : PortId) (n : Nat) (s : State) : Keeps s (poll i n s) := by
  simp only [poll]
  split
  · exact .refl s
  · split
    · split
      · exact (keeps_closePort _ _ _).trans (keeps_setPort id)
      · exact keeps_closePort _ _ _
    · exact keeps_closePort _ _ _

/-- A request keeps what its answer keeps. -/
theorem keepsAll_request {i : PortId} {tag : Byte} {n : Nat} {body : State → Answer}
    (h : ∀ u, KeepsAll u (body u).state) (s : State) : KeepsAll s (request i tag n body s) := by
  unfold request
  split
  · exact .refl s
  · exact (keeps_closePort _ _ _).all
  all_goals exact ((keeps_closePort _ _ _).all.trans (h _)).trans (keeps_respond _ _ _).all

section Answers
variable {s : State} {i : PortId} {svc : Byte}

theorem keepsAll_forOwnService {body : Svc → Answer} (h : ∀ x, KeepsAll s (body x).state) :
    KeepsAll s (forOwnService i svc s body).state := by
  unfold forOwnService
  split
  · exact .refl s
  · split
    · exact h _
    · exact .refl s

theorem keepsAll_forAnyService {body : Svc → Answer} (h : ∀ x, KeepsAll s (body x).state) :
    KeepsAll s (forAnyService svc s body).state := by
  unfold forAnyService
  split
  · exact h _
  · exact .refl s

theorem keepsAll_fromSite {a : Answer} (h : KeepsAll s a.state) : KeepsAll s (fromSite i s a).state := by
  unfold fromSite
  split
  · exact h
  · exact .refl s

theorem keepsAll_whileUnsaved {a : Answer} (h : KeepsAll s a.state) : KeepsAll s (whileUnsaved s a).state := by
  unfold whileUnsaved
  split
  · exact .refl s
  · exact h

theorem keepsAll_whileQuiet {a : Answer} (h : siteLive s = false → KeepsAll s a.state) :
    KeepsAll s (whileQuiet s a).state := by
  unfold whileQuiet
  split
  · exact .refl s
  · next hq => exact h (by simpa using hq)

theorem keepsAll_inRange {α : Type} {o : Option α} {body : α → Answer} (h : ∀ v, o = some v → KeepsAll s (body v).state) :
    KeepsAll s (inRange o s body).state := by
  unfold inRange
  split
  · exact h _ rfl
  · exact .refl s

/-- A request taken keeps what its effect and what follows in the event keep. -/
theorem keepsAll_takenThen {st : Status} {t : State} (h : KeepsAll s t) : KeepsAll s (takenThen st t).state :=
  h.trans (keeps_finish t).all

end Answers

/-! ## The requests on services and interlocks -/

theorem keepsAll_requestPattern (port : PortId) (tag slot : Byte) (s : State) (x : Svc) :
    KeepsAll s (answerRequestPattern port tag slot s x).state := by
  refine keepsAll_inRange fun k _ => ?_
  split
  · exact .refl s
  · split
    · exact .refl s
    · exact keepsAll_takenThen (keeps_storeRequest _ _ _).all

theorem keepsAll_abortChange (s : State) (x : Svc) : KeepsAll s (answerAbortChange s x).state := by
  have withdrawn : KeepsAll s (answerWithdraw s x).state := by
    unfold answerWithdraw
    split
    · exact keepsAll_takenThen (keeps_dropRequest _ _ _).all
    · exact .refl s
  unfold answerAbortChange
  split
  · split
    · split
      · next h => exact keepsAll_takenThen (keeps_abortJob h).all
      · exact .refl s
    · exact withdrawn
  · exact withdrawn

theorem keepsAll_resumeService (s : State) (x : Svc) : KeepsAll s (answerResumeService s x).state := by
  unfold answerResumeService
  split
  · exact keepsAll_takenThen (keeps_enterVerifying _ _).all
  · exact .refl s

theorem keepsAll_setMode (mode : Byte) (s : State) (x : Svc) : KeepsAll s (answerSetMode mode s x).state := by
  refine keepsAll_inRange fun m _ => ?_
  split
  · exact .refl s
  · refine keepsAll_takenThen ?_
    have moded : Keeps s (post (.modeChanged x m) (s.setSvc x { s.svc x with mode := m })) :=
      (keeps_setSvc (v := { s.svc x with mode := m }) rfl rfl rfl rfl rfl).trans (keeps_post _ _)
    cases m with
    | auto => exact (moded.trans (keeps_deriveOne _ _)).all
    | manual => exact moded.all

theorem keepsAll_ackInterlock (port : PortId) (index : Byte) (s : State) :
    KeepsAll s (answerAckInterlock port index s).state := by
  have acked : KeepsAll s (ackIndex index s).state := by
    refine keepsAll_inRange fun k _ => ?_
    split
    · exact keepsAll_takenThen (keeps_acknowledge _ _).all
    · exact .refl s
  unfold answerAckInterlock
  split
  · exact acked
  · split
    · exact .refl s
    · split
      · exact .refl s
      · exact acked

/-! ## The configuration writes -/

theorem keepsAll_writeCfg {s : State} {c : ConfigRam} (hi : c.interlocks = s.cfg.interlocks)
    (h : configSound s.cfg → configSound c) : KeepsAll s (s.writeCfg c) :=
  ⟨.of_same rfl rfl rfl rfl rfl rfl rfl hi, h, id⟩

theorem configSound_setPattern {c : ConfigRam} {x : Svc} {k : Fin 4} {new : Option Pattern} (h : configSound c)
    (hn : ∀ p, new = some p → patternSound p) : configSound (c.setPattern x k new) := by
  obtain ⟨hl, ht, hb, hd, hs, hp, hr⟩ := h
  refine ⟨hl, ht, hb, hd, hs, fun y l p hq => ?_, hr⟩
  rcases eq_or_ne x y with rfl | hy
  · simp only [ConfigRam.setPattern, Per.get_set_same] at hq
    rcases eq_or_ne k l with rfl | hk
    · exact hn p (by simpa using hq)
    · have hne : k.val ≠ l.val := fun e => hk (Fin.ext e)
      exact hp x l p (by simpa [Vector.getElem_set_ne, hne] using hq)
  · simp only [ConfigRam.setPattern, Per.get_set_other _ _ hy] at hq
    exact hp y l p hq

theorem keepsAll_writePattern (slot : Byte) (body : Option PatternFrame) (s : State) (x : Svc) :
    KeepsAll s (answerWritePattern slot body s x).state := by
  refine keepsAll_whileUnsaved (keepsAll_inRange fun k _ => ?_)
  split
  · exact .refl s
  · refine keepsAll_inRange fun q hq => ?_
    split
    · refine keepsAll_writeCfg rfl fun hc => configSound_setPattern hc fun p hp => ?_
      cases body with
      | none =>
        simp only [patternOperand, Option.some.injEq] at hq
        rw [← hq] at hp; cases hp
      | some f =>
        simp only [patternOperand, Option.map_eq_some_iff] at hq
        obtain ⟨q', hq', rfl⟩ := hq
        obtain rfl : q'.1 = p := by simpa using hp
        exact patternSound_of_frame hq'
    · exact .refl s

theorem keepsAll_tunePattern (slot cutback window persistence : Byte) (items : List TuneItem) (s : State) (x : Svc) :
    KeepsAll s (answerTunePattern slot cutback window persistence items s x).state := by
  refine keepsAll_whileUnsaved (keepsAll_inRange fun k _ => ?_)
  split
  · exact .refl s
  · next p hp =>
    refine keepsAll_inRange fun q hq => ?_
    have written : KeepsAll s (s.writeCfg (s.cfg.setPattern x k (some q.1))) :=
      keepsAll_writeCfg rfl fun hc => configSound_setPattern hc fun p' hp' => by
        obtain ⟨_, _, _, _, _, hpat, _⟩ := hc
        obtain rfl : q.1 = p' := by simpa using hp'
        exact patternSound_of_tuned (hpat x k p hp) hq
    simp only [taken, storeTuned]
    split
    · exact written.trans (keeps_outputs _ _).all
    · exact written

theorem configSound_setRow {c : ConfigRam} {x : Svc} {m : Fin 12} {row : List RowEntry} (h : configSound c)
    (hn : rowSound row) : configSound (c.setRow x m row) := by
  obtain ⟨hl, ht, hb, hd, hs, hp, hr⟩ := h
  refine ⟨hl, ht, hb, hd, hs, hp, fun y n => ?_⟩
  rcases eq_or_ne x y with rfl | hy
  · simp only [ConfigRam.setRow, Per.get_set_same]
    rcases eq_or_ne m n with rfl | hm
    · simpa using hn
    · have hne : m.val ≠ n.val := fun e => hm (Fin.ext e)
      simpa [Vector.getElem_set_ne, hne] using hr x n
  · simp only [ConfigRam.setRow, Per.get_set_other _ _ hy]
    exact hr y n

theorem keepsAll_writeScheduleRow (month : Byte) (entries : List (Half × Byte)) (s : State) (x : Svc) :
    KeepsAll s (answerWriteScheduleRow month entries s x).state := by
  refine keepsAll_whileUnsaved (keepsAll_inRange fun m _ => keepsAll_inRange fun row hrow => ?_)
  exact keepsAll_writeCfg rfl fun hc => configSound_setRow hc (rowOfEntries_some _ _ hrow).1

theorem keeps_followMap (old : Vector (Option PointRec) 32) (s : State) : Keeps s (followMap old s) := by
  rw [followMap_eq]
  exact .of_same rfl rfl rfl rfl rfl rfl rfl rfl rfl

theorem keeps_judgeWritten (i : Fin 32) (s : State) : Keeps s (judgeWritten i s) := by
  unfold judgeWritten
  split
  · exact (keeps_setPoint _ _ _).trans (keeps_judgePoint _ _)
  · exact .refl s

theorem configSound_setPoint {c : ConfigRam} {i : Fin 32} {new : Option PointRec} (h : configSound c)
    (hline : lineRuleKept c.points i new = true)
    (htransit : ∀ r, new = some r → 50 ≤ r.transit ∧ r.transit ≤ 2000 ∧ r.transit % 10 = 0) :
    configSound { c with points := c.points.set i new } := by
  obtain ⟨hl, ht, hrest⟩ := h
  refine ⟨linesDistinct_set hl hline, fun k r hr => ?_, hrest⟩
  rcases eq_or_ne i k with rfl | hk
  · exact htransit r (by simpa using hr)
  · have hne : i.val ≠ k.val := fun e => hk (Fin.ext e)
    exact ht k r (by simpa [Vector.getElem_set_ne, hne] using hr)

theorem keepsAll_writePoint (index : Byte) (body : Option PointFrame) (s : State) :
    KeepsAll s (answerWritePoint index body s).state := by
  refine keepsAll_whileUnsaved (keepsAll_whileQuiet fun _ => keepsAll_inRange fun i _ => keepsAll_inRange fun q hq => ?_)
  split
  · next hline =>
    refine keepsAll_takenThen ((keepsAll_writeCfg (c := { s.cfg with points := s.cfg.points.set i q.1 }) rfl fun hc =>
      configSound_setPoint hc hline fun r hr => transit_of_pointOperand hq hr).trans ?_)
    exact ((((keeps_setPoint _ _ _).trans (keeps_followMap _ _)).trans (keeps_judgeWritten _ _)).trans
      (keeps_autoExitAll _)).all
  · exact .refl s

theorem keeps_toUnused (e : Fin 8) (s : State) : Keeps s (toUnused e s) :=
  ((keeps_setExp _ _ _).trans (keeps_dropClaims _ _)).trans (keeps_discardCurrent _ _)

theorem keeps_queueInit (r4 : Bool) (e : Fin 8) (s : State) : Keeps s (queueInit r4 e s) :=
  (keeps_setExp _ _ _).trans (keeps_enqueue _ _)

theorem keeps_rebase (s : State) : Keeps s (rebase s) := by
  refine (Keeps.foldl (fun t e => ?_) _ _).trans (keeps_reportSensed _)
  unfold restartExpander
  split
  · exact (keeps_toUnused _ _).trans (keeps_queueInit _ _ _)
  · exact .refl t

theorem keepsAll_writeSiteBus (base speed : Byte) (debounce : Half) (s : State) :
    KeepsAll s (answerWriteSiteBus base speed debounce s).state := by
  refine keepsAll_whileUnsaved (keepsAll_whileQuiet fun _ => keepsAll_inRange fun q hq => keepsAll_takenThen ?_)
  simp only [siteBusOf, bind, Option.bind_eq_some_iff, keepIf_eq_some] at hq
  obtain ⟨sp, _, hbase, rfl⟩ := hq
  have written : KeepsAll s (s.writeCfg { s.cfg with base := base.toNat, speed := sp, debounce := clampDebounce debounce }) :=
    keepsAll_writeCfg rfl fun ⟨hl, ht, _, _, hrest⟩ => ⟨hl, ht, (baseValid_iff _).1 hbase, clampDebounce_mem _, hrest⟩
  refine (written.trans (Keeps.all ?_)).trans (keeps_autoExitAll _).all
  split
  · exact .refl _
  · exact keeps_rebase _

/-- On a quiet site no present service has its permit high, so whatever becomes of the interlocks its outputs are safe. -/
theorem outputsOk_of_quiet {s t : State} {x : Svc} (hq : siteLive s = false) (hx : t.svc x = s.svc x)
    (two : t.twoServices = s.twoServices) (h : outputsOk s x) : outputsOk t x := by
  refine ⟨fun hp => ?_, by simpa only [outputsDown, hx] using h.2⟩
  rw [hx] at hp
  obtain ⟨hst, _⟩ := h.1 hp
  refine ⟨by rw [hx]; exact hst, fun l c _ he => ?_⟩
  have hpres : present s x = true := by
    simp only [effHas, Bool.and_eq_true] at he
    simpa [present, two] using he.2
  have hmem : x ∈ presentSvcs s := by
    cases x <;> cases h2 : s.twoServices <;> simp_all [present, presentSvcs]
  simp only [siteLive, Bool.or_eq_false_iff, List.any_eq_false] at hq
  have := hq.2 x hmem
  rcases hst with hst | hst <;> simp [hst] at this

theorem keepsAll_rewriteInterlock {s : State} (hq : siteLive s = false) (k : Fin 4) (new : Option InterlockSettings)
    (high : Bool) : KeepsAll s (rewriteInterlock k new high s) := by
  have first (v : Interlock) :
      KeepsAll s (({ s with cfg := { s.cfg with interlocks := s.cfg.interlocks.set k new }, dirty := true } :
        State).setInterlock k v) :=
    ⟨⟨.inl rfl, id, id, id, fun x hs => outputsOk_of_quiet hq rfl rfl hs⟩, id, id⟩
  unfold rewriteInterlock
  dsimp only
  split
  · refine (first _).trans (keeps_moveInterlock ?_).all
    rw [State.interlock_setInterlock_same]
    intro hl
    simp only [rewrittenState] at hl
    split at hl
    · cases hl
    · split at hl
      · next h => simp [h.1]
      · cases hl
  · split
    · exact (first _).trans (keeps_moveInterlock (by simp)).all
    · exact first _

theorem keepsAll_writeInterlock (index : Byte) (body : InterlockFrame) (pin : Bool) (s : State) :
    KeepsAll s (answerWriteInterlock index body pin s).state :=
  keepsAll_whileUnsaved (keepsAll_whileQuiet fun hq => keepsAll_inRange fun k _ => keepsAll_inRange fun new _ =>
    keepsAll_takenThen (keepsAll_rewriteInterlock hq k new pin))

theorem keepsAll_writeServiceSettings (body : SettingsFrame) (s : State) (x : Svc) :
    KeepsAll s (answerWriteServiceSettings body s x).state := by
  refine keepsAll_whileUnsaved (keepsAll_inRange fun q hq => ?_)
  have written : KeepsAll s (s.writeCfg { s.cfg with settings := s.cfg.settings.set x q.1 }) :=
    keepsAll_writeCfg rfl fun ⟨hl, ht, hb, hd, hs, hrest⟩ => ⟨hl, ht, hb, hd, fun y => by
      rcases eq_or_ne x y with rfl | hy
      · rw [Per.get_set_same]; exact settingsSound_of_frame hq
      · rw [Per.get_set_other _ _ hy]; exact hs y, hrest⟩
  simp only [taken, storeSettings]
  split
  · exact written
  · exact written.trans (keeps_setReceiver _ _ _).all

theorem keepsAll_writeRoute (kind ports : Byte) (s : State) : KeepsAll s (answerWriteRoute kind ports s).state :=
  keepsAll_whileUnsaved (keepsAll_inRange fun _ _ => keepsAll_inRange fun _ _ => keepsAll_writeCfg rfl id)

/-! ## The clock -/

theorem keepsAll_setClock {s : State} {c : Clock} (h : clockSound s → dateValid c.time = true) :
    KeepsAll s { s with clock := c } :=
  ⟨.of_same rfl rfl rfl rfl rfl rfl rfl rfl, id, h⟩

theorem dateValid_iff (d : DateTime) : dateValid d = true ↔
    2000 ≤ d.year ∧ d.year ≤ 2099 ∧ 1 ≤ d.month ∧ d.month ≤ 12 ∧ 1 ≤ d.day ∧ d.day ≤ daysInMonth d.year d.month ∧
      d.hour ≤ 23 ∧ d.minute ≤ 59 ∧ d.second ≤ 59 := decide_eq_true_iff

theorem daysInMonth_pos (year month : Nat) : 1 ≤ daysInMonth year month := by
  unfold daysInMonth; split_ifs <;> omega

theorem daysInMonth_december (year : Nat) : daysInMonth year 12 = 31 := rfl

/-- A second later than a date of the clock's range, its end apart, is a date of the range (R148). -/
theorem dateValid_nextSecond {d : DateTime} (h : dateValid d = true) (hend : atRangeEnd d = false) :
    dateValid (nextSecond d) = true := by
  rw [dateValid_iff] at h ⊢
  obtain ⟨hy, hy', hm, hm', hd, hd', hh, hmi, hs⟩ := h
  unfold nextSecond
  split_ifs with h1 h2 h3 h4 h5
  · exact ⟨hy, hy', hm, hm', hd, hd', hh, hmi, by dsimp only; omega⟩
  · exact ⟨hy, hy', hm, hm', hd, hd', hh, by dsimp only; omega, by dsimp only; omega⟩
  · exact ⟨hy, hy', hm, hm', hd, hd', by dsimp only; omega, by dsimp only; omega, by dsimp only; omega⟩
  · exact ⟨hy, hy', hm, hm', by dsimp only; omega, by dsimp only; omega, by dsimp only; omega, by dsimp only; omega,
      by dsimp only; omega⟩
  · exact ⟨hy, hy', by dsimp only; omega, by dsimp only; omega, le_refl 1, daysInMonth_pos _ _, by simp, by simp, by simp⟩
  · have hmonth : d.month = 12 := by omega
    rw [hmonth, daysInMonth_december] at hd' h4
    have hyear : d.year ≠ 2099 := by
      intro hyear
      refine absurd (beq_iff_eq.2 (?_ : d = ⟨2099, 12, 31, 23, 59, 59⟩)) (by simpa [atRangeEnd] using hend)
      obtain ⟨year, month, day, hour, minute, second⟩ := d
      simp only [DateTime.mk.injEq] at *
      omega
    exact ⟨by dsimp only; omega, by dsimp only; omega, by simp, by simp, le_refl 1, daysInMonth_pos _ _, by simp, by simp,
      by simp⟩

theorem keepsAll_clockStep (s : State) : KeepsAll s (clockStep s) := by
  unfold clockStep
  split
  · exact .refl s
  · next hend =>
    refine (keepsAll_setClock (c := { s.clock with time := nextSecond s.clock.time }) fun h =>
      dateValid_nextSecond h (by simpa using hend)).trans ?_
    unfold judgeStep
    split
    · exact ((keeps_handOver _ _ _).trans (keeps_finish _)).all
    · exact .refl _

theorem keepsAll_dividerStep (s : State) : KeepsAll s (dividerStep s) := by
  simp only [dividerStep]
  exact ((keeps_reach s _).all.trans (keepsAll_setClock (s := s.reach _) (by exact id))).trans (keepsAll_clockStep _)

theorem keepsAll_tickEdge (s : State) : KeepsAll s (tickEdge s) := by
  simp only [tickEdge]
  exact ((keeps_reach s _).all.trans (keepsAll_setClock (s := s.reach _) (by exact id))).trans (keepsAll_clockStep _)

theorem keepsAll_tickLost (due : Nat) (s : State) : KeepsAll s (tickLost due s) := by
  simp only [tickLost]
  have two (u : State) : KeepsAll u (clockStep (clockStep u)) := (keepsAll_clockStep _).trans (keepsAll_clockStep _)
  refine KeepsAll.trans ?_ (keeps_post _ _).all
  exact (((keeps_reach s due).all.trans (keepsAll_setClock (s := s.reach due) (by exact id))).trans (two _)).trans
    (keepsAll_setClock (s := clockStep (clockStep _)) (by exact id))

theorem keepsAll_selectTimebase (tb : Timebase) (s : State) : KeepsAll s (selectTimebase tb s) := by
  have selected : KeepsAll s { s with cfg := { s.cfg with timebase := tb } } :=
    ⟨.of_same rfl rfl rfl rfl rfl rfl rfl rfl, id, id⟩
  unfold selectTimebase
  dsimp only
  split
  · exact selected
  · split <;> exact selected.trans (keepsAll_setClock id)

theorem keepsAll_setClockRequest (timebase : Byte) (date : Option DateFrame) (s : State) :
    KeepsAll s (answerSetClock timebase date s).state := by
  refine keepsAll_whileUnsaved (keepsAll_inRange fun q hq => keepsAll_takenThen ?_)
  have valid : ∀ d, q.2 = some d → dateValid d = true := by
    simp only [clockOperand, bind, Option.bind_eq_some_iff] at hq
    obtain ⟨tb, _, hq⟩ := hq
    cases date with
    | none =>
      obtain rfl : (tb, none) = q := by simpa [pure] using hq
      simp
    | some f =>
      obtain ⟨hv, rfl⟩ := keepIf_eq_some.1 hq
      rintro d hd
      obtain rfl : dateOfFrame f = d := by simpa using hd
      exact hv
  have dirty (u : State) : KeepsAll u { u with dirty := true } := ⟨.of_same rfl rfl rfl rfl rfl rfl rfl rfl, id, id⟩
  unfold applyClock
  dsimp only
  refine KeepsAll.trans ((keepsAll_selectTimebase q.1 s).trans ?_) (dirty _)
  split
  · next d hd =>
    exact ((keepsAll_setClock (c := { (selectTimebase q.1 s).clock with
      time := d, isSet := true, dividerStart := (selectTimebase q.1 s).now }) fun _ => valid d hd).trans
        (keeps_post _ _).all).trans (keeps_handOver _ _ _).all
  · exact .refl _

/-! ## The load end (R182) -/

/-- An image load that ends: its state as it stands, the configuration it gives RAM, and what follows in the event. -/
def EndsLoad (s t : State) : Prop :=
  ∃ u image, (Keeps s u ∧ u.svcs = s.svcs) ∧ isLoading u ∧ (image = none ∨ ∃ bytes, image = configOf bytes) ∧ Keeps (powerOnLoadEnd image u) t

/-- The part with the image's configuration in RAM, before its blocks start (R182). -/
def loaded (image : Option ConfigRam) (s : State) : State :=
  { applyTimebase (applyModes
      { s with cfg := image.getD ConfigRam.blank, imageValid := image.isSome, dirty := false, coldLoaded := true,
               store := .idle }) with phase := .starting }

theorem keeps_startBlocks (s : State) : Keeps { s with phase := .starting } (startBlocks s) :=
  (Keeps.foldl (fun _ _ => keeps_setReceiver _ _ _) _ _).trans (Keeps.foldl (fun _ _ => keeps_queueInit _ _ _) _ _)

theorem keeps_loaded (image : Option ConfigRam) (s : State) : Keeps (loaded image s) (powerOnLoadEnd image s) := by
  unfold powerOnLoadEnd
  dsimp only
  split
  · exact keeps_startBlocks _
  · exact (keeps_startBlocks _).trans (keeps_post _ _)

section Loaded
variable (image : Option ConfigRam) (s : State)

theorem loaded_cfg : (loaded image s).cfg = image.getD ConfigRam.blank := by
  unfold loaded applyTimebase applyModes; split <;> rfl
theorem loaded_ports : (loaded image s).ports = s.ports := by
  unfold loaded applyTimebase applyModes; split <;> rfl
theorem loaded_time : (loaded image s).clock.time = s.clock.time := by
  unfold loaded applyTimebase applyModes; split <;> rfl
theorem loaded_arrival : (loaded image s).arrival = s.arrival := by
  unfold loaded applyTimebase applyModes; split <;> rfl
theorem loaded_phase : (loaded image s).phase = .starting := rfl
theorem loaded_store : (loaded image s).store = .idle := by
  unfold loaded applyTimebase applyModes; split <;> rfl
theorem loaded_svc (x : Svc) : (loaded image s).svc x =
    { s.svc x with mode := ((image.getD ConfigRam.blank).settings.get x).initialMode } := by
  unfold loaded applyTimebase applyModes; split <;> cases x <;> rfl

end Loaded

/-- A service whose permit is low has its outputs safe under any interlocks. -/
theorem outputsOk_of_permit_low {s : State} {x : Svc} (hp : (s.svc x).permit = false) (hd : outputsDown s x) :
    outputsOk s x :=
  ⟨fun h => absurd h (by simp [hp]), hd⟩

theorem outputsOk_loaded {image : Option ConfigRam} {s : State} {x : Svc} (hp : (s.svc x).permit = false)
    (h : outputsOk s x) : outputsOk (loaded image s) x :=
  outputsOk_of_permit_low (by rw [loaded_svc]; exact hp) (by rw [outputsDown, loaded_svc]; exact h.2)

theorem pageReadDone_cases (data : List Byte) (s : State) :
    Keeps s (pageReadDone data s) ∨ EndsLoad s (pageReadDone data s) := by
  unfold pageReadDone
  split
  · next page buffer hst =>
    have hload : isLoading s := ⟨page, buffer, hst⟩
    unfold loadPage
    dsimp only
    split
    · exact .inl ((keeps_setStore fun _ => hload).trans (keeps_askEeprom _ _))
    · exact .inr ⟨s, _, ⟨.refl s, rfl⟩, hload, .inr ⟨_, rfl⟩, .refl _⟩
  · exact .inl (keeps_verifyPage _ _ _ _)
  · exact .inl (.refl s)

theorem eepromFailed_cases (s : State) : Keeps s (eepromFailed s) ∨ EndsLoad s (eepromFailed s) := by
  unfold eepromFailed
  split
  · next page buffer hst => exact .inr ⟨s, none, ⟨.refl s, rfl⟩, ⟨page, buffer, hst⟩, .inl rfl, .refl _⟩
  · exact .inl (keeps_failSave _ _)
  · exact .inl (keeps_failSave _ _)
  · exact .inl (.refl s)

theorem txnFailed_cases (c : Current) (s : State) : Keeps s (txnFailed c s) ∨ EndsLoad s (txnFailed c s) := by
  unfold txnFailed
  split
  · exact .inl (keeps_expanderFailed _ _ _)
  · exact eepromFailed_cases s

theorem EndsLoad.of_keeps {s u v t : State} (h : Keeps s u) (hsvcs : u.svcs = s.svcs) (k : EndsLoad u v) (l : Keeps v t) :
    EndsLoad s t := by
  obtain ⟨w, image, ⟨hw, hw'⟩, hload, himg, hv⟩ := k
  exact ⟨w, image, ⟨h.trans hw, hw'.trans hsvcs⟩, hload, himg, hv.trans l⟩

theorem endWith_cases {free : State → State} {isIt : Current → Bool} {result : Current → State → State}
    (hf : ∀ u, Keeps u (free u)) (hsvcs : ∀ u, (free u).svcs = u.svcs)
    (hr : ∀ c u, Keeps u (result c u) ∨ EndsLoad u (result c u)) (s : State) :
    Keeps s (endWith free isIt result s) ∨ EndsLoad s (endWith free isIt result s) := by
  unfold endWith
  split
  · next c _ =>
    have after (u : State) := (keeps_afterTxn c u).trans (keeps_finish _)
    split
    · split
      · exact .inl ((hf s).trans (after _))
      · rcases hr c (free s) with h | h
        · exact .inl (((hf s).trans h).trans (after _))
        · exact .inr (.of_keeps (hf s) (hsvcs s) h (after _))
    · exact .inl (.refl s)
  · exact .inl (.refl s)

/-! ## The resets (R181, R184, R185) -/

/-- What a reset leads to: the power-on state, or the warm-reset state with or without the start that follows it. -/
inductive Resets (s : State) : State → Prop
  | powerOn (svcs : Bool) : Resets s { State.powerOn svcs with pending := s.pending }
  | asserted : Resets s (warmReset s)
  | released (svcs : Bool) (h : s.phase = .resetHeld) : Resets s (finish (startAfterReset svcs s))
  | part (svcs : Bool) (i : PortId) (n : Nat) (frame : List Byte) :
      Resets s (respond i frame (finish (startAfterReset svcs (warmReset (windowShut i n s)))))

/-! ## Every command by its case -/

/-- Everything a command can do to the conditions of every moment. -/
inductive Effect (s t : State) : Prop
  | keeps (h : KeepsAll s t)
  | endsLoad (h : EndsLoad s t)
  | resets (h : Resets s t)

theorem Effect.of_cases {s t : State} (h : Keeps s t ∨ EndsLoad s t) : Effect s t :=
  h.elim (fun k => .keeps k.all) .endsLoad

/-- Each command keeps the conditions of every moment, ends the image load, or is a reset. -/
theorem exec_effect {c : Instr} {s t : State} (h : exec c s = .next t) : Effect s t := by
  have plain {u : State} (hk : Keeps s u) (hu : (Host.Outcome.next u : Result) = .next t) : Effect s t := by
    cases hu; exact .keeps hk.all
  have asked {i : PortId} {tag : Byte} {n : Nat} {body : State → Answer}
      (hu : (Host.Outcome.next (request i tag n body s) : Result) = .next t)
      (hb : ∀ u, KeepsAll u (body u).state) : Effect s t := by
    cases hu; exact .keeps (keepsAll_request hb s)
  cases c with
  | powerOnReset svcs => cases h; exact .resets (.powerOn svcs)
  | resetNAsserted =>
    cases h
    split
    · exact .keeps (.refl s)
    · exact .resets .asserted
  | resetNReleased svcs =>
    cases h
    split
    · next hp => exact .resets (.released svcs hp)
    · exact .keeps (.refl s)
  | portPoll port n => exact plain (keeps_poll _ _ _) h
  | badLengthWindow port l => exact asked h fun u => .refl u
  | unknownRequest port code tag l => exact asked h fun u => .refl u
  | readStatus port tag => exact asked h fun u => .refl u
  | readService port tag svc =>
    exact asked h fun u => keepsAll_forAnyService fun x => (keeps_setReceiver u x _).all
  | readConformanceTable port tag svc view =>
    refine asked h fun u => keepsAll_forAnyService fun x => ?_
    split <;> exact .refl u
  | readConformanceRaw port tag svc => exact asked h fun u => keepsAll_forAnyService fun x => .refl u
  | readPoints port tag first => exact asked h fun u => keepsAll_inRange fun _ _ => .refl u
  | readInterlocks port tag => exact asked h fun u => .refl u
  | readEvents port tag =>
    refine asked h fun u => (keeps_setPort fun hp => ⟨?_, ?_⟩).all
    · have := hp.1
      simp only [drained, List.length_drop]; omega
    · rfl
  | readClock port tag => exact asked h fun u => .refl u
  | readPattern port tag svc slot =>
    exact asked h fun u => keepsAll_forAnyService fun x => keepsAll_inRange fun _ _ => .refl u
  | readSchedule port tag svc => exact asked h fun u => keepsAll_forAnyService fun x => .refl u
  | requestPattern port tag svc slot =>
    exact asked h fun u => keepsAll_forOwnService (keepsAll_requestPattern _ _ _ u)
  | abortChange port tag svc => exact asked h fun u => keepsAll_forOwnService (keepsAll_abortChange u)
  | resumeService port tag svc => exact asked h fun u => keepsAll_forOwnService (keepsAll_resumeService u)
  | setMode port tag svc mode => exact asked h fun u => keepsAll_forOwnService (keepsAll_setMode _ u)
  | ackInterlock port tag index => exact asked h (keepsAll_ackInterlock _ _)
  | writePattern port tag svc slot body => exact asked h fun u => keepsAll_forOwnService (keepsAll_writePattern _ _ u)
  | tunePattern port tag svc slot cut win per items =>
    exact asked h fun u => keepsAll_forOwnService (keepsAll_tunePattern _ _ _ _ _ u)
  | writeScheduleRow port tag svc month entries =>
    exact asked h fun u => keepsAll_forOwnService (keepsAll_writeScheduleRow _ _ u)
  | writePoint port tag index body => exact asked h fun u => keepsAll_fromSite (keepsAll_writePoint _ _ u)
  | writeSiteBusRecord port tag base speed debounce =>
    exact asked h fun u => keepsAll_fromSite (keepsAll_writeSiteBus _ _ _ u)
  | writeInterlock port tag index body pin =>
    exact asked h fun u => keepsAll_fromSite (keepsAll_writeInterlock _ _ _ u)
  | writeServiceSettings port tag svc body =>
    exact asked h fun u => keepsAll_forOwnService (keepsAll_writeServiceSettings _ u)
  | writeRoute port tag kind ports => exact asked h fun u => keepsAll_fromSite (keepsAll_writeRoute _ _ u)
  | setClock port tag timebase date => exact asked h fun u => keepsAll_fromSite (keepsAll_setClockRequest _ _ u)
  | saveConfig port tag =>
    exact asked h fun u => keepsAll_fromSite (keepsAll_whileUnsaved (keepsAll_takenThen (keeps_writePage _ _ _).all))
  | resetPart port tag svcs =>
    cases h
    unfold request
    split
    · exact .keeps (.refl s)
    · exact .keeps (keeps_closePort _ _ _).all
    all_goals
      unfold fromSite
      split
      · exact .resets (.part svcs port _ _)
      · exact .keeps ((keeps_closePort _ _ _).trans (keeps_respond _ _ _)).all
  | expanderInitTransactionComplete word => exact plain (keeps_endTxn (keeps_initStepDone word) s) h
  | confirmationReadDue e =>
    refine plain ?_ h
    split
    · exact (((keeps_reach _ _).trans (keeps_setExp _ _ _)).trans (keeps_enqueue _ _)).trans (keeps_finish _)
    · exact .refl s
  | confirmationReadComplete word => exact plain (keeps_endTxn (keeps_confirmDone word) s) h
  | scanReadComplete word => exact plain (keeps_endTxn (keeps_scanDone word) s) h
  | fastScanTimer =>
    refine plain ?_ h
    split
    · split
      · exact (((keeps_reach _ _).trans (keeps_setScanner _ _)).trans (keeps_requestPass _ _)).trans (keeps_finish _)
      · exact .refl s
    · exact .refl s
  | periodicScanTimer =>
    refine plain ?_ h
    split
    · exact (((keeps_reach _ _).trans (keeps_setScanner _ _)).trans (keeps_requestPass _ _)).trans (keeps_finish _)
    · exact .refl s
  | expAttnAsserted =>
    refine plain ?_ h
    split
    · exact .refl s
    · dsimp only
      split
      · exact ((keeps_expAttn _ _).trans (keeps_requestPass _ _)).trans (keeps_finish _)
      · exact (keeps_expAttn _ _).trans (keeps_setScanner _ _)
  | retryReadComplete word => exact plain (keeps_endTxn keeps_retryDone s) h
  | restoreTransactionComplete word => exact plain (keeps_endTxn (keeps_restoreStepDone word) s) h
  | driveWriteComplete => exact plain (keeps_endTxn keeps_driveDone s) h
  | expanderTransactionFailed => exact plain (keeps_failTxn keeps_expanderTxnFailed s) h
  | busTransactionTimeout =>
    cases h
    split
    · next c _ =>
      rcases endWith_cases (isIt := fun _ => true) keeps_recoverBus (fun _ => rfl) txnFailed_cases (s.reach (c.grantedAt + busLimit))
        with hk | hk
      · exact .keeps ((keeps_reach _ _).trans hk).all
      · exact .endsLoad (.of_keeps (keeps_reach _ _) rfl hk (.refl _))
    · exact .keeps (.refl s)
  | eepromPageReadComplete data =>
    cases h
    exact .of_cases (endWith_cases keeps_freeBus (fun _ => rfl) (fun _ u => pageReadDone_cases _ u) s)
  | eepromPageWriteComplete => exact plain (keeps_endTxn (fun _ => keeps_pageWriteDone) s) h
  | eepromPollInterval => exact plain (keeps_pollMoment s) h
  | eepromAckPollEnd acked => exact plain (keeps_endTxn (fun _ => keeps_pollDone acked) s) h
  | eepromPollTimeout => exact plain (keeps_pollExpired s) h
  | eepromTransactionFailed =>
    cases h
    exact .of_cases (endWith_cases keeps_recoverBus (fun _ => rfl) (fun _ u => eepromFailed_cases u) s)
  | interlockFirstSample k high => exact plain (keeps_firstSample _ _ _) h
  | interlockLevelAccepted k high => exact plain (keeps_acceptLevel _ _ _) h
  | settleDelayExpiry x => exact plain (keeps_settleExpired _ _) h
  | rfdownAccepted x =>
    refine plain ?_ h
    split
    · exact (keeps_rfdown _ _).trans (keeps_confirmSettled _ _)
    · exact .refl s
  | muteTimeout x => exact plain (keeps_muteExpired _ _) h
  | transitLimitExpiry i => exact plain (keeps_transitExpired _ _) h
  | monitorByteReceived x b =>
    refine plain ?_ h
    split
    · exact keeps_takeByte _ _ _
    · exact .refl s
  | monitorFramingError x =>
    refine plain ?_ h
    split
    · exact keeps_takeFramingError _ _
    · exact .refl s
  | gapTimerExpiry x =>
    refine plain ?_ h
    split
    · exact (keeps_reach _ _).trans (keeps_setReceiver _ _ _)
    · exact .refl s
  | stalenessTimerExpiry x =>
    refine plain ?_ h
    split
    · exact (keeps_reach _ _).trans (keeps_lineStale _ _)
    · exact .refl s
  | verifyWindowExpiry x => exact plain (keeps_verifyExpired _ _) h
  | secondDividerStep =>
    cases h
    split
    · exact .keeps (keepsAll_dividerStep s)
    · exact .keeps (.refl s)
  | tickInEdgeAccepted =>
    cases h
    split
    · exact .keeps (keepsAll_tickEdge s)
    · exact .keeps (.refl s)
  | tickLossTimeout =>
    cases h
    split
    · exact .keeps (keepsAll_tickLost _ s)
    · exact .keeps (.refl s)
  | expAttnNegated =>
    refine plain ?_ h
    split
    · exact keeps_expAttn _ _
    · exact .refl s
  | rfdownNegated x =>
    refine plain ?_ h
    split
    · exact keeps_rfdown _ _
    · exact .refl s
  | directionOutputRewriteComplete => exact plain (keeps_endTxn (fun _ u => .refl u) s) h
  | interlockPinLevelChange k high => exact plain (keeps_pinChanged _ _ _) h

theorem keeps_pending (s : State) (l : List Instr) : Keeps s { s with pending := l } :=
  .of_same rfl rfl rfl rfl rfl rfl rfl rfl rfl

theorem keeps_now (s : State) (n : Nat) : Keeps s { s with now := n } := .of_same rfl rfl rfl rfl rfl rfl rfl rfl rfl

/-- A step is a command's effect on the state without it in the queue, or the idle step's. -/
theorem stepsTo_cases {s t : State} (h : StepsTo s t) :
    (Keeps s t ∧ t.job = s.job ∧ t.svcs = s.svcs) ∨ ∃ c rest, s.pending = c :: rest ∧ exec c { s with pending := rest } = .next t := by
  unfold StepsTo step at h
  split at h
  · next c rest hp => exact .inr ⟨c, rest, hp, h⟩
  · cases h
    unfold idle
    split
    · exact .inl ⟨keeps_pending _ _, rfl, rfl⟩
    · exact .inl ⟨keeps_now _ _, rfl, rfl⟩

end Sys2Proof.Machine
end

section
/-! PROOFS. The invariants of O58 to O60: while no service is taken up none is, and each step keeps the outputs, the
queues, the clock, the arrival order and the configuration. -/

namespace Sys2Proof.Machine

/-! ## While no service is taken up (R42, R181, R184) -/

/-- No job, and no service taken up. -/
def Asleep (s : State) : Prop := s.job = none ∧ offAir s

theorem Asleep.of_same {s t : State} (h : Asleep s) (job : t.job = s.job) (svcs : t.svcs = s.svcs) : Asleep t := by
  simpa only [Asleep, offAir, State.svc, job, svcs] using h

theorem Asleep.state {s : State} (h : Asleep s) (x : Svc) : (s.svc x).state = .undetermined := (h.2 x).1

theorem asleep_post {s : State} (e : Event) (h : Asleep s) : Asleep (post e s) := h.of_same (post_job _ _) (post_svcs _ _)

theorem asleep_foldl {α : Type} {f : State → α → State} (hf : ∀ s a, Asleep s → Asleep (f s a)) (l : List α) {s : State}
    (h : Asleep s) : Asleep (l.foldl f s) := by
  induction l generalizing s with
  | nil => exact h
  | cons a l ih => exact ih (hf s a h)

section Asleep
variable {s : State} (h : Asleep s)
include h

theorem autoExit_asleep (x : Svc) : autoExit x s = s := by simp [autoExit, h.state x]

theorem autoExitAll_asleep : autoExitAll s = s := by rw [autoExitAll, autoExit_asleep h, autoExit_asleep h]

theorem autoExitReading_asleep (x : Svc) (l : List (Fin 32)) : autoExitReading x l s = s := by
  unfold autoExitReading
  split
  · exact autoExit_asleep h x
  · rfl

theorem disturbService_asleep (i : Fin 32) (x : Svc) : disturbService i x s = s := by
  simp [disturbService, h.state x, onOrNearAir]

theorem asleep_disturb (i : Fin 32) : Asleep (disturb i s) := by
  have posted := asleep_post (.pointDisturbed i (s.point i).sensed) h
  rwa [disturb, disturbService_asleep posted, disturbService_asleep posted]

theorem asleep_judgePoint (i : Fin 32) : Asleep (judgePoint s i) := by
  unfold judgePoint
  split
  · exact asleep_disturb h i
  · exact h

theorem asleep_judgePoints (l : List (Fin 32)) : Asleep (judgePoints l s) :=
  asleep_foldl (fun _ i ht => asleep_judgePoint ht i) l h

theorem engineSensed_asleep (l : List (Fin 32)) : engineSensed l s = s := by simp [engineSensed, h.1]

theorem answerCompleted_asleep (ts : List (Fin 32 × Pos)) : answerCompleted ts s = s := by simp [answerCompleted, h.1]

theorem answerFailedSent_asleep (ts : List (Fin 32 × Pos)) (l : List (Fin 32)) : answerFailedSent ts l s = s := by
  simp [answerFailedSent, h.1]

theorem answerNotSent_asleep (ts : List (Fin 32 × Pos)) : answerNotSent ts s = s := by simp [answerNotSent, h.1]

theorem asleep_rederive : Asleep (rederive s).1 := by
  simp only [rederive]
  exact h.of_same (by simp) (by simp)

theorem asleep_reportSensed : Asleep (reportSensed s) := by
  simp only [reportSensed]
  have judged := asleep_judgePoints (asleep_rederive h) (rederive s).2
  rwa [engineSensed_asleep judged, autoExitReading_asleep judged, autoExitReading_asleep judged]

theorem afterTxn_asleep (c : Current) : afterTxn c s = s := by
  unfold afterTxn
  split
  · exact autoExitAll_asleep h
  · rfl

theorem reportFailure_asleep (c : Current) (l : List (Fin 32)) : reportFailure c l s = s := by
  unfold reportFailure
  split
  · exact answerFailedSent_asleep h _ _
  · exact engineSensed_asleep h _

theorem asleep_failOk (c : Current) (e : Fin 8) : Asleep (failOk c e s) := by
  simp only [failOk]
  have faulted := asleep_post (.expanderFault e (failedOpOf c)) (h.of_same (t := toFaulted e s) rfl rfl)
  have judged := asleep_judgePoints (asleep_rederive faulted) (rederive (post (.expanderFault e (failedOpOf c)) (toFaulted e s))).2
  rw [reportFailure_asleep judged]
  have disturbed := asleep_foldl (f := disturbDriven e
      ((rederive (post (.expanderFault e (failedOpOf c)) (toFaulted e s))).2.filter
        (isDisturbed (rederive (post (.expanderFault e (failedOpOf c)) (toFaulted e s))).1)))
    (fun t i ht => by
      unfold disturbDriven
      split
      · exact asleep_disturb ht i
      · exact ht) (List.finRange 32) judged
  rwa [autoExitReading_asleep disturbed, autoExitReading_asleep disturbed]

theorem asleep_expanderFailed (c : Current) (e : Fin 8) : Asleep (expanderFailed c e s) := by
  unfold expanderFailed
  split
  · exact asleep_failOk h c e
  · unfold failInit
    refine asleep_post _ (Asleep.of_same (s := if readbackOutstanding c e s then forgetCommands e s else s) ?_ rfl rfl)
    split
    · exact h.of_same (by simp [forgetCommands]) (by simp [forgetCommands])
    · exact h
  · unfold failFaulted
    have dropped : Asleep (if isSeq isRestoreStep c then dropClaims (isStepOf isRestoreStep e) s else s) := by
      split
      · exact h.of_same rfl rfl
      · exact h
    rwa [reportFailure_asleep dropped]
  · exact h

theorem asleep_requestPass (p : Bool) : Asleep (requestPass p s) := by
  unfold requestPass
  split <;> exact h.of_same rfl rfl

end Asleep

/-! ## What follows in an event while no service is taken up -/

theorem asleep_of_grantNext {s t : State} (h : Asleep s) (ht : grantNext s = some t) : Asleep t := by
  unfold grantNext at ht
  split at ht
  · cases ht
  · split at ht
    · next c rest _ =>
      cases ht
      have rested : Asleep (s.setBus { s.bus with queue := rest }) := h.of_same rfl rfl
      cases c with
      | drive e ts =>
        simp only [grantClaim, grantDrive]
        split
        · rwa [answerNotSent_asleep rested]
        · exact rested.of_same (by simp [occupy, command]) (by simp [occupy, command])
      | seq step e r4 => exact rested.of_same rfl rfl
    · split at ht
      · next item _ _ =>
        cases ht
        cases item <;> exact h.of_same rfl rfl
      · split at ht
        · cases ht; exact h.of_same rfl rfl
        · cases ht

theorem asleep_of_advance {s t : State} (h : Asleep s) (hp : loadEnded s = false) (ht : advance s = some t) :
    Asleep t ∧ t.phase = s.phase := by
  simp only [loadEnded, Bool.or_eq_false_iff] at hp
  have hadopt : adoptionReady s = false := by simp [adoptionReady, hp.1]
  have hscan : scannerReady s = false := by simp [scannerReady, loadEnded, hp]
  have hform : formationReady s = false := by simp [formationReady, hp.2]
  simp only [advance, hadopt, hscan, hform, Bool.false_eq_true, if_false] at ht
  have hphase {u : State} (hk : Keeps s u) : u.phase = s.phase :=
    hk.phase.resolve_right fun hs => by simp [hs.1] at hp
  split at ht
  · cases ht
    refine ⟨?_, hphase (keeps_endPass s)⟩
    simp only [endPass]
    split <;> exact h.of_same rfl rfl
  · exact ⟨asleep_of_grantNext h ht, hphase (keeps_of_grantNext ht)⟩

/-- The end of an event takes up no service before the load end, and leaves the phase (log entry 7). -/
theorem asleep_settleFor (n : Nat) {s : State} (h : Asleep s) (hp : loadEnded s = false) :
    Asleep (settleFor n s) ∧ (settleFor n s).phase = s.phase := by
  induction n generalizing s with
  | zero => exact ⟨h, rfl⟩
  | succ n ih =>
    cases ha : advance s with
    | none => rw [settleFor_of_none ha]; exact ⟨h, rfl⟩
    | some t =>
      obtain ⟨ht, hpt⟩ := asleep_of_advance h hp ha
      rw [settleFor_of_advance ha]
      obtain ⟨hs, hps⟩ := ih ht (by simpa only [loadEnded, hpt] using hp)
      exact ⟨hs, hps.trans hpt⟩

theorem asleep_finish {s : State} (h : Asleep s) (hp : loadEnded s = false) : Asleep (finish s) := (asleep_settleFor 64 h hp).1

/-- What an operation leaves while no service is taken up: none taken up, or the load end past. -/
def Rests (s : State) : Prop := loadEnded s = true ∨ Asleep s

theorem rests_finish {s : State} (h : Rests s) : Rests (finish s) := by
  by_cases hp : loadEnded s = true
  · left
    rcases (keeps_finish s).phase with hph | ⟨_, hph⟩
    · simpa only [loadEnded, hph] using hp
    · simp [loadEnded, hph]
  · exact .inr (asleep_finish (h.resolve_left hp) (by simpa using hp))

theorem rests_endWith {free : State → State} {isIt : Current → Bool} {result : Current → State → State}
    (hf : ∀ u, Asleep u → Asleep (free u)) (hr : ∀ c u, Asleep u → Rests (result c u)) {s : State} (h : Asleep s) :
    Rests (endWith free isIt result s) := by
  unfold endWith
  split
  · next c _ =>
    split
    · refine rests_finish ?_
      have done : Rests (if c.discarded then free s else result c (free s)) := by
        split
        · exact .inr (hf s h)
        · exact hr c _ (hf s h)
      rcases done with hp | hs
      · left
        rcases (keeps_afterTxn c (if c.discarded then free s else result c (free s))).phase with hph | ⟨_, hph⟩
        · simpa only [loadEnded, hph] using hp
        · simp [loadEnded, hph]
      · rw [afterTxn_asleep hs]; exact .inr hs
    · exact .inr h
  · exact .inr h

theorem asleep_freeBus {s : State} (h : Asleep s) : Asleep (freeBus s) := h.of_same rfl rfl

theorem asleep_recoverBus {s : State} (h : Asleep s) : Asleep (recoverBus s) := h.of_same rfl rfl

theorem rests_powerOnLoadEnd (image : Option ConfigRam) (s : State) : Rests (powerOnLoadEnd image s) := by
  left
  rcases (keeps_loaded image s).phase with hph | ⟨_, hph⟩
  · simp [loadEnded, hph, loaded_phase]
  · simp [loadEnded, hph]

theorem rests_eepromFailed {s : State} (h : Asleep s) : Rests (eepromFailed s) := by
  unfold eepromFailed
  split
  · exact rests_powerOnLoadEnd _ _
  · exact .inr (asleep_post _ (h.of_same rfl rfl))
  · exact .inr (asleep_post _ (h.of_same rfl rfl))
  · exact .inr h

theorem rests_pageReadDone (data : List Byte) {s : State} (h : Asleep s) : Rests (pageReadDone data s) := by
  unfold pageReadDone
  split
  · unfold loadPage
    dsimp only
    split
    · exact .inr (h.of_same rfl rfl)
    · exact rests_powerOnLoadEnd _ _
  · unfold verifyPage
    split
    · exact .inr (asleep_post _ (h.of_same rfl rfl))
    · split
      · exact .inr (h.of_same rfl rfl)
      · exact .inr (asleep_post _ (h.of_same rfl rfl))
  · exact .inr h

theorem rests_txnFailed (c : Current) {s : State} (h : Asleep s) : Rests (txnFailed c s) := by
  unfold txnFailed
  split
  · exact .inr (asleep_expanderFailed h _ _)
  · exact rests_eepromFailed h

/-! ## Commands while no service is taken up -/

theorem asleep_request {i : PortId} {tag : Byte} {n : Nat} {body : State → Answer} {s : State} (h : Asleep s)
    (hp : loadEnded s = false) : Asleep (request i tag n body s) := by
  unfold request
  split
  · exact h
  · exact h.of_same rfl rfl
  all_goals next hph => simp [loadEnded, hph] at hp

theorem asleep_takeByte (x : Svc) (b : Byte) {s : State} (h : Asleep s) : Asleep (takeByte x b s) := by
  unfold takeByte
  dsimp only
  split
  · split
    · exact h.of_same rfl rfl
    · exact h
  · split <;> exact h.of_same rfl rfl
  · exact h.of_same rfl rfl
  · split
    · have resumed : Asleep (lineResumed x (entriesOf (s.receiver x).part.bytes) s) := by
        have taken : Asleep (frameTaken x (entriesOf (s.receiver x).part.bytes) s) := h.of_same rfl rfl
        unfold lineResumed
        split
        · have posted := asleep_post (.monitorResumed x (s.svc x).inForce) taken
          rw [clearStale, if_neg (by rw [posted.state x]; decide)]
          exact posted
        · exact taken
      rw [goodFrame_eq, resumed.state x]
      exact resumed
    · exact h.of_same rfl rfl

theorem asleep_clockStep {s : State} (h : Asleep s) (hp : loadEnded s = false) :
    Asleep (clockStep s) ∧ loadEnded (clockStep s) = false := by
  unfold clockStep
  split
  · exact ⟨h, hp⟩
  · have stepped : Asleep { s with clock := { s.clock with time := nextSecond s.clock.time } } := h.of_same rfl rfl
    have hp' : loadEnded { s with clock := { s.clock with time := nextSecond s.clock.time } } = false := hp
    unfold judgeStep
    split
    · have quiet (x : Svc) : fired { s with clock := { s.clock with time := nextSecond s.clock.time } } x = none := by
        simp only [loadEnded, Bool.or_eq_false_iff] at hp
        simp [fired, firing, scheduleRuns, hp.2]
      have still : fireAll { s with clock := { s.clock with time := nextSecond s.clock.time } } =
          { s with clock := { s.clock with time := nextSecond s.clock.time } } := by
        rw [fireAll, quiet, quiet]
        rfl
      rw [still]
      obtain ⟨hs, hph⟩ := asleep_settleFor 64 stepped hp'
      exact ⟨hs, (congrArg (fun p : Phase => p == .starting || p == .running) hph).trans hp⟩
    · exact ⟨stepped, hp'⟩

/-- While RESET_N is held low or the load runs, no command takes up a service: the load may end, but nothing is asked of
the services until then (R167, R181, R184). -/
theorem exec_rests {c : Instr} {s t : State} (h : exec c s = .next t) (hs : Asleep s) (hp : loadEnded s = false) :
    Rests t := by
  have still {u : State} (hu : (Host.Outcome.next u : Result) = .next t) (hr : Rests u) : Rests t := by cases hu; exact hr
  have asked {i : PortId} {tag : Byte} {n : Nat} {body : State → Answer}
      (hu : (Host.Outcome.next (request i tag n body s) : Result) = .next t) : Rests t := by
    cases hu; exact .inr (asleep_request hs hp)
  have ended {isIt : Current → Bool} {result : Current → State → State} (hr : ∀ c u, Asleep u → Rests (result c u)) :
      Rests (endTxn isIt result s) := rests_endWith (fun _ => asleep_freeBus) hr hs
  have failed {isIt : Current → Bool} {result : Current → State → State} {u : State} (hu : Asleep u)
      (hr : ∀ c u, Asleep u → Rests (result c u)) : Rests (failTxn isIt result u) :=
    rests_endWith (fun _ => asleep_recoverBus) hr hu
  have finished {u : State} (hu : Asleep u) : Rests (finish u) := rests_finish (.inr hu)
  cases c with
  | powerOnReset svcs =>
    refine still h (.inr ⟨rfl, fun x => ?_⟩)
    cases x <;> exact ⟨rfl, rfl, rfl⟩
  | resetNAsserted =>
    refine still h ?_
    split
    · exact .inr hs
    · refine .inr ⟨rfl, fun x => ?_⟩
      cases x <;> exact ⟨rfl, rfl, rfl⟩
  | resetNReleased svcs =>
    refine still h ?_
    split
    · refine rests_finish ?_
      unfold startAfterReset
      dsimp only
      split
      · left
        rcases (keeps_startBlocks { s with twoServices := svcs }).phase with hph | ⟨_, hph⟩ <;> simp [loadEnded, hph]
      · exact .inr (hs.of_same rfl rfl)
    · exact .inr hs
  | portPoll port n =>
    refine still h (.inr ?_)
    simp only [poll]
    split
    · exact hs
    · split
      · split <;> exact hs.of_same rfl rfl
      · exact hs.of_same rfl rfl
  | expanderInitTransactionComplete word =>
    refine still h (ended fun c u hu => .inr ?_)
    unfold initStepDone
    split
    · exact hu.of_same (by simp [readBack]) (by simp [readBack])
    · exact asleep_reportSensed (hu.of_same rfl rfl)
    · exact hu
  | confirmationReadDue e =>
    refine still h ?_
    split
    · exact finished (hs.of_same rfl rfl)
    · exact .inr hs
  | confirmationReadComplete word =>
    refine still h (ended fun c u hu => .inr ?_)
    unfold confirmDone
    split
    · exact asleep_reportSensed (hu.of_same rfl rfl)
    · exact hu
  | scanReadComplete word =>
    refine still h (ended fun c u hu => .inr ?_)
    unfold scanDone
    split
    · exact asleep_reportSensed (hu.of_same rfl rfl)
    · exact hu
  | fastScanTimer =>
    refine still h ?_
    split
    · split
      · refine finished (asleep_requestPass ?_ _)
        exact hs.of_same rfl rfl
      · exact .inr hs
    · exact .inr hs
  | periodicScanTimer =>
    refine still h ?_
    split
    · refine finished (asleep_requestPass ?_ _)
      exact hs.of_same rfl rfl
    · exact .inr hs
  | expAttnAsserted => exact still h (by simp only [hp, Bool.not_false, Bool.true_or, if_true]; exact .inr hs)
  | expAttnNegated => exact still h (by simp only [hp, Bool.false_eq_true, if_false]; exact .inr hs)
  | retryReadComplete word =>
    refine still h (ended fun c u hu => .inr ?_)
    unfold retryDone
    split
    · exact hu.of_same rfl rfl
    · exact hu
  | restoreTransactionComplete word =>
    refine still h (ended fun c u hu => .inr ?_)
    unfold restoreStepDone
    split
    · exact hu.of_same (by simp [readBack]) (by simp [readBack])
    · next e _ _ =>
      have derived := asleep_rederive (hu.of_same (t := becomeOk e word u) rfl rfl)
      simp only [restored]
      rw [engineSensed_asleep (asleep_judgePoints derived _)]
      have posted := asleep_post (.expanderRestored e) (asleep_judgePoints derived
        ((List.finRange 32).filter fun i => (rederive (becomeOk e word u)).2.contains i ||
          liesOn (becomeOk e word u).cfg.points e i))
      rwa [autoExitAll_asleep posted]
    · exact hu
  | driveWriteComplete =>
    refine still h (ended fun c u hu => .inr ?_)
    unfold driveDone
    split
    · rwa [answerCompleted_asleep hu]
    · exact hu
  | expanderTransactionFailed =>
    refine still h (failed hs fun c u hu => .inr ?_)
    unfold expanderTxnFailed
    split
    · exact asleep_expanderFailed hu _ _
    · exact hu
  | busTransactionTimeout =>
    refine still h ?_
    split
    · exact failed (hs.of_same rfl rfl) fun c u hu => rests_txnFailed c hu
    · exact .inr hs
  | eepromPageReadComplete data => exact still h (ended fun _ u hu => rests_pageReadDone _ hu)
  | eepromPageWriteComplete =>
    refine still h (ended fun _ u hu => .inr ?_)
    unfold pageWriteDone
    split
    · exact hu.of_same rfl rfl
    · exact hu
  | eepromPollInterval =>
    refine still h ?_
    unfold pollMoment
    split
    · dsimp only
      split
      · exact .inr (hs.of_same rfl rfl)
      · exact finished (hs.of_same rfl rfl)
    · exact .inr hs
  | eepromAckPollEnd acked =>
    refine still h (ended fun _ u hu => .inr ?_)
    unfold pollDone
    split
    · split
      · exact hu.of_same rfl rfl
      · exact hu
    · exact hu
  | eepromPollTimeout =>
    refine still h ?_
    unfold pollExpired
    split
    · next page image written next _ =>
      have saved : Asleep (failSave .writeFailed (s.reach (written + pollLimit))) := asleep_post _ (hs.of_same rfl rfl)
      refine finished ?_
      rw [discardCurrent_eq]
      exact saved.of_same rfl rfl
    · exact .inr hs
  | eepromTransactionFailed => exact still h (failed hs fun _ u hu => rests_eepromFailed hu)
  | interlockFirstSample k high =>
    refine still h ?_
    unfold firstSample
    split
    · simp only [hp, Bool.false_and, Bool.false_eq_true, if_false]; exact .inr hs
    · exact .inr hs
  | interlockLevelAccepted k high =>
    refine still h ?_
    unfold acceptLevel
    split
    · simp only [hp, Bool.false_and, Bool.false_eq_true, if_false]; exact .inr hs
    · exact .inr hs
  | interlockPinLevelChange k high => exact still h (by simp only [pinChanged, hp, Bool.false_and, Bool.false_eq_true, if_false]; exact .inr hs)
  | settleDelayExpiry x => exact still h (by simp only [settleExpired, hs.1]; exact .inr hs)
  | muteTimeout x => exact still h (by simp only [muteExpired, hs.1]; exact .inr hs)
  | transitLimitExpiry i => exact still h (by simp only [transitExpired, hs.1]; exact .inr hs)
  | rfdownAccepted x =>
    exact still h (by simp only [rfdownSampled, hp, Bool.false_and, Bool.false_eq_true, if_false]; exact .inr hs)
  | rfdownNegated x =>
    exact still h (by simp only [rfdownSampled, hp, Bool.false_and, Bool.false_eq_true, if_false]; exact .inr hs)
  | monitorByteReceived x b =>
    refine still h (.inr ?_)
    split
    · exact asleep_takeByte x b hs
    · exact hs
  | monitorFramingError x =>
    refine still h (.inr ?_)
    split
    · unfold takeFramingError
      split
      · exact hs
      all_goals exact hs.of_same rfl rfl
    · exact hs
  | gapTimerExpiry x =>
    refine still h (.inr ?_)
    split
    · exact hs.of_same rfl rfl
    · exact hs
  | stalenessTimerExpiry x =>
    refine still h (.inr ?_)
    split
    · next due _ =>
      have hst : ((s.reach due).svc x).state = .undetermined := hs.state x
      simp only [lineStale, State.setReceiver_svc, hst, reduceCtorEq, if_false]
      exact asleep_post _ (hs.of_same rfl rfl)
    · exact hs
  | verifyWindowExpiry x =>
    refine still h (.inr ?_)
    unfold verifyExpired
    split
    · rw [if_neg (by rw [hs.state x]; decide)]; exact hs
    · exact hs
  | secondDividerStep =>
    refine still h (.inr ?_)
    split
    · simp only [dividerStep]
      refine (asleep_clockStep ?_ (by exact hp)).1
      exact hs.of_same rfl rfl
    · exact hs
  | tickInEdgeAccepted =>
    refine still h (.inr ?_)
    split
    · simp only [tickEdge]
      refine (asleep_clockStep ?_ (by exact hp)).1
      exact hs.of_same rfl rfl
    · exact hs
  | tickLossTimeout =>
    refine still h (.inr ?_)
    split
    · next due _ =>
      have lost : Asleep { s.reach due with clock := { (s.reach due).clock with active := .internal, lossDue := none } } :=
        hs.of_same rfl rfl
      obtain ⟨h1, hp1⟩ := asleep_clockStep lost hp
      obtain ⟨h2, _⟩ := asleep_clockStep h1 hp1
      exact asleep_post _ (h2.of_same rfl rfl)
    · exact hs
  | directionOutputRewriteComplete => exact still h (ended fun _ _ hu => .inr hu)
  | _ => exact asked h

/-! ## Each invariant at the load end and at a reset -/

theorem portsSound_endsLoad {s t : State} (h : EndsLoad s t) (hs : portsSound s) : portsSound t := by
  obtain ⟨u, image, ⟨hu, _⟩, _, _, ht⟩ := h
  exact ht.ports ((keeps_loaded image u).ports (by simpa only [portsSound, loaded_ports] using hu.ports hs))

theorem arrivalSound_endsLoad {s t : State} (h : EndsLoad s t) (hs : arrivalSound s) : arrivalSound t := by
  obtain ⟨u, image, ⟨hu, _⟩, _, _, ht⟩ := h
  exact ht.arrival ((keeps_loaded image u).arrival
    (by simpa only [arrivalSound, loaded_arrival, loaded_svc] using hu.arrival hs))

theorem clockSound_endsLoad {s t : State} (h : EndsLoad s t) (hs : clockSound s) : clockSound t := by
  obtain ⟨u, image, ⟨hu, _⟩, _, _, ht⟩ := h
  exact ht.all.clock ((keeps_loaded image u).all.clock
    (by simpa only [clockSound, loaded_time] using hu.all.clock hs))

theorem configSound_endsLoad {s t : State} (h : EndsLoad s t) : configSound t.cfg := by
  obtain ⟨u, image, _, _, himg, ht⟩ := h
  refine ht.all.config ((keeps_loaded image u).all.config ?_)
  rw [loaded_cfg]
  rcases himg with rfl | ⟨bytes, rfl⟩
  · exact configSound_blank
  · cases hb : configOf bytes with
    | none => exact configSound_blank
    | some c => exact configSound_of_image hb

/-- What the start after a reset leaves alone: it captures SVCS, and starts the blocks or the load (R185). -/
theorem startAfterReset_keeps (svcs : Bool) (s : State) :
    ∃ u : State, Keeps u (startAfterReset svcs s) ∧ u.ports = s.ports ∧ u.arrival = s.arrival ∧ u.svcs = s.svcs ∧
      u.clock = s.clock ∧ u.cfg = s.cfg ∧ (u.store = s.store ∨ (startAfterReset svcs s).phase = .loading) := by
  unfold startAfterReset
  dsimp only
  split
  · exact ⟨_, keeps_startBlocks _, rfl, rfl, rfl, rfl, rfl, .inl rfl⟩
  · exact ⟨_, .refl _, rfl, rfl, rfl, rfl, rfl, .inr rfl⟩

theorem portSound_warm (p : Port) : portSound p.warm := ⟨by simp [Port.warm, Port.reset], rfl⟩

theorem portsSound_resets {s t : State} (h : Resets s t) (hs : portsSound s) : portsSound t := by
  have started (svcs : Bool) {u : State} (hu : portsSound u) : portsSound (finish (startAfterReset svcs u)) := by
    obtain ⟨v, hk, hports, _⟩ := startAfterReset_keeps svcs u
    exact (keeps_finish _).ports (hk.ports (by simpa only [portsSound, hports] using hu))
  have warm (u : State) : portsSound (warmReset u) := fun i => by cases i <;> exact portSound_warm _
  cases h with
  | powerOn svcs => intro i; cases i <;> exact portSound_warm Port.reset
  | asserted => exact warm s
  | released svcs _ => exact started svcs hs
  | part svcs i n frame => exact (keeps_respond _ _ _).ports (started svcs (warm _))

theorem arrivalSound_resets {s t : State} (h : Resets s t) (hs : arrivalSound s) : arrivalSound t := by
  have started (svcs : Bool) {u : State} (hu : arrivalSound u) : arrivalSound (finish (startAfterReset svcs u)) := by
    obtain ⟨v, hk, _, harr, hsvcs, _⟩ := startAfterReset_keeps svcs u
    exact (keeps_finish _).arrival (hk.arrival (by simpa only [arrivalSound, State.svc, harr, hsvcs] using hu))
  have warm (u : State) : arrivalSound (warmReset u) :=
    ⟨List.nodup_nil, fun x => by
      cases x <;> simp [warmReset, State.svc, Per.get, Service.warm, Service.reset]⟩
  cases h with
  | powerOn svcs =>
    exact ⟨List.nodup_nil, fun x => by cases x <;> simp [State.powerOn, State.svc, Per.get, Service.reset]⟩
  | asserted => exact warm s
  | released svcs _ => exact started svcs hs
  | part svcs i n frame => exact (keeps_respond _ _ _).arrival (started svcs (warm _))

theorem clockSound_resets {s t : State} (h : Resets s t) (hs : clockSound s) : clockSound t := by
  have started (svcs : Bool) {u : State} (hu : clockSound u) : clockSound (finish (startAfterReset svcs u)) := by
    obtain ⟨v, hk, _, _, _, hclock, _⟩ := startAfterReset_keeps svcs u
    exact (keeps_finish _).all.clock (hk.all.clock (by simpa only [clockSound, hclock] using hu))
  cases h with
  | powerOn svcs => exact (by decide : dateValid ⟨2000, 1, 1, 0, 0, 0⟩ = true)
  | asserted => exact hs
  | released svcs _ => exact started svcs hs
  | part svcs i n frame => exact (keeps_respond _ _ _).all.clock (started svcs (u := warmReset (windowShut i n s)) hs)

theorem configSound_resets {s t : State} (h : Resets s t) (hs : configSound s.cfg) : configSound t.cfg := by
  have started (svcs : Bool) {u : State} (hu : configSound u.cfg) : configSound (finish (startAfterReset svcs u)).cfg := by
    obtain ⟨v, hk, _, _, _, _, hcfg, _⟩ := startAfterReset_keeps svcs u
    exact (keeps_finish _).all.config (hk.all.config (by simpa only [hcfg] using hu))
  cases h with
  | powerOn svcs => exact configSound_blank
  | asserted => exact hs
  | released svcs _ => exact started svcs hs
  | part svcs i n frame => exact (keeps_respond _ _ _).all.config (started svcs (u := warmReset (windowShut i n s)) hs)

/-! ## The outputs -/

/-- The phases in which no service is taken up are those before a load end (R182). -/
theorem loadEnded_eq_false (s : State) : loadEnded s = false ↔ s.phase = .resetHeld ∨ s.phase = .loading := by
  cases h : s.phase <;> simp [loadEnded, h]

theorem outputsSafe_iff (s : State) : outputsSafe s ↔
    (∀ x, outputsOk s x) ∧ Rests s ∧ (isLoading s → s.phase = .loading) := by
  have hrest : (s.phase = .resetHeld ∨ s.phase = .loading → s.job = none ∧ offAir s) ↔ Rests s := by
    rw [← loadEnded_eq_false, Rests]
    cases loadEnded s <;> simp [Asleep]
  unfold outputsSafe
  rw [hrest]
  simp only [outputsOk, isLoading, forall_exists_index]

theorem outputsSafe_of_keepsSafe {s t : State} (h : KeepsSafe s t) (hs : outputsSafe s) (hr : Rests t) : outputsSafe t := by
  rw [outputsSafe_iff] at hs ⊢
  obtain ⟨hok, _, hload⟩ := hs
  refine ⟨fun x => h.outputs x (hok x), hr, fun hl => ?_⟩
  have hp := hload (h.load hl)
  exact (h.phase.resolve_right fun hst => by rw [hp] at hst; cases hst.1).trans hp

theorem outputsSafe_endsLoad {s t : State} (h : EndsLoad s t) (hs : outputsSafe s) : outputsSafe t := by
  obtain ⟨u, image, ⟨hu, hsvcs⟩, hload, _, ht⟩ := h
  have all := (keeps_loaded image u).trans ht
  rw [outputsSafe_iff] at hs ⊢
  obtain ⟨hok, hrest, hphase⟩ := hs
  have hp : loadEnded s = false := (loadEnded_eq_false s).2 (.inr (hphase (hu.load hload)))
  obtain ⟨_, hoff⟩ := hrest.resolve_left (by simp [hp])
  have low (x : Svc) : (u.svc x).permit = false := by rw [State.svc, hsvcs]; exact (hoff x).2.2
  refine ⟨fun x => all.outputs x (outputsOk_loaded (low x) (hu.outputs x (hok x))), ?_, fun hl => ?_⟩
  · left
    rcases all.phase with hph | ⟨_, hph⟩ <;> simp [loadEnded, hph, loaded_phase]
  · obtain ⟨_, _, hst⟩ := all.load hl
    rw [loaded_store] at hst; cases hst

theorem rests_startAfterReset (svcs : Bool) {s : State} (h : Asleep s) : Rests (startAfterReset svcs s) := by
  unfold startAfterReset
  dsimp only
  split
  · left
    rcases (keeps_startBlocks { s with twoServices := svcs }).phase with hph | ⟨_, hph⟩ <;> simp [loadEnded, hph]
  · exact .inr (h.of_same rfl rfl)

/-- With no service taken up and no load begun, the start after a reset leaves every output safe (R185). -/
theorem outputsSafe_start (svcs : Bool) {s : State} (h : Asleep s) (hdown : ∀ x, outputsDown s x) (hload : ¬isLoading s) :
    outputsSafe (finish (startAfterReset svcs s)) := by
  obtain ⟨u, hu, _, _, hsvcs, _, _, hstore⟩ := startAfterReset_keeps svcs s
  have all := hu.trans (keeps_finish _)
  have hx (x : Svc) : u.svc x = s.svc x := by rw [State.svc, hsvcs, State.svc]
  rw [outputsSafe_iff]
  refine ⟨fun x => all.outputs x (outputsOk_of_permit_low (by rw [hx]; exact (h.2 x).2.2)
    (by simpa only [outputsDown, hx] using hdown x)), rests_finish (rests_startAfterReset svcs h), fun hl => ?_⟩
  rcases hstore with hst | hph
  · exact absurd (by simpa only [isLoading, hst] using all.load hl) hload
  · rcases (keeps_finish (startAfterReset svcs s)).phase with hk | ⟨hk, _⟩
    · exact hk.trans hph
    · rw [hph] at hk; cases hk

theorem asleep_warmReset (s : State) : Asleep (warmReset s) :=
  ⟨rfl, fun x => by cases x <;> exact ⟨rfl, rfl, rfl⟩⟩

theorem outputsDown_warmReset (s : State) (x : Svc) : outputsDown (warmReset s) x := fun _ => by
  cases x <;> exact ⟨rfl, rfl⟩

theorem not_isLoading_warmReset (s : State) : ¬isLoading (warmReset s) := fun ⟨_, _, h⟩ => nomatch h

theorem outputsSafe_warmReset (s : State) : outputsSafe (warmReset s) :=
  (outputsSafe_iff _).2 ⟨fun x => outputsOk_of_permit_low ((asleep_warmReset s).2 x).2.2 (outputsDown_warmReset s x),
    .inr (asleep_warmReset s), fun h => absurd h (not_isLoading_warmReset s)⟩

theorem asleep_powerOn (svcs : Bool) : Asleep (State.powerOn svcs) :=
  ⟨rfl, fun x => by cases x <;> exact ⟨rfl, rfl, rfl⟩⟩

theorem outputsSafe_powerOn (svcs : Bool) : outputsSafe (State.powerOn svcs) :=
  (outputsSafe_iff _).2 ⟨fun x => outputsOk_of_permit_low ((asleep_powerOn svcs).2 x).2.2 fun _ => by
    cases x <;> exact ⟨rfl, rfl⟩, .inr (asleep_powerOn svcs), fun _ => rfl⟩

theorem Rests.of_same {s t : State} (h : Rests s) (phase : t.phase = s.phase) (job : t.job = s.job) (svcs : t.svcs = s.svcs) :
    Rests t :=
  h.imp (fun hp => by simpa only [loadEnded, phase] using hp) fun ha => ha.of_same job svcs

theorem outputsSafe_resets {s t : State} (h : Resets s t) (hs : outputsSafe s) : outputsSafe t := by
  cases h with
  | powerOn svcs => exact outputsSafe_powerOn svcs
  | asserted => exact outputsSafe_warmReset s
  | released svcs hp =>
    obtain ⟨hok, hrest, hload⟩ := (outputsSafe_iff s).1 hs
    have ha : Asleep s := hrest.resolve_left (by simp [loadEnded, hp])
    exact outputsSafe_start svcs ha (fun x => (hok x).2) fun hl => by rw [hload hl] at hp; cases hp
  | part svcs i n frame =>
    have started := outputsSafe_start svcs (asleep_warmReset (windowShut i n s)) (outputsDown_warmReset _)
      (not_isLoading_warmReset _)
    exact outputsSafe_of_keepsSafe (keeps_respond _ _ _).toKeepsSafe started
      (((outputsSafe_iff _).1 started).2.1.of_same rfl rfl rfl)

theorem outputsSafe_exec {c : Instr} {s t : State} (h : exec c s = .next t) (hs : outputsSafe s) : outputsSafe t := by
  cases exec_effect h with
  | keeps hk =>
    obtain ⟨_, hrest, _⟩ := (outputsSafe_iff s).1 hs
    refine outputsSafe_of_keepsSafe hk.toKeepsSafe hs ?_
    by_cases hp : loadEnded s = true
    · left
      rcases hk.phase with hph | ⟨_, hph⟩
      · simpa only [loadEnded, hph] using hp
      · simp [loadEnded, hph]
    · exact exec_rests h (hrest.resolve_left hp) (by simpa using hp)
  | endsLoad hk => exact outputsSafe_endsLoad hk hs
  | resets hk => exact outputsSafe_resets hk hs

end Sys2Proof.Machine

namespace Sys2Proof.Proofs
open Sys2Proof.Machine

/-- Settles O58: every command keeps the outputs, ends the load with every permit low, or is a reset; before a load end no
command takes up a service. -/
theorem stepKeepsTheOutputsSafe : Obligations.StepKeepsTheOutputsSafe := by
  intro s t hs h
  rcases stepsTo_cases h with ⟨hk, hjob, hsvcs⟩ | ⟨c, rest, _, hexec⟩
  · obtain ⟨_, hrest, _⟩ := (outputsSafe_iff s).1 hs
    refine outputsSafe_of_keepsSafe hk.toKeepsSafe hs ?_
    rcases hrest with hp | ha
    · left
      rcases hk.phase with hph | ⟨_, hph⟩
      · simpa only [loadEnded, hph] using hp
      · simp [loadEnded, hph]
    · exact .inr (ha.of_same hjob hsvcs)
  · exact outputsSafe_exec hexec hs

/-- Settles O59: each of the three by the effect of the step's command. -/
theorem stepKeepsQueuesClockAndArrival : Obligations.StepKeepsQueuesClockAndArrival := by
  refine ⟨fun s t hs h => ?ports, fun s t hs h => ?clock, fun s t hs h => ?arrival⟩ <;>
    rcases stepsTo_cases h with ⟨hk, _⟩ | ⟨c, rest, _, hexec⟩
  case ports.inl => exact hk.ports hs
  case ports.inr =>
    cases exec_effect hexec with
    | keeps hk => exact hk.ports hs
    | endsLoad hk => exact portsSound_endsLoad hk hs
    | resets hk => exact portsSound_resets hk hs
  case clock.inl => exact hk.all.clock hs
  case clock.inr =>
    cases exec_effect hexec with
    | keeps hk => exact hk.clock hs
    | endsLoad hk => exact clockSound_endsLoad hk hs
    | resets hk => exact clockSound_resets hk hs
  case arrival.inl => exact hk.arrival hs
  case arrival.inr =>
    cases exec_effect hexec with
    | keeps hk => exact hk.arrival hs
    | endsLoad hk => exact arrivalSound_endsLoad hk hs
    | resets hk => exact arrivalSound_resets hk hs

/-- Settles O60: a write stores only fields within their values, and a load end takes a valid image or none. -/
theorem stepKeepsTheConfigurationValid : Obligations.StepKeepsTheConfigurationValid := by
  intro s t hs h
  rcases stepsTo_cases h with ⟨hk, _⟩ | ⟨c, rest, _, hexec⟩
  · exact hk.all.config hs
  · cases exec_effect hexec with
    | keeps hk => exact hk.config hs
    | endsLoad hk => exact configSound_endsLoad hk
    | resets hk => exact configSound_resets hk hs

/-- Settles O57: nothing is taken up at a power-on, every queue is empty and RAM is blank. -/
theorem resetMeetsTheInvariants : Obligations.ResetMeetsTheInvariants :=
  ⟨outputsSafe_powerOn true, fun i => by cases i <;> exact portSound_warm Port.reset,
    (by decide : dateValid ⟨2000, 1, 1, 0, 0, 0⟩ = true),
    ⟨List.nodup_nil, fun x => by cases x <;> simp [State.reset, State.powerOn, State.svc, Per.get, Service.reset]⟩,
    configSound_blank⟩

end Sys2Proof.Proofs
end

section
/-! PROOFS. Steps, frames and windows (O1, O3 to O6): what each request window does before and apart from its own
request. -/

namespace Sys2Proof.Machine

/-! ## The frame of a request decodes back -/

theorem code_ne_of_not_contains {code : Byte} {l : List Byte} (h : l.contains code = false) {c : Byte} (hc : c ∈ l) :
    code ≠ c := by
  rintro rfl
  rw [List.contains_iff_mem.2 hc] at h
  cases h

theorem decodeRequest_unknown {code : Byte} (h : requestCodes.contains code = false) (port : PortId) (pin : Bool)
    (tag : Byte) (params : List Byte) :
    decodeRequest port pin code tag params = some (.unknownRequest port code tag params) := by
  have ne {c : Byte} (hc : c ∈ requestCodes) : code ≠ c := code_ne_of_not_contains h hc
  unfold decodeRequest
  repeat rw [if_neg (ne (by decide))]

/-- The parameters of a request that can arrive are read back as that request. -/
theorem decode_params {c c' : Instr} {port : PortId} {pin : Bool} {code tag : Byte} {params : List Byte}
    (hf : requestFrame c = frameOf code tag params) (hw : c.wellFormed = true)
    (hd : decodeRequest port pin code tag params = some c') : decodeWindow port pin (requestFrame c) = c' := by
  have hlen := length_requestFrame c hw
  rw [hf] at hlen ⊢
  rw [decode_of_frame port pin code tag params (by simp [frameOf] at hlen; omega), hd]
  rfl

/-- A request's frame, while one can arrive, decodes to the request. -/
theorem decode_requestFrame {c : Instr} (hw : c.wellFormed = true) (hne : requestFrame c ≠ []) :
    decodeWindow (portOf c) (pinOf c) (requestFrame c) = c := by
  cases c with
  | unknownRequest port code tag params =>
    have hc : requestCodes.contains code = false := by
      simp only [Instr.wellFormed, Bool.and_eq_true, Bool.not_eq_true'] at hw
      exact hw.1
    exact decode_params rfl hw (decodeRequest_unknown hc port _ tag params)
  | readConformanceTable port tag svc view =>
    have hv : view ≠ 1 := by simpa [Instr.wellFormed] using hw
    refine decode_params rfl hw ?_
    show some (takeConformance port tag svc view) = _
    rw [takeConformance, if_neg hv]
  | writePattern port tag svc slot body =>
    cases body with
    | none => exact decode_params rfl hw rfl
    | some f =>
      have hp : f.pairs.length ≤ 62 := by simpa [Instr.wellFormed] using hw
      refine decode_params rfl hw ?_
      show (takePattern (patternBytes f)).map _ = _
      rw [takePattern_bytes f hp]
      rfl
  | tunePattern port tag svc slot cut win per items =>
    have hi : items.length ≤ 35 := by simpa [Instr.wellFormed] using hw
    refine decode_params rfl hw ?_
    show (counted _ (takeItems (items.flatMap tuneItemBytes))).map _ = _
    rw [takeItems_bytes, counted_some items (by omega)]
    rfl
  | writeScheduleRow port tag svc month entries =>
    have he : entries.length ≤ 83 := by simpa [Instr.wellFormed] using hw
    refine decode_params rfl hw ?_
    show (counted _ (takeEntries (entries.flatMap rowEntryBytes))).map _ = _
    rw [takeEntries_bytes, counted_some entries (by omega)]
    rfl
  | writePoint port tag index body =>
    have hi : index ≠ 32 := by simpa [Instr.wellFormed] using hw
    cases body <;> refine decode_params (port := port) rfl hw ?_ <;>
      simp [decodeRequest, takeWritePoint, takePoint, pointBytes, halfBytes, halfOf_hi_lo, show ¬ index = 32#8 from hi]
  | writeSiteBusRecord port tag base speed debounce =>
    refine decode_params rfl hw ?_
    show some (Instr.writeSiteBusRecord port tag base speed (halfOf (hiByte debounce) (loByte debounce))) = _
    rw [halfOf_hi_lo]
  | writeServiceSettings port tag svc f =>
    refine decode_params (port := port) rfl hw ?_
    simp [decodeRequest, takeSettings, settingsBytes, halfBytes, halfOf_hi_lo]
  | setClock port tag timebase date =>
    cases date <;> refine decode_params (port := port) rfl hw ?_ <;>
      simp [decodeRequest, takeClock, dateBytes, halfBytes, halfOf_hi_lo]
  | readStatus | readService | readConformanceRaw | readPoints | readInterlocks | readEvents | readClock | readPattern
  | readSchedule | requestPattern | abortChange | resumeService | setMode | ackInterlock | writeInterlock | writeRoute
  | saveConfig | resetPart => exact decode_params rfl hw rfl
  | _ => exact absurd rfl hne

theorem towerBytes_eq : (fun t : TowerFrame => [t.flags] ++ halfBytes t.ratio ++ halfBytes t.phase ++
    halfBytes t.ratioTol ++ halfBytes t.phaseTol) = towerBytes := by
  funext t
  simp [towerBytes]

theorem tuneItemBytes_eq : (fun t : TuneItem => [t.tower] ++ halfBytes t.ratioTol ++ halfBytes t.phaseTol ++
    [t.ratioEnf, t.phaseEnf]) = tuneItemBytes := by
  funext t
  simp [tuneItemBytes]

/-! ## What a request answers -/

/-- A request is accepted, or refused with nothing changed. -/
def AcceptedOrRefused (a : Answer) (s : State) : Prop :=
  a.status = .ok ∨ a.status = .okClamped ∨ a.status = .queued ∨ a = refuse a.status s

theorem acceptedOrRefused_refuse (st : Status) (s : State) : AcceptedOrRefused (refuse st s) s := .inr (.inr (.inr rfl))

theorem acceptedOrRefused_ok {a : Answer} (h : a.status = .ok) (s : State) : AcceptedOrRefused a s := .inl h

theorem acceptedOrRefused_clamped {a : Answer} {b : Bool} (h : a.status = clampStatus b) (s : State) :
    AcceptedOrRefused a s := by
  cases b
  · exact .inl h
  · exact .inr (.inl h)

theorem acceptedOrRefused_ite {p : Prop} [Decidable p] {a b : Answer} {s : State} (ha : AcceptedOrRefused a s)
    (hb : AcceptedOrRefused b s) : AcceptedOrRefused (if p then a else b) s := by
  split <;> assumption

theorem acceptedOrRefused_inRange {α : Type} (v : Option α) {s : State} {body : α → Answer}
    (h : ∀ v, AcceptedOrRefused (body v) s) : AcceptedOrRefused (inRange v s body) s := by
  cases v with
  | none => exact acceptedOrRefused_refuse .badField s
  | some v => exact h v

theorem acceptedOrRefused_forAny (svc : Byte) {s : State} {body : Svc → Answer}
    (h : ∀ x, AcceptedOrRefused (body x) s) : AcceptedOrRefused (forAnyService svc s body) s := by
  unfold forAnyService
  split
  · exact h _
  · exact acceptedOrRefused_refuse .noService s

theorem acceptedOrRefused_forOwn (port : PortId) (svc : Byte) {s : State} {body : Svc → Answer}
    (h : ∀ x, AcceptedOrRefused (body x) s) : AcceptedOrRefused (forOwnService port svc s body) s :=
  acceptedOrRefused_ite (acceptedOrRefused_refuse .notPermitted s) (acceptedOrRefused_forAny svc h)

theorem acceptedOrRefused_fromSite (port : PortId) {s : State} {a : Answer} (h : AcceptedOrRefused a s) :
    AcceptedOrRefused (fromSite port s a) s := acceptedOrRefused_ite h (acceptedOrRefused_refuse .notPermitted s)

theorem acceptedOrRefused_whileUnsaved {s : State} {a : Answer} (h : AcceptedOrRefused a s) :
    AcceptedOrRefused (whileUnsaved s a) s := acceptedOrRefused_ite (acceptedOrRefused_refuse .saveBusy s) h

theorem acceptedOrRefused_whileQuiet {s : State} {a : Answer} (h : AcceptedOrRefused a s) :
    AcceptedOrRefused (whileQuiet s a) s := acceptedOrRefused_ite (acceptedOrRefused_refuse .siteLive s) h

theorem acceptedOrRefused_requestPattern (port : PortId) (tag slot : Byte) (s : State) (x : Svc) :
    AcceptedOrRefused (answerRequestPattern port tag slot s x) s :=
  acceptedOrRefused_inRange _ fun _ => acceptedOrRefused_ite (acceptedOrRefused_refuse .patternEmpty s)
    (acceptedOrRefused_ite (acceptedOrRefused_refuse .alreadyInForce s) (.inr (.inr (.inl rfl))))

theorem acceptedOrRefused_abortChange (s : State) (x : Svc) : AcceptedOrRefused (answerAbortChange s x) s := by
  have withdrawn : AcceptedOrRefused (answerWithdraw s x) s :=
    acceptedOrRefused_ite (.inl rfl) (acceptedOrRefused_refuse .state s)
  unfold answerAbortChange
  split
  · refine acceptedOrRefused_ite ?_ withdrawn
    split
    · exact .inl rfl
    · exact acceptedOrRefused_refuse .notAbortable s
  · exact withdrawn

theorem acceptedOrRefused_ackInterlock (port : PortId) (index : Byte) (s : State) :
    AcceptedOrRefused (answerAckInterlock port index s) s := by
  have acked : AcceptedOrRefused (ackIndex index s) s :=
    acceptedOrRefused_inRange _ fun _ => acceptedOrRefused_ite (.inl rfl) (acceptedOrRefused_refuse .state s)
  unfold answerAckInterlock
  split
  · exact acked
  · exact acceptedOrRefused_ite (acceptedOrRefused_refuse .notPermitted s)
      (acceptedOrRefused_ite (acceptedOrRefused_refuse .noService s) acked)

theorem acceptedOrRefused_writePattern (slot : Byte) (body : Option PatternFrame) (s : State) (x : Svc) :
    AcceptedOrRefused (answerWritePattern slot body s x) s :=
  acceptedOrRefused_whileUnsaved <| acceptedOrRefused_inRange _ fun _ =>
    acceptedOrRefused_ite (acceptedOrRefused_refuse .inUse s) <| acceptedOrRefused_inRange _ fun _ =>
      acceptedOrRefused_ite (acceptedOrRefused_clamped rfl s) (acceptedOrRefused_refuse .badField s)

theorem acceptedOrRefused_tunePattern (slot cut win per : Byte) (items : List TuneItem) (s : State) (x : Svc) :
    AcceptedOrRefused (answerTunePattern slot cut win per items s x) s := by
  refine acceptedOrRefused_whileUnsaved (acceptedOrRefused_inRange _ fun k => ?_)
  split
  · exact acceptedOrRefused_refuse .patternEmpty s
  · exact acceptedOrRefused_inRange _ fun _ => acceptedOrRefused_clamped rfl s

theorem acceptedOrRefused_writePoint (index : Byte) (body : Option PointFrame) (s : State) :
    AcceptedOrRefused (answerWritePoint index body s) s :=
  acceptedOrRefused_whileUnsaved <| acceptedOrRefused_whileQuiet <| acceptedOrRefused_inRange _ fun _ =>
    acceptedOrRefused_inRange _ fun _ =>
      acceptedOrRefused_ite (acceptedOrRefused_clamped rfl s) (acceptedOrRefused_refuse .lineConflict s)

/-- Every request is a window judged by a body that accepts it or refuses it with nothing changed. -/
theorem exec_request {c : Instr} (h : requestFrame c ≠ []) :
    ∃ tag body, (∀ s, exec c s = .next (request (portOf c) tag (requestFrame c).length body s)) ∧
      ∀ s, AcceptedOrRefused (body s) s := by
  cases c with
  | unknownRequest port code tag params =>
    exact ⟨tag, _, fun _ => rfl, fun s => acceptedOrRefused_refuse .unknownRequest s⟩
  | readStatus port tag => exact ⟨tag, _, fun _ => rfl, fun s => .inl rfl⟩
  | readInterlocks port tag => exact ⟨tag, _, fun _ => rfl, fun s => .inl rfl⟩
  | readEvents port tag => exact ⟨tag, _, fun _ => rfl, fun s => .inl rfl⟩
  | readClock port tag => exact ⟨tag, _, fun _ => rfl, fun s => .inl rfl⟩
  | readPoints port tag first =>
    exact ⟨tag, _, fun _ => rfl, fun s => acceptedOrRefused_inRange _ fun _ => .inl rfl⟩
  | readService port tag svc => exact ⟨tag, _, fun _ => rfl, fun s => acceptedOrRefused_forAny svc fun _ => .inl rfl⟩
  | readConformanceTable port tag svc view =>
    exact ⟨tag, _, fun _ => rfl, fun s => acceptedOrRefused_forAny svc fun _ =>
      acceptedOrRefused_ite (.inl rfl) (acceptedOrRefused_refuse .badField s)⟩
  | readConformanceRaw port tag svc =>
    exact ⟨tag, _, fun _ => rfl, fun s => acceptedOrRefused_forAny svc fun _ => .inl rfl⟩
  | readPattern port tag svc slot =>
    exact ⟨tag, _, fun _ => rfl, fun s => acceptedOrRefused_forAny svc fun _ =>
      acceptedOrRefused_inRange _ fun _ => .inl rfl⟩
  | readSchedule port tag svc => exact ⟨tag, _, fun _ => rfl, fun s => acceptedOrRefused_forAny svc fun _ => .inl rfl⟩
  | requestPattern port tag svc slot =>
    exact ⟨tag, _, fun _ => rfl, fun s => acceptedOrRefused_forOwn port svc
      (acceptedOrRefused_requestPattern port tag slot s)⟩
  | abortChange port tag svc =>
    exact ⟨tag, _, fun _ => rfl, fun s => acceptedOrRefused_forOwn port svc (acceptedOrRefused_abortChange s)⟩
  | resumeService port tag svc =>
    exact ⟨tag, _, fun _ => rfl, fun s => acceptedOrRefused_forOwn port svc fun _ =>
      acceptedOrRefused_ite (.inl rfl) (acceptedOrRefused_refuse .state s)⟩
  | setMode port tag svc mode =>
    exact ⟨tag, _, fun _ => rfl, fun s => acceptedOrRefused_forOwn port svc fun _ =>
      acceptedOrRefused_inRange _ fun _ => acceptedOrRefused_ite (.inl rfl) (.inl rfl)⟩
  | ackInterlock port tag index => exact ⟨tag, _, fun _ => rfl, acceptedOrRefused_ackInterlock port index⟩
  | writePattern port tag svc slot body =>
    exact ⟨tag, _, fun _ => rfl, fun s => acceptedOrRefused_forOwn port svc (acceptedOrRefused_writePattern slot body s)⟩
  | tunePattern port tag svc slot cut win per items =>
    exact ⟨tag, _, fun _ => rfl, fun s => acceptedOrRefused_forOwn port svc
      (acceptedOrRefused_tunePattern slot cut win per items s)⟩
  | writeScheduleRow port tag svc month entries =>
    exact ⟨tag, _, fun _ => rfl, fun s => acceptedOrRefused_forOwn port svc fun _ =>
      acceptedOrRefused_whileUnsaved <| acceptedOrRefused_inRange _ fun _ =>
        acceptedOrRefused_inRange _ fun _ => .inl rfl⟩
  | writePoint port tag index body =>
    exact ⟨tag, _, fun _ => rfl, fun s => acceptedOrRefused_fromSite port (acceptedOrRefused_writePoint index body s)⟩
  | writeSiteBusRecord port tag base speed debounce =>
    exact ⟨tag, _, fun _ => rfl, fun s => acceptedOrRefused_fromSite port <| acceptedOrRefused_whileUnsaved <|
      acceptedOrRefused_whileQuiet <| acceptedOrRefused_inRange _ fun _ => acceptedOrRefused_clamped rfl s⟩
  | writeInterlock port tag index body pin =>
    exact ⟨tag, _, fun _ => rfl, fun s => acceptedOrRefused_fromSite port <| acceptedOrRefused_whileUnsaved <|
      acceptedOrRefused_whileQuiet <| acceptedOrRefused_inRange _ fun _ =>
        acceptedOrRefused_inRange _ fun _ => .inl rfl⟩
  | writeServiceSettings port tag svc body =>
    exact ⟨tag, _, fun _ => rfl, fun s => acceptedOrRefused_forOwn port svc fun _ =>
      acceptedOrRefused_whileUnsaved <| acceptedOrRefused_inRange _ fun _ => acceptedOrRefused_clamped rfl s⟩
  | writeRoute port tag kind ports =>
    exact ⟨tag, _, fun _ => rfl, fun s => acceptedOrRefused_fromSite port <| acceptedOrRefused_whileUnsaved <|
      acceptedOrRefused_inRange _ fun _ => acceptedOrRefused_inRange _ fun _ => .inl rfl⟩
  | setClock port tag timebase date =>
    exact ⟨tag, _, fun _ => rfl, fun s => acceptedOrRefused_fromSite port <| acceptedOrRefused_whileUnsaved <|
      acceptedOrRefused_inRange _ fun _ => .inl rfl⟩
  | saveConfig port tag =>
    exact ⟨tag, _, fun _ => rfl, fun s => acceptedOrRefused_fromSite port <| acceptedOrRefused_whileUnsaved (.inl rfl)⟩
  | resetPart port tag svcs =>
    exact ⟨tag, _, fun _ => rfl, fun s => acceptedOrRefused_fromSite port (.inl rfl)⟩
  | _ => exact absurd rfl h

@[simp] theorem PerPort.set_set {α : Type} (p : PerPort α) (i : PortId) (v w : α) : (p.set i v).set i w = p.set i w := by
  cases i <;> rfl

/-- A poll that is taken: the window shut, and the buffer kept only where the response was longer. -/
theorem poll_eq {n : Nat} {s : State} (port : PortId) (hn : 0 < n) (hp : s.phase ≠ .resetHeld) :
    poll port n s =
    { s with
      ports := s.ports.set port
        { s.ports.get port with
          window := none
          shifted := ((s.ports.get port).response.getD [1] ++ List.replicate n 0xFF).take n
          response := (s.ports.get port).response.filter fun r => decide (n < r.length) } } := by
  have kept (h : (s.ports.get port).response.filter (fun r => decide (n < r.length)) = (s.ports.get port).response) :
      closePort port n s = { s with
        ports := s.ports.set port
          { s.ports.get port with
            window := none
            shifted := ((s.ports.get port).response.getD [1] ++ List.replicate n 0xFF).take n
            response := (s.ports.get port).response.filter fun r => decide (n < r.length) } } := by
    rw [h]; rfl
  rw [poll, if_neg (by simp only [hp, false_or]; omega)]
  dsimp only
  split
  · next r hr =>
    split
    · next hl =>
      have gone : (s.ports.get port).response.filter (fun r => decide (n < r.length)) = none := by
        simp [hr, Option.filter, Nat.not_lt.2 hl]
      rw [gone]
      simp only [closePort, State.setPort, PerPort.get_set_same, PerPort.set_set]
      rfl
    · next hl => exact kept (by simp [hr, Option.filter, Nat.lt_of_not_le hl])
  · next hr => exact kept (by simp [hr])

/-! ## First checks that refuse -/

theorem svcOfCode_eq_some {b : Byte} {x : Svc} : svcOfCode b = some x ↔ b = (match x with | .a => 1 | .b => 2) := by
  cases x <;> revert b <;> decide

theorem mayName_eq_false {port : PortId} {svc : Byte} (h : port = .a ∧ svc ≠ 1 ∨ port = .b ∧ svc ≠ 2) :
    mayName port svc = false := by
  have other {x : Svc} (hx : svcOfCode svc ≠ some x) : (svcOfCode svc == some x) = false := beq_eq_false_iff_ne.2 hx
  rcases h with ⟨rfl, h⟩ | ⟨rfl, h⟩ <;> exact other fun hx => h (svcOfCode_eq_some.1 hx)

theorem mayName_eq_true {port : PortId} {svc : Byte} (h : port = .site ∨ port = .a ∧ svc = 1 ∨ port = .b ∧ svc = 2) :
    mayName port svc = true := by
  rcases h with rfl | ⟨rfl, rfl⟩ | ⟨rfl, rfl⟩ <;> rfl

theorem namedService_eq_none {s : State} {svc : Byte} (h : svc ≠ 1 ∧ svc ≠ 2 ∨ svc = 2 ∧ s.twoServices = false) :
    namedService s svc = none := by
  unfold namedService
  rcases h with ⟨h1, h2⟩ | ⟨rfl, h⟩
  · have hn : svcOfCode svc = none := by
      cases hc : svcOfCode svc with
      | none => rfl
      | some x => cases x <;> rw [svcOfCode_eq_some] at hc <;> contradiction
    rw [hn]
  · show (if present s .b then some Svc.b else none) = none
    rw [if_neg]
    simp [present, h]

theorem forOwnService_notPermitted {port : PortId} {svc : Byte} (h : mayName port svc = false) (s : State)
    (body : Svc → Answer) : forOwnService port svc s body = refuse .notPermitted s := by
  simp [forOwnService, h]

theorem forOwnService_noService {port : PortId} {svc : Byte} {s : State} (h : mayName port svc = true)
    (hn : namedService s svc = none) (body : Svc → Answer) :
    forOwnService port svc s body = refuse .noService s := by
  simp [forOwnService, h, hn]

theorem forAnyService_noService {svc : Byte} {s : State} (hn : namedService s svc = none) (body : Svc → Answer) :
    forAnyService svc s body = refuse .noService s := by
  simp [forAnyService, hn]

theorem whileUnsaved_of_saving {s : State} (h : saveInFlight s = true) (a : Answer) :
    whileUnsaved s a = refuse .saveBusy s := by
  simp [whileUnsaved, h]

end Sys2Proof.Machine

namespace Sys2Proof.Proofs

open Sys2Proof.Machine

/-- Settles O1: the equation of the step. -/
theorem stepRunsTheFrontCommand : Obligations.StepRunsTheFrontCommand := fun _ _ => rfl

/-- Settles O3: reading the parameters of a frame gives the request back; the layouts are the frames' own. -/
theorem requestFrameDecodesBack : Obligations.RequestFrameDecodesBack := by
  refine ⟨fun c hw hne => decode_requestFrame hw hne, ?_⟩
  intro frame h hframe hh port tag code svc b d w pin params
  have eframe : frame = frameOf := by funext code tag params; exact hframe code tag params
  have eh : h = halfBytes := by funext w; exact hh w
  subst eframe eh
  refine ⟨rfl, rfl, rfl, rfl, rfl, rfl, rfl, rfl, rfl, rfl, rfl, rfl, rfl, rfl, rfl, rfl, rfl, fun f => ?_, fun win per items => ?_,
    fun entries => rfl, rfl, fun f => rfl, rfl, fun f => rfl, fun f => ?_, rfl, rfl, fun f => rfl, rfl, rfl⟩
  · rw [towerBytes_eq]
    simp only [requestFrame, patternBytes, List.append_assoc, List.cons_append, List.nil_append]
    rfl
  · rw [tuneItemBytes_eq]
    rfl
  · simp [requestFrame, settingsBytes]

/-- Settles O4: a poll, a refusal and a shut window by the phase. -/
theorem windowsAreTakenOrAnswered : Obligations.WindowsAreTakenOrAnswered := by
  refine ⟨fun port n s => ⟨fun hn hp => ?_, ?_, fun hp => ?_⟩, fun port s h => ⟨fun clocked => ?_, fun code tag params => ?_⟩,
    fun c s hne => ?_, fun port clocked s => ?_⟩
  · exact congrArg _ (poll_eq port hn hp)
  · show Host.Outcome.next (poll port 0 s) = _
    simp [poll]
  · show Host.Outcome.next (poll port n s) = _
    simp [poll, hp]
  · exact congrArg _ (request_refused h port _ _ _ .badLength rfl)
  · rw [Nat.add_comm]
    exact congrArg _ (request_refused h port _ _ _ .unknownRequest rfl)
  · obtain ⟨tag, body, hexec, _⟩ := exec_request hne
    rw [hexec]
    exact ⟨fun hp => congrArg _ (request_of_loading hp _ _ _ _), fun hp => congrArg _ (request_of_resetHeld hp _ _ _ _)⟩
  · exact ⟨fun hp => congrArg _ (request_of_loading hp _ _ _ _), fun hp => congrArg _ (request_of_resetHeld hp _ _ _ _)⟩

/-- Settles O5: an answer other than an acceptance is a refusal with nothing changed. -/
theorem refusedRequestChangesNothing : Obligations.RefusedRequestChangesNothing := by
  intro c s t len status tag payload hl hne hexec hresp h0 h2 h3
  obtain ⟨tag', body, hreq, hbody⟩ := exec_request hne
  rw [hreq] at hexec
  cases hexec
  rw [request_of_loadEnded hl] at hresp ⊢
  generalize hs : windowShut (portOf c) (requestFrame c).length s = s' at hresp ⊢
  have hframe : responseFrame (body s').status tag' (body s').payload = len :: status :: tag :: payload := by
    simpa [deliverAnswer, respond] using hresp
  simp only [responseFrame, List.cons.injEq] at hframe
  obtain ⟨_, hst, htag, _⟩ := hframe
  have refused : body s' = refuse (body s').status s' := by
    rcases hbody s' with h | h | h | h
    · exact absurd (by rw [← hst, h]; rfl) h0
    · exact absurd (by rw [← hst, h]; rfl) h2
    · exact absurd (by rw [← hst, h]; rfl) h3
    · exact h
  rw [refused, ← hst, ← htag, ← hs]
  rfl

/-- Settles O6: each request's first checks, in their order. -/
theorem requestsArePermitted : Obligations.RequestsArePermitted := by
  refine ⟨fun c port tag svc s hl hc => ?_, fun c port tag s hl hp hc => ?_, fun c port tag svc x s hsave hc => ?_⟩
  · have own : ∃ body : State → Svc → Answer, exec c s =
        .next (request port tag (requestFrame c).length (fun t => forOwnService port svc t (body t)) s) := by
      rcases hc with ⟨_, rfl⟩ | rfl | rfl | ⟨_, rfl⟩ | ⟨_, _, rfl⟩ | ⟨_, _, _, _, _, rfl⟩ | ⟨_, _, rfl⟩ | ⟨_, rfl⟩ <;>
        exact ⟨_, rfl⟩
    obtain ⟨body, hexec⟩ := own
    rw [hexec]
    refine ⟨fun h => ?_, fun hmay h => ?_⟩
    · exact congrArg _ (request_refused hl port tag _ _ .notPermitted
        (forOwnService_notPermitted (mayName_eq_false h) _ _))
    · exact congrArg _ (request_refused hl port tag _ _ .noService
        (forOwnService_noService (mayName_eq_true hmay) (namedService_eq_none (by exact h)) _))
  · have site : ∃ body : State → Answer, exec c s =
        .next (request port tag (requestFrame c).length (fun t => fromSite port t (body t)) s) := by
      rcases hc with ⟨_, _, rfl⟩ | ⟨_, _, _, rfl⟩ | ⟨_, _, _, rfl⟩ | ⟨_, _, rfl⟩ | ⟨_, _, rfl⟩ | rfl | ⟨_, rfl⟩ <;>
        exact ⟨_, rfl⟩
    obtain ⟨body, hexec⟩ := site
    rw [hexec]
    exact congrArg _ (request_refused hl port tag _ _ .notPermitted (fromSite_of_ne hp _ _))
  · rcases hc with ⟨ht, hc⟩ | ⟨hl, rfl, hc⟩
    · have own : ∃ body : State → Svc → Answer, exec c s = .next (request port tag (requestFrame c).length
          (fun t => forOwnService port svc t fun y => whileUnsaved t (body t y)) s) := by
        rcases hc with ⟨_, _, rfl⟩ | ⟨_, _, _, _, _, rfl⟩ | ⟨_, _, rfl⟩ | ⟨_, rfl⟩ <;> exact ⟨_, rfl⟩
      obtain ⟨body, hexec⟩ := own
      rw [hexec]
      refine congrArg _ (request_refused ht.ended port tag _ _ .saveBusy ?_)
      rw [forOwnService_of_takes ht]
      exact whileUnsaved_of_saving (by exact hsave) _
    · have site : ∃ body : State → Answer, exec c s = .next (request .site tag (requestFrame c).length
          (fun t => fromSite .site t (whileUnsaved t (body t))) s) := by
        rcases hc with ⟨_, _, rfl⟩ | ⟨_, _, _, rfl⟩ | ⟨_, _, _, rfl⟩ | ⟨_, _, rfl⟩ | ⟨_, _, rfl⟩ | rfl <;>
          exact ⟨_, rfl⟩
      obtain ⟨body, hexec⟩ := site
      rw [hexec]
      exact congrArg _ (request_refused hl .site tag _ _ .saveBusy (whileUnsaved_of_saving (by exact hsave) _))

end Sys2Proof.Proofs
end

section
/-! PROOFS. Idle steps and commands without their cause (O2): the timers of the part as one list, of which the first whose
moment has come puts its command in the queue. -/

namespace Sys2Proof.Machine

/-! ## The timers -/

theorem some_eq_whenDue {s : State} {due : Option Nat} {c d : Instr} :
    some c = whenDue s due d ↔ c = d ∧ ∃ t, due = some t ∧ t ≤ s.now := by
  unfold whenDue
  cases due with
  | none => simp
  | some t => by_cases h : t ≤ s.now <;> simp [h]

theorem settleDue_eq_some {s : State} {x : Svc} {t : Nat} :
    settleDue s x = some t ↔ ∃ j, s.job = some j ∧ j.phase = .muting ∧ j.settle.get x = some (.delay t) := by
  unfold settleDue
  cases s.job with
  | none => simp
  | some j => rcases hp : j.phase <;> rcases hx : j.settle.get x with _ | _ | _ | _ | _ <;> simp [hp, hx]

theorem muteDue_eq_some {s : State} {x : Svc} {t : Nat} :
    muteDue s x = some t ↔ ∃ j, s.job = some j ∧ j.phase = .muting ∧ j.settle.get x = some (.confirm t) := by
  unfold muteDue
  cases s.job with
  | none => simp
  | some j => rcases hp : j.phase <;> rcases hx : j.settle.get x with _ | _ | _ | _ | _ <;> simp [hp, hx]

theorem transitDue_eq_some {s : State} {i : Fin 32} {t : Nat} :
    transitDue s i = some t ↔
      ∃ j m, s.job = some j ∧ j.moves.find? (fun m => m.point == i) = some m ∧ m.timer = .running t := by
  unfold transitDue
  cases s.job with
  | none => simp
  | some j =>
    cases hm : j.moves.find? (fun m => m.point == i) with
    | none => simp [hm]
    | some m => rcases ht : m.timer <;> simp [hm, ht, timerDue]

theorem windowDue_eq_some {s : State} {x : Svc} {t : Nat} :
    windowDue s x = some t ↔ (s.svc x).state = .verifying ∧ (∃ p, inForcePattern s x = some p) ∧
      ∃ w, (s.table x).window = some w ∧ w.expiry = t := by
  unfold windowDue
  cases (s.table x).window with
  | none => simp
  | some w =>
    cases inForcePattern s x with
    | none => simp
    | some p => by_cases h : (s.svc x).state = .verifying <;> simp [h]

theorem confirmDue_eq_some {s : State} {e : Fin 8} {t : Nat} :
    confirmDue s e = some t ↔ (s.exp e).confirm = .due t := by
  unfold confirmDue
  cases (s.exp e).confirm <;> simp

theorem pollDue_eq_some {s : State} {q : Nat × Nat} :
    pollDue s = some q ↔ ∃ page image written next, s.store = .saving page image (.polling written next) ∧
      q = (written + 10, next) := by
  unfold pollDue
  split
  · next page image written next h =>
    rw [h]
    constructor
    · rintro ⟨⟩; exact ⟨page, image, written, next, rfl, rfl⟩
    · rintro ⟨_, _, _, _, ⟨⟩, rfl⟩; rfl
  · next h => simp only [reduceCtorEq, false_iff]; rintro ⟨p, i, w, n, h', _⟩; exact h p i w n h'

theorem some_eq_interlockDue {s : State} {k : Fin 4} {c : Instr} :
    some c = interlockDue s k ↔ ∃ d, c = .interlockLevelAccepted k d.candidate ∧ loadEnded s = true ∧
      s.cfg.interlocks[k] ≠ none ∧ (s.interlock k).accepted = some (!d.candidate) ∧
      (s.interlock k).debounce = some d ∧ d.start + d.interval ≤ s.now := by
  unfold interlockDue
  cases hd : (s.interlock k).debounce with
  | none => simp
  | some d =>
    simp only [Option.some.injEq]
    split
    · next h =>
      simp only [Bool.and_eq_true, beq_iff_eq, Option.isSome_iff_ne_none] at h
      obtain ⟨⟨hl, hr⟩, ha⟩ := h
      rw [some_eq_whenDue]
      constructor
      · rintro ⟨rfl, t, ⟨⟩, ht⟩; exact ⟨d, rfl, hl, hr, ha, rfl, ht⟩
      · rintro ⟨_, rfl, _, _, _, rfl, ht⟩; exact ⟨rfl, _, rfl, ht⟩
    · next h =>
      simp only [reduceCtorEq, false_iff]
      rintro ⟨_, _, hl, hr, ha, rfl, _⟩
      exact h (by simp only [Bool.and_eq_true, beq_iff_eq, Option.isSome_iff_ne_none]; exact ⟨⟨hl, hr⟩, ha⟩)

theorem fastDue_eq_some {s : State} {t : Nat} :
    fastDue s = some t ↔ s.bus.scanner.on = true ∧ s.bus.scanner.fastArmed = true ∧
      (s.expAttn = true ∨ anyPending s = true) ∧ ∃ u, s.bus.scanner.lastStart = some u ∧ u + 4 = t := by
  unfold fastDue fastWanted
  split
  · next h =>
    simp only [Bool.and_eq_true, Bool.or_eq_true, and_assoc] at h
    obtain ⟨hon, harm, hw⟩ := h
    simp [hon, harm, hw, fastInterval]
  · next h =>
    simp only [Bool.and_eq_true, Bool.or_eq_true, and_assoc] at h
    simp only [reduceCtorEq, false_iff]
    rintro ⟨hon, harm, hw, _⟩
    exact h ⟨hon, harm, hw⟩

theorem dividerDue_eq_some {s : State} {t : Nat} :
    dividerDue s = some t ↔ s.clock.active = .internal ∧ s.clock.dividerStart + 1000 = t := by
  unfold dividerDue
  cases s.clock.active <;> simp [dividerPeriod]

/-- What the timers of a service raise. -/
def serviceTimers (s : State) (x : Svc) : List (Option Instr) :=
  [whenDue s (s.receiver x).gapDue (.gapTimerExpiry x), whenDue s (settleDue s x) (.settleDelayExpiry x),
    whenDue s (muteDue s x) (.muteTimeout x), whenDue s (windowDue s x) (.verifyWindowExpiry x),
    whenDue s (s.receiver x).staleDue (.stalenessTimerExpiry x)]

/-- What every timer of the part raises, in the order log entry 6 gives. -/
def timers (s : State) : List (Option Instr) :=
  whenDue s (s.bus.current.map fun c => c.grantedAt + busLimit) .busTransactionTimeout ::
  whenDue s s.clock.lossDue .tickLossTimeout ::
  whenDue s (dividerDue s) .secondDividerStep ::
  ([Svc.a, .b].flatMap (serviceTimers s) ++
  ((List.finRange 32).map (fun i => whenDue s (transitDue s i) (.transitLimitExpiry i)) ++
  ((List.finRange 8).map (fun e => whenDue s (confirmDue s e) (.confirmationReadDue e)) ++
  ([whenDue s ((pollDue s).map Prod.fst) .eepromPollTimeout,
    whenDue s ((pollDue s).map Prod.snd) .eepromPollInterval] ++
  ((List.finRange 4).map (interlockDue s) ++
  [whenDue s s.bus.scanner.periodicDue .periodicScanTimer, whenDue s (fastDue s) .fastScanTimer])))))

theorem findSome_cons_or {α : Type} (o : Option α) (l : List (Option α)) :
    (o :: l).findSome? id = o.or (l.findSome? id) := by cases o <;> rfl

theorem dueCommand_eq (s : State) : dueCommand s = (timers s).findSome? id := by
  have maps {α : Type} (f : α → Option Instr) (l : List α) : (l.map f).findSome? id = l.findSome? f := by
    rw [List.findSome?_map]; rfl
  simp only [dueCommand, timers, List.flatMap_cons, List.flatMap_nil, serviceTimers, serviceDue, findSome_cons_or,
    List.findSome?_append, maps, List.findSome?_nil, Option.or_none, Option.or_assoc]

/-- A timer that is due, as O2 lists them. -/
theorem some_mem_serviceTimers {s : State} {x : Svc} {c : Instr} :
    some c ∈ serviceTimers s x ↔ ∃ t, t ≤ s.now ∧
      (c = .gapTimerExpiry x ∧ (s.receiver x).gapDue = some t ∨
        (c = .settleDelayExpiry x ∧ ∃ j, s.job = some j ∧ j.phase = .muting ∧ j.settle.get x = some (.delay t)) ∨
        (c = .muteTimeout x ∧ ∃ j, s.job = some j ∧ j.phase = .muting ∧ j.settle.get x = some (.confirm t)) ∨
        (c = .verifyWindowExpiry x ∧ (s.svc x).state = .verifying ∧ (∃ p, inForcePattern s x = some p) ∧
          ∃ w, (s.table x).window = some w ∧ w.expiry = t) ∨
        c = .stalenessTimerExpiry x ∧ (s.receiver x).staleDue = some t) := by
  simp only [serviceTimers, List.mem_cons, List.not_mem_nil, or_false, some_eq_whenDue, settleDue_eq_some,
    muteDue_eq_some, windowDue_eq_some]
  constructor
  · rintro (⟨hc, t, h, ht⟩ | ⟨hc, t, h, ht⟩ | ⟨hc, t, h, ht⟩ | ⟨hc, t, h, ht⟩ | ⟨hc, t, h, ht⟩)
    · exact ⟨t, ht, .inl ⟨hc, h⟩⟩
    · exact ⟨t, ht, .inr (.inl ⟨hc, h⟩)⟩
    · exact ⟨t, ht, .inr (.inr (.inl ⟨hc, h⟩))⟩
    · exact ⟨t, ht, .inr (.inr (.inr (.inl ⟨hc, h⟩)))⟩
    · exact ⟨t, ht, .inr (.inr (.inr (.inr ⟨hc, h⟩)))⟩
  · rintro ⟨t, ht, ⟨hc, h⟩ | ⟨hc, h⟩ | ⟨hc, h⟩ | ⟨hc, h⟩ | ⟨hc, h⟩⟩
    · exact .inl ⟨hc, t, h, ht⟩
    · exact .inr (.inl ⟨hc, t, h, ht⟩)
    · exact .inr (.inr (.inl ⟨hc, t, h, ht⟩))
    · exact .inr (.inr (.inr (.inl ⟨hc, t, h, ht⟩)))
    · exact .inr (.inr (.inr (.inr ⟨hc, t, h, ht⟩)))

/-! ## Commands without their cause -/

theorem endWith_idle {s : State} (h : s.bus.current = none) (free : State → State) (isIt : Current → Bool)
    (result : Current → State → State) : endWith free isIt result s = s := by
  simp only [endWith, h]

end Sys2Proof.Machine

namespace Sys2Proof.Proofs

open Sys2Proof.Machine

/-- Settles O2: the timers as one list, and each command's own guard. -/
theorem commandsWithoutTheirCausePass : Obligations.CommandsWithoutTheirCausePass := by
  refine ⟨fun s hp => ?idle, fun s word data flag k i x => ⟨fun h => ?bus, fun h => ?store, fun h => ?fast,
    fun h => ?periodic, fun h => ?job, fun h => ?window, fun h => ?interlock⟩, fun s due hdue => ?timers⟩
  case idle =>
    have hstep : step s = .next (idle s) := by rw [step, hp]
    exact ⟨fun c hc => by rw [hstep, idle, hc], fun hc => by rw [hstep, idle, hc]⟩
  case bus =>
    have ends (free : State → State) (isIt : Current → Bool) (result : Current → State → State) :
        (Host.Outcome.next (endWith free isIt result s) : Result) = .next s := congrArg _ (endWith_idle h _ _ _)
    have timeout : exec .busTransactionTimeout s = .next s := by simp only [exec, execBusTransactionTimeout, h]
    exact ⟨ends _ _ _, ends _ _ _, ends _ _ _, ends _ _ _, ends _ _ _, ends _ _ _, ends _ _ _, timeout, ends _ _ _,
      ends _ _ _, ends _ _ _, ends _ _ _, ends _ _ _⟩
  case store =>
    exact ⟨by simp only [exec, execEepromPollInterval, pollMoment, h],
      by simp only [exec, execEepromPollTimeout, pollExpired, h]⟩
  case fast => simp only [exec, execFastScanTimer, h]
  case periodic => simp only [exec, execPeriodicScanTimer, h]
  case job => simp only [exec, execTransitLimitExpiry, transitExpired, h]
  case window => simp only [exec, execVerifyWindowExpiry, verifyExpired, h]
  case interlock =>
    rcases h with h | h
    · refine ⟨?_, ?_, ?_⟩
      · simp only [exec, execInterlockFirstSample, firstSample, h, Bool.false_and, Bool.false_eq_true, if_false]
        split <;> rfl
      · simp only [exec, execInterlockPinLevelChange, pinChanged, h, Bool.false_and, Bool.false_eq_true, if_false]
      · simp only [exec, execInterlockLevelAccepted, acceptLevel, h, Bool.false_and, Bool.false_eq_true, if_false]
        split <;> rfl
    · refine ⟨?_, ?_, ?_⟩
      · simp only [exec, execInterlockFirstSample, firstSample, h]
      · simp only [exec, execInterlockPinLevelChange, pinChanged, h, Option.isSome_none, Bool.and_false, Bool.false_and,
          Bool.false_eq_true, if_false]
      · simp only [exec, execInterlockLevelAccepted, acceptLevel, h]
  case timers =>
    have raised (c : Instr) : due c ↔ some c ∈ timers s := by
      rw [hdue]
      simp only [timers, List.mem_cons, List.mem_append, List.mem_map, List.mem_flatMap, List.mem_finRange, true_and,
        List.not_mem_nil, or_false]
      refine or_congr ?_ <| or_congr ?_ <| or_congr ?_ <| or_congr ?_ <| or_congr ?_ <| or_congr ?_ <| or_congr ?_ <|
        or_congr ?_ <| or_congr ?_ ?_
      · rw [some_eq_whenDue]; simp [busLimit]
      · rw [some_eq_whenDue]
      · rw [some_eq_whenDue]; simp [dividerDue_eq_some]
      · constructor
        · rintro ⟨x, h⟩
          exact ⟨x, by cases x <;> simp, some_mem_serviceTimers.2 h⟩
        · rintro ⟨x, _, h⟩
          exact ⟨x, some_mem_serviceTimers.1 h⟩
      · simp only [eq_comm (b := some c), some_eq_whenDue, transitDue_eq_some]
        constructor
        · rintro ⟨i, j, m, t, hc, hj, hm, ht, hn⟩; exact ⟨i, hc, t, ⟨j, m, hj, hm, ht⟩, hn⟩
        · rintro ⟨i, hc, t, ⟨j, m, hj, hm, ht⟩, hn⟩; exact ⟨i, j, m, t, hc, hj, hm, ht, hn⟩
      · simp only [eq_comm (b := some c), some_eq_whenDue, confirmDue_eq_some]
        constructor
        · rintro ⟨e, t, hc, ht, hn⟩; exact ⟨e, hc, t, ht, hn⟩
        · rintro ⟨e, hc, t, ht, hn⟩; exact ⟨e, t, hc, ht, hn⟩
      · simp only [some_eq_whenDue, Option.map_eq_some_iff, pollDue_eq_some]
        constructor
        · rintro ⟨page, image, written, next, hst, ⟨hc, hn⟩ | ⟨hc, hn⟩⟩
          · exact .inl ⟨hc, _, ⟨_, ⟨page, image, written, next, hst, rfl⟩, rfl⟩, hn⟩
          · exact .inr ⟨hc, _, ⟨_, ⟨page, image, written, next, hst, rfl⟩, rfl⟩, hn⟩
        · rintro (⟨hc, _, ⟨_, ⟨page, image, written, next, hst, rfl⟩, rfl⟩, hn⟩ |
            ⟨hc, _, ⟨_, ⟨page, image, written, next, hst, rfl⟩, rfl⟩, hn⟩)
          · exact ⟨page, image, written, next, hst, .inl ⟨hc, hn⟩⟩
          · exact ⟨page, image, written, next, hst, .inr ⟨hc, hn⟩⟩
      · simp only [eq_comm (b := some c), some_eq_interlockDue]
      · rw [some_eq_whenDue]
      · rw [some_eq_whenDue]
        simp only [fastDue_eq_some]
        constructor
        · rintro ⟨hc, hon, harm, hw, t, hl, ht⟩; exact ⟨hc, t + 4, ⟨hon, harm, hw, t, hl, rfl⟩, ht⟩
        · rintro ⟨hc, _, ⟨hon, harm, hw, t, hl, rfl⟩, ht⟩; exact ⟨hc, hon, harm, hw, t, hl, ht⟩
    rw [dueCommand_eq]
    refine ⟨fun c hc => (raised c).2 ?_, fun hnone c hc => ?_⟩
    · obtain ⟨o, ho, rfl⟩ := List.exists_of_findSome?_eq_some hc
      exact ho
    · exact absurd (List.findSome?_eq_none_iff.1 hnone _ ((raised c).1 hc)) (by simp)

end Sys2Proof.Proofs
end

section
/-! PROOFS. The reads (O7 to O9): their items byte by byte, their lengths, and what is answered. -/

namespace Sys2Proof.Machine

/-! ## Items by kind -/

@[simp] theorem length_u8 (n : Nat) : (u8 n).length = 1 := rfl
@[simp] theorem length_u16 (n : Nat) : (u16 n).length = 2 := rfl
@[simp] theorem length_i16 (z : Int) : (i16 z).length = 2 := rfl
@[simp] theorem length_flag8 (b : Bool) : (flag8 b).length = 1 := rfl
@[simp] theorem length_opt8 (o : Option Nat) : (opt8 o).length = 1 := rfl
@[simp] theorem length_opt16 (o : Option Nat) : (opt16 o).length = 2 := rfl
@[simp] theorem length_optI16 (o : Option Int) : (optI16 o).length = 2 := rfl
@[simp] theorem length_svcItem (x : Svc) : (svcItem x).length = 1 := rfl
@[simp] theorem length_slotItem (k : Option (Fin 4)) : (slotItem k).length = 1 := rfl
@[simp] theorem length_posItem (p : Option Pos) : (posItem p).length = 1 := rfl
@[simp] theorem length_levelItem (b : Bool) : (levelItem b).length = 1 := rfl
@[simp] theorem length_halfBytes (h : Half) : (halfBytes h).length = 2 := rfl
@[simp] theorem length_lineItem (l : Line) : (lineItem l).length = 2 := rfl

/-- Members of one length each. -/
theorem length_flatMap_of {α β : Type} {f : α → List β} {n : Nat} (h : ∀ a, (f a).length = n) (l : List α) :
    (l.flatMap f).length = l.length * n := by
  simp [List.length_flatMap, h]

/-- Members of at most one length each. -/
theorem length_flatMap_le {α β : Type} {f : α → List β} {n : Nat} {l : List α} (h : ∀ a ∈ l, (f a).length ≤ n) :
    (l.flatMap f).length ≤ l.length * n := by
  rw [List.length_flatMap]
  simpa using List.sum_le_card_nsmul (l.map fun a => (f a).length) n (by simpa using h)

theorem length_listItem_of {α : Type} {f : α → List Byte} {n : Nat} (h : ∀ a, (f a).length = n) (l : List α) :
    (listItem f l).length = 1 + l.length * n := by
  simp [listItem, length_flatMap_of h, Nat.add_comm]

theorem halfBytes_ofNat (n : Nat) : halfBytes (BitVec.ofNat 16 n) = [BitVec.ofNat 8 (n / 256), BitVec.ofNat 8 n] := by
  have hi : hiByte (BitVec.ofNat 16 n) = BitVec.ofNat 8 (n / 256) := by
    apply BitVec.eq_of_toNat_eq
    simp only [hiByte, BitVec.extractLsb'_toNat, BitVec.toNat_ofNat, Nat.shiftRight_eq_div_pow]
    omega
  have lo : loByte (BitVec.ofNat 16 n) = BitVec.ofNat 8 n := by
    apply BitVec.eq_of_toNat_eq
    simp only [loByte, BitVec.extractLsb'_toNat, BitVec.toNat_ofNat, Nat.shiftRight_zero]
    omega
  rw [halfBytes, hi, lo]

theorem u16_eq (n : Nat) : u16 n = [BitVec.ofNat 8 (n / 256), BitVec.ofNat 8 n] := halfBytes_ofNat n

theorem i16_eq (z : Int) : i16 z = u16 (z % 65536).toNat := by
  have h : BitVec.ofInt 16 z = BitVec.ofNat 16 (z % 65536).toNat := by
    apply BitVec.eq_of_toNat_eq
    simp only [BitVec.toNat_ofInt, BitVec.toNat_ofNat]
    omega
  rw [i16, u16, h]

theorem u16_toNat (h : Half) : u16 h.toNat = halfBytes h := by rw [u16, BitVec.ofNat_toNat, BitVec.setWidth_eq]

/-! ## Lengths of the payloads -/

theorem length_statusService (s : State) (x : Svc) : (statusService s x).length = 3 := by
  unfold statusService
  split <;> rfl

theorem length_settleList (j : Job) :
    (settleList j).length = (j.settle.get .a).isSome.toNat + (j.settle.get .b).isSome.toNat := by
  rcases ha : j.settle.get .a with _ | _ <;> rcases hb : j.settle.get .b with _ | _ <;> simp [settleList, ha, hb]

theorem length_changingItem (c : Changing) : (changingItem c).length = 5 := rfl

theorem length_moveItem (m : Move) : (moveItem m).length = 5 := rfl

theorem length_jobItem {o : Option Job} (h : ∀ j, o = some j → j.changing.length ≤ 2 ∧ j.moves.length ≤ 32) :
    (jobItem o).length ≤ 182 := by
  cases o with
  | none => simp [jobItem]
  | some j =>
    obtain ⟨hc, hm⟩ := h j rfl
    have hs : (settleList j).length ≤ 2 := by
      rw [length_settleList]
      have := (j.settle.get .a).isSome.toNat_le
      have := (j.settle.get .b).isSome.toNat_le
      omega
    have item (e : Svc × Settle) : (svcItem e.1 ++ u8 (settleCode e.2)).length = 2 := rfl
    simp only [jobItem, List.length_append, length_u8, length_opt8, length_listItem_of length_changingItem,
      length_listItem_of length_moveItem, length_listItem_of item]
    omega

theorem length_statusPayload {s : State} (port : PortId)
    (h : ∀ j, s.job = some j → j.changing.length ≤ 2 ∧ j.moves.length ≤ 32) : (statusPayload port s).length ≤ 227 := by
  have hj := length_jobItem h
  have route (p : PortSet) : (u8 (portSetCode p)).length = 1 := rfl
  simp only [statusPayload, List.length_append, length_u8, length_flag8, length_statusService, length_flatMap_of route,
    Vector.length_toList]
  omega

theorem length_servicePayload (x : Svc) (s : State) : (servicePayload x s).length = 23 := by
  have request : (requestItem (s.svc x).request).length = 4 := by
    cases (s.svc x).request <;> rfl
  simp only [servicePayload, List.length_append, length_u8, length_slotItem, length_flag8, length_opt8, length_u16,
    length_levelItem, length_opt16, request, List.length_cons, List.length_nil, Nat.reduceAdd]

theorem length_towerItem (s : State) (x : Svc) (i : Fin 12) : (towerItem s x i).length = 17 := by
  simp only [towerItem]
  split <;> rfl

theorem length_tablePayload (x : Svc) (s : State) : (tablePayload x s).length = 211 := by
  simp only [tablePayload, List.length_append, length_slotItem, length_u16, length_u8, length_flag8,
    length_flatMap_of (length_towerItem s x), List.length_finRange]

theorem length_rawPayload {x : Svc} {s : State} (h : ∀ f, (s.receivers.get x).lastGood = some f → f.length ≤ 12) :
    (rawPayload x s).length ≤ 54 := by
  have entry (e : MonitorEntry) : (u16 e.magnitude ++ i16 e.phase).length = 4 := rfl
  have frame : (frameItem (s.receiver x).lastGood).length ≤ 49 := by
    cases hg : (s.receiver x).lastGood with
    | none => simp [frameItem]
    | some f =>
      have hf : f.length ≤ 12 := h f hg
      simp only [frameItem, length_listItem_of entry]
      omega
  simp only [rawPayload, List.length_append, length_u8, length_flag8, length_halfBytes]
  omega

theorem length_pointItem (s : State) (i : Fin 32) : (pointItem s i).length = 15 := by
  unfold pointItem
  split <;> rfl

/-- The points one READ_POINTS carries: sixteen from the first, or those that are left. -/
theorem pointsCarried (first : Fin 32) :
    ((List.finRange 32).filter fun i => decide (first ≤ i ∧ i.val ≤ min 31 (first.val + 16 - 1))) =
      ((List.finRange 32).drop first.val).take 16 := by
  revert first
  decide

theorem pointsPayload_eq (first : Fin 32) (s : State) :
    pointsPayload first s =
      ((List.finRange 8).flatMap fun e => u8 (healthCode (s.exp e).health)) ++ levelItem (!s.expAttn) ++
        u8 (min 31 (first.val + 15)) ++ (((List.finRange 32).drop first.val).take 16).flatMap (pointItem s) := by
  rw [← pointsCarried]
  rfl

theorem length_pointsPayload (i : Fin 32) (s : State) : (pointsPayload i s).length ≤ 250 := by
  have health (e : Fin 8) : (u8 (healthCode (s.exp e).health)).length = 1 := rfl
  simp only [pointsPayload_eq, List.length_append, length_flatMap_of health, length_flatMap_of (length_pointItem s),
    length_levelItem, length_u8, List.length_finRange, List.length_take, List.length_drop]
  omega

theorem length_interlockItem (s : State) (k : Fin 4) : (interlockItem s k).length = 8 := by
  simp only [interlockItem]
  split <;> rfl

theorem length_recordBytes (r : EventRecord) : (recordBytes r).length = 13 := rfl

theorem length_eventsPayload (p : Port) : (eventsPayload p).length ≤ 107 := by
  simp only [eventsPayload, eventsPerRead, List.length_append, length_u8, length_flag8,
    length_flatMap_of length_recordBytes, List.length_take]
  omega

theorem length_towerPayload (t : Option TowerEntry) : (towerPayload t).length = 11 := by cases t <;> rfl

theorem length_mapPairs (p : Pattern) : (mapPairs p).length ≤ 32 :=
  (List.length_filterMap_le _ _).trans (by simp)

theorem length_patternPayload (s : State) (p : Pattern) : (patternPayload s p).length ≤ 214 := by
  have pair (q : Fin 32 × Pos) : (u8 q.1.val ++ u8 (posCode q.2)).length = 2 := rfl
  have hm := length_mapPairs p
  simp only [patternPayload, List.length_append, length_u16, length_u8, length_flatMap_of length_towerPayload,
    length_listItem_of pair, length_flag8, length_opt8, Vector.length_toList]
  omega

theorem length_slotPayload (x : Svc) (k : Fin 4) (s : State) : (slotPayload x k s).length ≤ 219 := by
  have usage : (usageFlags s x k).length = 4 := rfl
  unfold slotPayload
  split
  · next p _ =>
    have := length_patternPayload s p
    simp only [List.length_append, length_flag8, usage]
    omega
  · simp [usage]

theorem length_rowItem (row : List RowEntry) : (rowItem row).length = 1 + row.length * 3 :=
  length_listItem_of (fun e => by rfl) row

theorem length_schedulePayload {x : Svc} {s : State} (h : ∀ m : Fin 12, (s.cfg.rows.get x)[m].length ≤ 4) :
    (schedulePayload x s).length ≤ 159 := by
  have rows : ∀ row ∈ (s.cfg.rows.get x).toList, (rowItem row).length ≤ 13 := by
    intro row hr
    obtain ⟨m, hm, rfl⟩ := Vector.getElem_of_mem (Vector.mem_toList_iff.1 hr)
    have : (s.cfg.rows.get x)[m].length ≤ 4 := h ⟨m, hm⟩
    rw [length_rowItem]
    omega
  have hrows := length_flatMap_le rows
  have scheduled : (scheduledItem s x).length = 2 := by
    unfold scheduledItem
    split
    · split <;> rfl
    · rfl
  simp only [schedulePayload, List.length_append, length_u8, scheduled, Vector.length_toList] at hrows ⊢
  omega

/-! ## What the payloads hold -/

theorem levelItem_eq (b : Bool) : levelItem b = flag8 b := rfl

theorem statusService_eq (s : State) (x : Svc) :
    statusService s x = if x = .a ∨ s.twoServices = true then
      u8 (svcStateCode (s.svc x).state) ++ flag8 (s.svc x).permit ++ flag8 (s.svc x).cut else [0xFF, 0xFF, 0xFF] := by
  unfold statusService
  congr 1
  simp [present]

theorem settleItems_eq (j : Job) :
    (settleList j).flatMap (fun e => svcItem e.1 ++ u8 (settleCode e.2)) =
      [Svc.a, .b].flatMap fun x => match j.settle.get x with
        | some st => u8 (svcCode x) ++ u8 (settleCode st)
        | none => [] := by
  rcases ha : j.settle.get .a with _ | _ <;> rcases hb : j.settle.get .b with _ | _ <;>
    simp [settleList, ha, hb, svcItem]

/-- The parameters of a tower's row are carried where the table slot's pattern has an entry beside its reference
tower. -/
theorem isSome_rowEntry (s : State) (x : Svc) (i : Fin 12) :
    (rowEntry s x i).isSome = true ↔ ∃ k p t, (s.table x).slot = some k ∧ (s.cfg.patterns.get x)[k] = some p ∧
      i ≠ p.refTower ∧ p.towers[i] = some t := by
  unfold rowEntry
  cases hk : (s.table x).slot with
  | none => simp
  | some k =>
    cases hp : (s.cfg.patterns.get x)[k] with
    | none => simp [State.pattern, hp, -Fin.getElem_fin]
    | some p =>
      by_cases hr : i = p.refTower <;> cases ht : p.towers[i] <;>
        simp [State.pattern, carries, hp, hr, ht, -Fin.getElem_fin]

theorem mem_mapPairs (p : Pattern) (i : Fin 32) (pos : Pos) : (i, pos) ∈ mapPairs p ↔ p.map[i] = some pos := by
  simp [mapPairs]

theorem pairwise_mapPairs (p : Pattern) : (mapPairs p).Pairwise fun a b => a.1 < b.1 := by
  have ascending : (List.finRange 32).Pairwise (· < ·) := List.pairwise_lt_finRange 32
  refine List.Pairwise.filterMap _ ?_ ascending
  rintro i j hij ⟨_, _⟩ hi ⟨_, _⟩ hj
  obtain ⟨_, _, ⟨⟩⟩ := Option.map_eq_some_iff.1 hi
  obtain ⟨_, _, ⟨⟩⟩ := Option.map_eq_some_iff.1 hj
  exact hij

theorem firstAbsent_eq_none {s : State} {p : Pattern} :
    firstAbsent s p = none ↔ ∀ i : Fin 32, ¬(p.map[i] ≠ none ∧ s.cfg.points[i] = none) := by
  simp [firstAbsent, List.find?_eq_none, State.pointRec, Option.isSome_iff_ne_none]

theorem firstAbsent_eq_some {s : State} {p : Pattern} {i : Fin 32} (hi : p.map[i] ≠ none ∧ s.cfg.points[i] = none)
    (hlow : ∀ n : Fin 32, n < i → ¬(p.map[n] ≠ none ∧ s.cfg.points[n] = none)) : firstAbsent s p = some i := by
  have absent_iff (n : Fin 32) : (p.map[n].isSome && (s.pointRec n).isNone) = true ↔
      p.map[n] ≠ none ∧ s.cfg.points[n] = none := by
    simp [State.pointRec, Option.isSome_iff_ne_none]
  unfold firstAbsent
  cases hf : (List.finRange 32).find? (fun i => p.map[i].isSome && (s.pointRec i).isNone) with
  | none => exact absurd ((absent_iff i).2 hi) (List.find?_eq_none.1 hf i (List.mem_finRange i))
  | some n =>
    obtain ⟨hn, l1, l2, hl, hbefore⟩ := List.find?_eq_some_iff_append.1 hf
    have hni : ¬ n < i := fun h => hlow n h ((absent_iff n).1 hn)
    have hin : ¬ i < n := fun h => by
      have hmem : i ∈ l1 := by
        have sorted : (l1 ++ n :: l2).Pairwise (· < ·) := hl ▸ List.pairwise_lt_finRange 32
        have : i ∈ l1 ++ n :: l2 := hl ▸ List.mem_finRange i
        rcases List.mem_append.1 this with h1 | h1
        · exact h1
        · rcases List.mem_cons.1 h1 with rfl | h2
          · exact absurd h (lt_irrefl _)
          · have := List.rel_of_pairwise_cons (List.pairwise_append.1 sorted).2.1 h2
            exact absurd (h.trans this) (lt_irrefl _)
      have := hbefore i hmem
      rw [(absent_iff i).2 hi] at this
      cases this
    rw [le_antisymm (not_lt.1 hin) (not_lt.1 hni)]

end Sys2Proof.Machine

namespace Sys2Proof.Proofs

open Sys2Proof.Machine

/-- Settles O8: the two reads that change what they report, and the items of READ_SERVICE. -/
theorem readsThatClearWhatTheyReport : Obligations.ReadsThatClearWhatTheyReport := by
  refine ⟨fun port tag svc x s h => ?_, fun x s pattern hp => ?_, fun port tag s h => ?_⟩
  · show Host.Outcome.next (request port tag 4 (answerReadService svc) s) = _
    rw [request_of_loadEnded h.ended, answerReadService, forAnyService_of_reads h]
    rfl
  · have inForce : inForcePattern s x = pattern := by
      rw [hp, inForcePattern]
      cases (s.svc x).inForce <;> rfl
    have part : jobPart s x = (match s.job with
        | some j => if ∃ c ∈ j.changing, c.svc = x then .changing else if j.collateral = some x then .collateral else .none
        | none => .none) := by
      unfold jobPart
      cases s.job with
      | none => rfl
      | some j => simp [isChanging]
    rw [servicePayload, inForce, part]
    cases (s.svc x).request <;> rfl
  · show Host.Outcome.next (request port tag 3 (answerReadEvents port) s) = _
    rw [request_of_loadEnded h]
    have hport : (windowShut port 3 s).ports.get port = { s.ports.get port with
        window := none
        shifted := ((s.ports.get port).response.getD [1] ++ List.replicate 3 0xFF).take 3 } :=
      PerPort.get_set_same _ _ _
    have payload : eventsPayload ((windowShut port 3 s).ports.get port) =
        [BitVec.ofNat 8 (min 8 (s.ports.get port).queue.length), BitVec.ofNat 8 ((s.ports.get port).queue.length - 8),
          if (s.ports.get port).overflow then 1 else 0] ++ ((s.ports.get port).queue.take 8).flatMap recordBytes := by
      rw [hport]
      cases hov : (s.ports.get port).overflow <;> simp [eventsPayload, eventsPerRead, u8, flag8, hov]
    rw [answerReadEvents, payload]
    rfl

/-- Settles O7: each read answered with its payload, and the payloads item by item. -/
theorem readsAnswerAndChangeNothing : Obligations.ReadsAnswerAndChangeNothing := by
  refine ⟨fun port tag svc x s => ⟨fun h => ?answers, fun h => ?service⟩, fun port tag s h => ?clock, ?items,
    fun port s => ?status, fun s => ⟨fun first => ?points, ?interlocks⟩, fun x s => ⟨fun carries hc => ?table, ?raw⟩,
    fun x s => ⟨fun k usage hu => ?pattern, ?schedule⟩, fun port tag svc b s h => ?refused⟩
  case answers =>
    refine ⟨congrArg _ (request_reading h port tag _ _ _ ?_), congrArg _ (request_reading h port tag _ _ _ rfl),
      fun i => congrArg _ (request_reading h port tag _ _ _ ?_)⟩
    · show reading _ _ = reading _ _
      rw [show statusPayload port (windowShut port _ s) = statusPayload port s by
        simp only [statusPayload]
        rw [show (windowShut port _ s).ports.get port = _ from PerPort.get_set_same _ _ _]
        rfl]
    · rw [indexOf_ofNat i (by decide)]
      rfl
  case service =>
    have body (n : Nat) (f : Svc → Answer) : forAnyService svc (windowShut port n s) f = f x := forAnyService_of_reads h port n f
    refine ⟨congrArg _ (request_reading h.ended port tag _ _ _ ?_), congrArg _ (request_reading h.ended port tag _ _ _ ?_),
      congrArg _ (request_reading h.ended port tag _ _ _ ?_), fun k => congrArg _ (request_reading h.ended port tag _ _ _ ?_)⟩
    · exact (body _ _).trans rfl
    · exact (body _ _).trans rfl
    · exact (body _ _).trans rfl
    · refine (body _ _).trans ?_
      rw [indexOf_ofNat k (by decide)]
      rfl
  case clock =>
    refine congrArg _ ((request_reading h port tag _ _ (clockPayload s) rfl).trans ?_)
    have payload : okFrame tag (clockPayload s) =
        [14, 0, tag, BitVec.ofNat 8 (s.clock.time.year / 256), BitVec.ofNat 8 s.clock.time.year,
          BitVec.ofNat 8 s.clock.time.month, BitVec.ofNat 8 s.clock.time.day, BitVec.ofNat 8 s.clock.time.hour,
          BitVec.ofNat 8 s.clock.time.minute, BitVec.ofNat 8 s.clock.time.second,
          if s.clock.isSet then 1 else 0, if s.cfg.timebase = .tickIn then 1 else 0,
          if s.clock.active = .tickIn then 1 else 0,
          if s.clock.time = ⟨2099, 12, 31, 23, 59, 59⟩ then 1 else 0] := by
      have flag (c : Bool) : flag8 c = [if c then 1 else 0] := by cases c <;> rfl
      have base (tb : Timebase) : u8 (timebaseCode tb) = [if tb = .tickIn then 1 else 0] := by cases tb <;> rfl
      simp only [clockPayload, dateItem, flag, base, u16_eq, atRangeEnd, beq_iff_eq]
      rfl
    rw [payload]
    rfl
  case items =>
    refine ⟨fun n z => ⟨rfl, u16_eq n, i16_eq z, rfl, rfl, rfl, rfl, rfl, rfl, rfl, rfl⟩, rfl, rfl, rfl,
      fun v d t f => rfl, rfl, rfl, fun due => rfl, rfl, rfl, rfl, rfl, rfl, rfl, rfl, rfl, rfl, rfl, rfl, rfl,
      fun a b site => rfl⟩
  case status =>
    have saving : saveInFlight s = (match s.store with
        | .saving .. => true
        | .idle | .loading .. => false) := by
      unfold saveInFlight
      cases s.store <;> rfl
    rw [statusPayload, statusService_eq, statusService_eq, saving]
    cases hj : s.job with
    | none =>
      simp only [List.flatMap_cons, List.flatMap_nil, List.append_nil, List.append_assoc]
      rfl
    | some j =>
      simp only [jobItem, listItem, settleItems_eq, length_settleList, List.flatMap_cons, List.flatMap_nil, List.append_nil,
        List.append_assoc]
      rcases j.phase with _ | _ | ⟨_ | _⟩ | _ <;> rfl
  case points =>
    rw [pointsPayload_eq]
    have level : levelItem (!s.expAttn) = u8 (if s.expAttn = true then 0 else 1) := by cases s.expAttn <;> rfl
    rw [level]
    rfl
  case interlocks =>
    rfl
  case table =>
    refine ⟨towerItem s x, fun i r hr => ⟨fun hi => ?_, fun hi => ?_⟩, rfl⟩
    · rw [hc, ← isSome_rowEntry] at hi
      simp only [towerItem, hi, if_true, ← hr]
      simp only [List.append_assoc]
      rfl
    · rw [hc, ← isSome_rowEntry] at hi
      simp only [towerItem, hi, ← hr]
      rfl
  case raw =>
    rw [rawPayload, ← u16_toNat]
    cases (s.receiver x).lastGood <;> rfl
  case pattern =>
    have husage : usageFlags s x k = usage := by
      have target : isJobTarget s x k = (match s.job with
          | some j => match j.changing.find? fun c => c.svc == x with
            | some c => decide (c.target = k)
            | none => false
          | none => false) := by
        unfold isJobTarget changingOf
        cases s.job <;> rfl
      have same (o : Option (Fin 4)) : (o == some k) = decide (o = some k) := Bool.eq_iff_iff.2 (by simp)
      rw [hu, usageFlags, target, same, same, isPendingTarget]
      cases (s.svc x).request <;> rfl
    refine ⟨fun hp => ?_, fun p absent hp habs => ?_⟩
    · rw [slotPayload, State.pattern, hp, husage]
      rfl
    · refine ⟨mapPairs p, flag8 (patternValid s p) ++ opt8 ((firstAbsent s p).map Fin.val), mem_mapPairs p,
        pairwise_mapPairs p, fun hnone => ?_, fun i hi hlow => ?_, ?_⟩
      · rw [patternValid, firstAbsent_eq_none.2 fun i => (habs i).not.1 (hnone i)]
        rfl
      · rw [patternValid, firstAbsent_eq_some ((habs i).1 hi) fun n hn => (habs n).not.1 (hlow n hn)]
        rfl
      · rw [slotPayload, State.pattern, hp, husage]
        have towers : towerPayload = fun entry => match entry with
            | some t => [1] ++ u16 t.ratio ++ i16 t.phase ++ u16 t.ratioTol ++ u16 t.phaseTol ++
                u8 (enforcementCode t.ratioEnf) ++ u8 (enforcementCode t.phaseEnf)
            | none => [0] ++ [0, 0, 0, 0, 0, 0, 0, 0] ++ [0xFF, 0xFF] := by
          funext t
          cases t <;> rfl
        simp only [patternPayload, listItem, towers, List.append_assoc]
        rfl
  case schedule => rfl
  case refused =>
    have refusal {n : Nat} {body : State → Answer} {st : Status}
        (hb : body (windowShut port n s) = refuse st (windowShut port n s)) :
        (Host.Outcome.next (request port tag n body s) : Result) =
          .next (answered port n (shortFrame (statusCode st) tag) id s) :=
      congrArg _ (request_refused h port tag n body st hb)
    have none_of {m : Nat} (hm : m ≤ b.toNat) : indexOf m b = none := indexOf_eq_none.2 hm
    refine ⟨fun hn => ?_, fun hb => refusal (st := .badField) ?_, fun x hx => ⟨fun hb => refusal (st := .badField) ?_,
      fun hb => refusal (st := .badField) ?_⟩⟩
    · have absent (n : Nat) : namedService (windowShut port n s) svc = none := namedService_eq_none (by exact hn)
      exact ⟨refusal (st := .noService) (forAnyService_noService (absent _) _), refusal (st := .noService) (forAnyService_noService (absent _) _),
        refusal (st := .noService) (forAnyService_noService (absent _) _), refusal (st := .noService) (forAnyService_noService (absent _) _),
        refusal (st := .noService) (forAnyService_noService (absent _) _)⟩
    · rw [none_of hb]; rfl
    · rw [forAnyService_of_reads hx, none_of hb]; rfl
    · rw [forAnyService_of_reads hx, if_neg]
      rintro rfl
      exact absurd hb (by decide)

/-- Settles O9: the length of each payload. -/
theorem readResponsesFit : Obligations.ReadResponsesFit := by
  intro s port x k i hjob hrows hframe
  refine ⟨(length_statusPayload port hjob).trans (by decide), ?_, length_tablePayload x s,
    (length_rawPayload hframe).trans (by decide), length_pointsPayload i s, ?_,
    (length_eventsPayload _).trans (by decide), ?_, (length_slotPayload x k s).trans (by decide),
    (length_schedulePayload hrows).trans (by decide)⟩
  · rw [length_servicePayload]; decide
  · rw [interlocksPayload, length_flatMap_of (length_interlockItem s), List.length_finRange]; decide
  · show 11 ≤ 252; decide

end Sys2Proof.Proofs
end

section
/-! PROOFS. The requests on services and interlocks (O10 to O13), and the rollback an abort starts. -/

namespace Sys2Proof.Machine

/-! ## A request for a service that reaches its own body -/

section
variable {s : State} {port : PortId} {svc tag : Byte} {x : Svc} {n : Nat} {body : State → Svc → Answer}

theorem own_refused (h : Takes s port svc x) (st : Status)
    (hb : body (windowShut port n s) x = refuse st (windowShut port n s)) :
    request port tag n (fun t => forOwnService port svc t (body t)) s =
      answered port n (shortFrame (statusCode st) tag) id s :=
  request_refused h.ended port tag n _ st ((forOwnService_of_takes h port n _).trans hb)

theorem own_taken (h : Takes s port svc x) (st : Status) {effect : State → State}
    (hb : body (windowShut port n s) x = taken st (effect (windowShut port n s))) :
    request port tag n (fun t => forOwnService port svc t (body t)) s =
      answered port n (shortFrame (statusCode st) tag) effect s :=
  request_taken h.ended port tag n _ st effect ((forOwnService_of_takes h port n _).trans hb)

end

theorem ofNat_val_of_lt {n : Nat} {b : Byte} (h : b.toNat < n) : b = BitVec.ofNat 8 (⟨b.toNat, h⟩ : Fin n).val := by
  simp

/-! ## Requests stored and withdrawn -/

theorem storeRequest_of_none {x : Svc} {s : State} (r : Request) (h : (s.svc x).request = none) :
    storeRequest x r s =
      post (.requestQueued x r.target r.source)
        { s with svcs := s.svcs.set x { s.svcs.get x with request := some r }, arrival := s.arrival ++ [x] } := by
  simp only [storeRequest, h]
  rfl

theorem storeRequest_of_some {x : Svc} {s : State} {o : Request} (r : Request) (h : (s.svc x).request = some o) :
    storeRequest x r s =
      post (.requestQueued x r.target r.source)
        { post (.requestSuperseded x o.target o.source) s with
          svcs := s.svcs.set x { s.svcs.get x with request := some r }
          arrival := (s.arrival.filter (· != x)) ++ [x] } := by
  unfold storeRequest
  rw [h]
  simp only [removeRequest, State.setSvc, State.svc, post_svcs, post_arrival, Per.get_set_same, Per.set_set]

theorem removeRequest_eq (x : Svc) (s : State) :
    removeRequest x s =
      { s with svcs := s.svcs.set x { s.svcs.get x with request := none }, arrival := s.arrival.filter (· != x) } := rfl

theorem inForceOnAir_iff (s : State) (x : Svc) (k : Fin 4) :
    inForceOnAir s x k = true ↔
      (s.svc x).inForce = some k ∧ ((s.svc x).state = .verifying ∨ (s.svc x).state = .onAir) := by
  simp [inForceOnAir, onOrNearAir_iff]

/-! ## A derivation -/

/-- What is derived for a service is the slot due under R161. -/
theorem derived_eq {s : State} {x : Svc} {due : Option (Fin 4)}
    (h : ∀ k, due = some k ↔
      present s x = true ∧ (s.svc x).mode = .auto ∧ s.clock.isSet = true ∧ s.phase = .running ∧
        (∃ m, scheduledPattern s x = some (k, m)) ∧
        ((s.svc x).state = .undetermined ∨ (s.svc x).inForce ≠ some k)) :
    derived s x = due.map fun k => (k, .derived) := by
  have runs : scheduleRuns s x = true ↔
      present s x = true ∧ (s.svc x).mode = .auto ∧ s.clock.isSet = true ∧ s.phase = .running := by
    simp [scheduleRuns, and_assoc]
  have due_none (hn : ∀ k, due ≠ some k) : due = none := Option.eq_none_iff_forall_ne_some.2 hn
  unfold derived
  split
  · next hr =>
    obtain ⟨hp, hm, hs, hph⟩ := runs.1 hr
    split
    · next k m hk =>
      split
      · next hst => rw [(h k).2 ⟨hp, hm, hs, hph, ⟨m, hk⟩, hst⟩]; rfl
      · next hst =>
        rw [due_none fun k' hk' => ?_]; rfl
        obtain ⟨_, _, _, _, ⟨m', hk''⟩, hst'⟩ := (h k').1 hk'
        rw [hk] at hk''
        cases hk''
        exact hst hst'
    · next hk =>
      rw [due_none fun k' hk' => ?_]; rfl
      obtain ⟨_, _, _, _, ⟨m', hk''⟩, _⟩ := (h k').1 hk'
      rw [hk] at hk''
      cases hk''
  · next hr =>
    rw [due_none fun k' hk' => ?_]; rfl
    obtain ⟨hp, hm, hs, hph, _⟩ := (h k').1 hk'
    exact hr (runs.2 ⟨hp, hm, hs, hph⟩)

theorem answerAbortChange_of_some {s t : State} {x : Svc} {j : Job} (hj : s.job = some j) (hx : isChanging j x = true)
    (h : abortJob j s = some t) : answerAbortChange s x = takenThen .ok t := by
  simp only [answerAbortChange, hj, hx, if_true, h]

theorem answerAbortChange_of_none {s : State} {x : Svc} {j : Job} (hj : s.job = some j) (hx : isChanging j x = true)
    (h : abortJob j s = none) : answerAbortChange s x = refuse .notAbortable s := by
  simp only [answerAbortChange, hj, hx, if_true, h]

/-! ## The first and the last of a range -/

theorem find_finRange {n : Nat} {p : Fin n → Bool} {i : Fin n} :
    (List.finRange n).find? p = some i ↔ p i = true ∧ ∀ j < i, p j = false := by
  rw [List.find?_eq_some_iff_getElem]
  constructor
  · rintro ⟨hp, k, hk, rfl, hb⟩
    refine ⟨hp, fun j hj => ?_⟩
    have hjk : j.val < k := by simpa using Fin.lt_def.1 hj
    simpa using hb j.val hjk
  · rintro ⟨hp, hb⟩
    refine ⟨hp, i.val, by simp, by simp, fun j hj => ?_⟩
    have := hb ⟨j, hj.trans i.isLt⟩ (Fin.lt_def.2 hj)
    simpa using this

theorem find_finRange_none {n : Nat} {p : Fin n → Bool} :
    (List.finRange n).find? p = none ↔ ∀ i, p i = false := by
  simp [List.find?_eq_none]

theorem find_reverse_finRange {n : Nat} {p : Fin n → Bool} {i : Fin n} :
    (List.finRange n).reverse.find? p = some i ↔ p i = true ∧ ∀ j, i < j → p j = false := by
  have rev : (List.finRange n).reverse.find? p = ((List.finRange n).find? (p ∘ Fin.rev)).map Fin.rev := by
    rw [List.finRange_reverse, List.find?_map]
  rw [rev, Option.map_eq_some_iff]
  constructor
  · rintro ⟨k, hk, rfl⟩
    obtain ⟨hp, hb⟩ := find_finRange.1 hk
    refine ⟨hp, fun j hj => ?_⟩
    have := hb j.rev (by rwa [← Fin.rev_lt_rev, Fin.rev_rev])
    simpa using this
  · rintro ⟨hp, hb⟩
    refine ⟨i.rev, find_finRange.2 ⟨by simpa using hp, fun j hj => ?_⟩, Fin.rev_rev i⟩
    exact hb j.rev (by rwa [← Fin.rev_lt_rev, Fin.rev_rev])

theorem find_reverse_finRange_none {n : Nat} {p : Fin n → Bool} :
    (List.finRange n).reverse.find? p = none ↔ ∀ i, p i = false := by
  simp [List.find?_eq_none]

/-! ## Rollback stages -/

/-- Whether a move list entry belongs to the rollback: driven, from a commanded position (R96). -/
def driveBack (m : Move) : Prop := m.driven = true ∧ m.fromPos ≠ none

theorem rollbackMoves_isEmpty (j : Job) (k : Fin 4) :
    (rollbackMoves j k).isEmpty = false ↔ ∃ m ∈ j.moves, m.stage = k ∧ driveBack m := by
  simp [rollbackMoves, driveBack, Option.isSome_iff_ne_none, and_assoc]

/-- There is no rollback stage below a bound where no entry below it is driven back. -/
theorem nextRollback_eq_none {j : Job} {n : Nat} :
    nextRollback j n = none ↔ ∀ m ∈ j.moves, m.stage.val < n → ¬ driveBack m := by
  rw [nextRollback, find_reverse_finRange_none]
  constructor
  · intro h m hm hn hd
    have hk := (rollbackMoves_isEmpty j m.stage).2 ⟨m, hm, rfl, hd⟩
    simpa [hn, hk] using h m.stage
  · intro h k
    rw [Bool.and_eq_false_iff, decide_eq_false_iff_not, Bool.not_eq_false', or_iff_not_imp_left, not_not]
    intro hk
    by_contra hne
    obtain ⟨m, hm, rfl, hd⟩ := (rollbackMoves_isEmpty j k).1 (Bool.eq_false_iff.2 hne)
    exact h m hm hk hd

/-- The next rollback stage below a bound is the highest one that has an entry driven back (R96). -/
theorem nextRollback_eq_some {j : Job} {n : Nat} {k : Fin 4} (hk : k.val < n)
    (hm : ∃ m ∈ j.moves, m.stage = k ∧ driveBack m)
    (high : ∀ m ∈ j.moves, driveBack m → m.stage.val < n → m.stage ≤ k) : nextRollback j n = some k := by
  rw [nextRollback, find_reverse_finRange]
  refine ⟨by simp [hk, (rollbackMoves_isEmpty j k).2 hm], fun l hl => ?_⟩
  rw [Bool.and_eq_false_iff, decide_eq_false_iff_not, Bool.not_eq_false', or_iff_not_imp_left, not_not]
  intro hln
  by_contra hne
  obtain ⟨m, hmem, rfl, hd⟩ := (rollbackMoves_isEmpty j l).1 (Bool.eq_false_iff.2 hne)
  exact absurd hl (not_lt.2 (high m hmem hd hln))

theorem mem_stopTimers {j : Job} {m : Move} :
    m ∈ (stopTimers j).moves ↔ ∃ m' ∈ j.moves, { m' with timer := .off } = m := List.mem_map

/-- Whether a drive write of the job is on the bus (R97). -/
theorem driveOnBus_iff (s : State) : driveOnBus s = true ↔ ∃ c e ts, onBus s (.drive e ts true) c := by
  unfold driveOnBus onBus
  cases hc : s.bus.current with
  | none => simp
  | some c =>
    obtain ⟨txn, op, address, speed, granted, discarded⟩ := c
    cases txn with
    | drive e ts live => cases live <;> cases discarded <;> simp
    | _ => simp

/-- The state a rollback starts from: no point under drive, no drive write waiting (R90). -/
def withdrawn (s : State) : State := clearMarks (withdrawWrites s)

/-- The rollback an end of the forward transfer starts, by what stands on the bus (R90, R97). -/
theorem startRollback_eq (j : Job) (cause : RollbackCause) (quiet : Bool) (s : State) :
    startRollback j cause quiet s =
      if driveOnBus s = true then
        { withdrawn s with
          job := some { stopTimers j with phase := .rollback, rollbackCause := some cause, awaiting := true } }
      else rollbackNext { stopTimers j with phase := .rollback, rollbackCause := some cause } 4 quiet
        { withdrawn s with job := some { stopTimers j with phase := .rollback, rollbackCause := some cause } } := rfl

theorem rollbackNext_of_none {j : Job} {n : Nat} {quiet : Bool} {s : State} (h : nextRollback j n = none) :
    rollbackNext j n quiet s = rollbackDone j s := by simp only [rollbackNext, h]

theorem rollbackNext_of_clear {j : Job} {n : Nat} {quiet : Bool} {s : State} {k : Fin 4} (h : nextRollback j n = some k)
    (hb : blocking s j = none) : rollbackNext j n quiet s = runRollbackStage j k s := by
  simp only [rollbackNext, h, hb]

theorem rollbackNext_of_blocked {j : Job} {n : Nat} {quiet : Bool} {s : State} {k i : Fin 4}
    (h : nextRollback j n = some k) (hb : blocking s j = some i) :
    rollbackNext j n quiet s =
      if quiet then s.setJob { j with phase := .paused .rollback, stage := some k, awaiting := false }
      else postEach (mutedSvcs j) (fun x => .transferPaused x i k)
        (s.setJob { j with phase := .paused .rollback, stage := some k, awaiting := false }) := by
  simp only [rollbackNext, h, hb]

/-! ## ACK_INTERLOCK -/

theorem presentInterlock_of_some {s : State} {k : Fin 4} {c : InterlockSettings} (h : s.interlockRec k = some c) :
    presentInterlock s (BitVec.ofNat 8 k.val) = some k := by
  simp [presentInterlock, indexOf_ofNat k (by decide), h]

theorem presentInterlock_eq_none {s : State} {index : Byte}
    (h : 4 ≤ index.toNat ∨ ∃ n : Fin 4, index = BitVec.ofNat 8 n.val ∧ s.interlockRec n = none) :
    presentInterlock s index = none := by
  unfold presentInterlock
  rcases h with h | ⟨n, rfl, h⟩
  · rw [indexOf_eq_none.2 h]
  · simp [indexOf_ofNat n (by decide), h]

theorem ackAllowed_of_some {s : State} {k : Fin 4} {c : InterlockSettings} (h : s.interlockRec k = some c) (x : Svc) :
    ackAllowed s x (BitVec.ofNat 8 k.val) = maskHas c.mask x := by
  simp only [ackAllowed, presentInterlock_of_some h, h]

theorem ackAllowed_of_none {s : State} {index : Byte} (h : presentInterlock s index = none) (x : Svc) :
    ackAllowed s x index = true := by
  simp only [ackAllowed, h]

/-- Past the permission check the interlock named is judged (R23). -/
theorem answerAckInterlock_allowed {port : PortId} {index : Byte} {s : State}
    (h : ∀ x, portService port = some x → ackAllowed s x index = true ∧ present s x = true) :
    answerAckInterlock port index s = ackIndex index s := by
  unfold answerAckInterlock
  split
  · rfl
  · next x hx =>
    obtain ⟨ha, hp⟩ := h x hx
    simp [ha, hp]

end Sys2Proof.Machine

namespace Sys2Proof.Proofs

open Sys2Proof.Machine

/-- Settles O10: the store's two cases, and REQUEST_PATTERN's checks in their order. -/
theorem requestPatternIsStored : Obligations.RequestPatternIsStored := by
  refine ⟨fun x r s => ⟨storeRequest_of_none r, fun o => storeRequest_of_some r⟩,
    fun port tag svc x k s ht hk hair => ?_, fun port tag svc slot x s ht => ⟨fun hs => ?_, fun k hk => ⟨fun hn => ?_,
      fun hp hf hst => ?_⟩⟩⟩
  · refine congrArg _ (own_taken ht .queued ?_)
    have hair' : inForceOnAir s x k = false := Bool.eq_false_iff.2 fun h => hair ((inForceOnAir_iff s x k).1 h)
    rw [answerRequestPattern, indexOf_ofNat k (by decide), inRange_some, windowShut_pattern, windowShut_inForceOnAir,
      hair', Option.isNone_eq_false_iff.2 hk]
    rfl
  · refine congrArg _ (own_refused ht .badField ?_)
    rw [answerRequestPattern, indexOf_eq_none.2 hs, inRange_none]
  · refine congrArg _ (own_refused ht .patternEmpty ?_)
    rw [hk, answerRequestPattern, indexOf_ofNat k (by decide), inRange_some, windowShut_pattern, hn]
    rfl
  · refine congrArg _ (own_refused ht .alreadyInForce ?_)
    rw [hk, answerRequestPattern, indexOf_ofNat k (by decide), inRange_some, windowShut_pattern, windowShut_inForceOnAir,
      (inForceOnAir_iff s x k).2 ⟨hf, hst⟩, Option.isNone_eq_false_iff.2 hp]
    rfl

/-- Settles O11: the withdrawal, the engine's answer by phase, and the rollback it starts. -/
theorem abortChangeActsByPhase : Obligations.AbortChangeActsByPhase := by
  refine ⟨fun port tag svc x s ht hno => ?withdraw, fun port tag svc x j s ht hj hx => ?engine,
    fun j j' cause quiet s t hj' ht => ⟨driveOnBus_iff s, ?rollback⟩⟩
  case withdraw =>
    have body (n : Nat) : answerAbortChange (windowShut port n s) x = answerWithdraw (windowShut port n s) x := by
      unfold answerAbortChange
      split
      · next j hj => rw [if_neg]; rw [hno j hj]; decide
      · rfl
    refine ⟨fun r hr => congrArg _ (own_taken ht .ok (effect := fun u => finish (post (.requestDropped x r.target .aborted)
      { u with svcs := u.svcs.set x { u.svcs.get x with request := none }, arrival := u.arrival.filter (· != x) })) ?_),
      fun hr => congrArg _ (own_refused ht .state ?_)⟩
    · rw [body, answerWithdraw, windowShut_svc, hr, Option.isSome_some, if_pos rfl,
        dropRequest_some .aborted ((congrArg Service.request (windowShut_svc port _ s x)).trans hr)]
      rfl
    · rw [body, answerWithdraw, windowShut_svc, hr]
      rfl
  case engine =>
    have hj' (n : Nat) : (windowShut port n s).job = some j := hj
    refine ⟨fun hp => congrArg _ (own_taken ht .ok ?_), fun hp => congrArg _ (own_taken ht .ok ?_),
      fun hp => congrArg _ (own_refused ht .notAbortable ?_)⟩
    · exact answerAbortChange_of_some (hj' _) hx (by rw [abortJob, hp])
    · refine answerAbortChange_of_some (hj' _) hx ?_
      rcases hp with hp | hp <;> rw [abortJob, hp] <;> rfl
    · refine answerAbortChange_of_none (hj' _) hx ?_
      rcases hp with hp | hp <;> rw [abortJob, hp]
  case rollback =>
    have base : t = withdrawn s := ht
    have job : j' = { stopTimers j with phase := .rollback, rollbackCause := some cause } := hj'
    rw [startRollback_eq, ← base, ← job]
    have back (m : Move) : driveBack { m with timer := .off } ↔ driveBack m := Iff.rfl
    refine ⟨fun hb => by rw [if_pos hb, job], fun hb => ?_⟩
    rw [if_neg (by rw [hb]; decide)]
    refine ⟨fun hnone => rollbackNext_of_none (nextRollback_eq_none.2 fun m hm _ hd => ?_), fun k hk hhigh => ?_⟩
    · rw [job] at hm
      obtain ⟨m', hm', rfl⟩ := mem_stopTimers.1 hm
      obtain ⟨hdr, hfr⟩ := (back m').1 hd
      rcases hnone m' hm' with h | h
      · rw [h] at hdr; cases hdr
      · exact hfr h
    · have hnext : nextRollback j' 4 = some k := by
        refine nextRollback_eq_some k.isLt ?_ fun m hm hd _ => ?_
        · obtain ⟨m, hm, hs, hd⟩ := hk
          rw [job]
          exact ⟨_, mem_stopTimers.2 ⟨m, hm, rfl⟩, hs, (back m).2 hd⟩
        · rw [job] at hm
          obtain ⟨m', hm', rfl⟩ := mem_stopTimers.1 hm
          obtain ⟨hdr, hfr⟩ := (back m').1 hd
          exact hhigh m' hm' hdr hfr
      have hblock : blocking { t with job := some j' } j' = blocking s j := by rw [base, job]; rfl
      refine ⟨fun hn => rollbackNext_of_clear hnext (hblock.trans hn), fun n u hn hu => ?_⟩
      rw [rollbackNext_of_blocked hnext (hblock.trans hn), hu, job]
      rfl

/-- Settles O12: RESUME_SERVICE by its check, SET_MODE by its code, and the derivation by what is due. -/
theorem resumeAndModeRequests : Obligations.ResumeAndModeRequests := by
  refine ⟨fun port tag svc x s ht => ⟨fun hst hpass => ?_, fun h => ?_⟩,
    fun port tag svc x s ht => ⟨fun hm => ?_, fun hm => ?_, fun hm => ?_, fun hm => ?_, fun mode h0 h1 => ?_⟩,
    fun x s due asks hdue hasks => ?derive⟩
  · refine congrArg _ (own_taken ht .ok (effect := fun u => finish (enterVerifying x u)) ?_)
    exact if_pos (by exact ⟨hst, hpass⟩)
  · refine congrArg _ (own_refused ht .state ?_)
    exact if_neg (by rintro ⟨hst, hpass⟩; exact h.elim (· hst) (· hpass))
  · refine congrArg _ (own_taken ht .ok (effect := id) ?_)
    exact if_pos (by exact hm)
  · refine congrArg _ (own_taken ht .ok (effect := id) ?_)
    exact if_pos (by exact hm)
  · refine congrArg _ (own_taken ht .ok (effect := fun u => finish (post (.modeChanged x .manual)
      { u with svcs := u.svcs.set x { u.svcs.get x with mode := .manual } })) ?_)
    refine (if_neg ?_).trans rfl
    rw [windowShut_svc, hm]
    decide
  · refine congrArg _ (own_taken ht .ok (effect := fun u => finish (deriveOne x (post (.modeChanged x .auto)
      { u with svcs := u.svcs.set x { u.svcs.get x with mode := .auto } }))) ?_)
    refine (if_neg ?_).trans rfl
    rw [windowShut_svc, hm]
    decide
  · refine congrArg _ (own_refused ht .badField ?_)
    have hnone : modeOfCode mode = none := by
      revert mode
      decide
    rw [answerSetMode, hnone, inRange_none]
  case derive =>
    have hd := derived_eq (hdue x)
    refine ⟨fun hn => ?_, fun k hk => ?_⟩
    · rw [hn] at hd
      rw [deriveOne, hd]
      rfl
    · rw [hk] at hd
      rw [deriveOne, hd, hasks]
      rfl

/-- Settles O13: R23's checks in their order. -/
theorem ackInterlockClosesALatchedOne : Obligations.AckInterlockClosesALatchedOne := by
  have refused {port : PortId} {tag index : Byte} {s : State} (hl : loadEnded s = true) (st : Status)
      (h : answerAckInterlock port index (windowShut port 4 s) = refuse st (windowShut port 4 s)) :
      exec (.ackInterlock port tag index) s = .next (answered port 4 (shortFrame (statusCode st) tag) id s) :=
    congrArg _ (request_refused hl port tag 4 _ st h)
  refine ⟨fun port tag k c s hl hc => ⟨fun hmay => ⟨fun hst => ?_, fun hst => ?_⟩, fun x hx hm => ?_, fun hm hone => ?_⟩,
    fun port tag index s hl hidx => ⟨fun hp => ?_, fun hone => ?_⟩⟩
  · have allowed : answerAckInterlock port (BitVec.ofNat 8 k.val) (windowShut port 4 s) =
        ackIndex (BitVec.ofNat 8 k.val) (windowShut port 4 s) := answerAckInterlock_allowed fun x hx =>
      ⟨(ackAllowed_of_some (s := windowShut port 4 s) hc x).trans (hmay x hx).1, (hmay x hx).2⟩
    refine congrArg _ (request_taken hl port tag 4 _ .ok (fun u => finish (handOn k .latched c.mask
      (post (.interlockCleared k .latched)
        { u with interlocks := u.interlocks.set k { u.interlock k with state := .closed } }))) (allowed.trans ?_))
    have hack : acknowledge k (windowShut port 4 s) = handOn k .latched c.mask (post (.interlockCleared k .latched)
        { windowShut port 4 s with
          interlocks := (windowShut port 4 s).interlocks.set k
            { (windowShut port 4 s).interlock k with state := .closed } }) := by
      simp only [acknowledge, windowShut_interlockRec, hc, moveInterlock, windowShut_interlock, hst, reduceCtorEq, if_false]
      rfl
    rw [ackIndex, presentInterlock_of_some (s := windowShut port 4 s) hc, inRange_some, windowShut_interlock, hst,
      if_pos rfl, hack]
    rfl
  · refine refused hl .state ((answerAckInterlock_allowed fun x hx =>
      ⟨(ackAllowed_of_some (s := windowShut port 4 s) hc x).trans (hmay x hx).1, (hmay x hx).2⟩).trans ?_)
    rw [ackIndex, presentInterlock_of_some (s := windowShut port 4 s) hc, inRange_some, windowShut_interlock, if_neg hst]
  · refine refused hl .notPermitted ?_
    simp only [answerAckInterlock, hx, ackAllowed_of_some (s := windowShut port 4 s) hc, hm, Bool.not_false, if_true]
  · refine refused hl .noService ?_
    have absent : present (windowShut .b 4 s) .b = false := by simp [present, hone]
    simp only [answerAckInterlock, portService, ackAllowed_of_some (s := windowShut .b 4 s) hc, hm, absent, Bool.not_true,
      Bool.not_false, Bool.false_eq_true, if_false, if_true]
  · have hn : presentInterlock (windowShut port 4 s) index = none := presentInterlock_eq_none hidx
    refine refused hl .badField ((answerAckInterlock_allowed fun x hx => ⟨ackAllowed_of_none hn x, hp x hx⟩).trans ?_)
    rw [ackIndex, hn, inRange_none]
  · have hn : presentInterlock (windowShut .b 4 s) index = none := presentInterlock_eq_none hidx
    refine refused hl .noService ?_
    have absent : present (windowShut .b 4 s) .b = false := by simp [present, hone]
    simp only [answerAckInterlock, portService, ackAllowed_of_none hn, absent, Bool.not_true, Bool.not_false,
      Bool.false_eq_true, if_false, if_true]

end Sys2Proof.Proofs
end

section
/-! PROOFS. The fields of WRITE_PATTERN and TUNE_PATTERN (O14 to O16): what is stored of each field, and which fields are
refused. -/

namespace Sys2Proof.Machine

/-! ## Codes read -/

theorem indexOf_eq_some {n : Nat} {b : Byte} {k : Fin n} : indexOf n b = some k ↔ b.toNat = k.val := by
  simp [indexOf, Fin.ext_iff]
  intro h
  exact h ▸ k.isLt

theorem enforcementOfCode_eq_some {b : Byte} {e : Enforcement} :
    enforcementOfCode b = some e ↔ b.toNat = enforcementCode e := by
  cases e <;> revert b <;> decide

theorem policyOfCode_eq_some {b : Byte} {p : Policy} : policyOfCode b = some p ↔ b.toNat = policyCode p := by
  cases p <;> revert b <;> decide

theorem posOfCode_eq_some {b : Byte} {p : Pos} : posOfCode b = some p ↔ b.toNat = posCode p := by
  cases p <;> revert b <;> decide

theorem posOfCode_eq_none {b : Byte} : posOfCode b = none ↔ b ≠ 1 ∧ b ≠ 2 := by
  revert b
  decide

theorem maskOfCode_eq_some {b : Byte} {m : Mask} : maskOfCode b = some m ↔ b.toNat = maskCode m := by
  cases m <;> revert b <;> decide

theorem eq_ofNat_iff {b : Byte} {n : Nat} (h : n < 256) : b = BitVec.ofNat 8 n ↔ b.toNat = n := by
  rw [← BitVec.toNat_inj, BitVec.toNat_ofNat, Nat.mod_eq_of_lt h]

theorem ofNat_fin_injective {n : Nat} (h : n ≤ 256) : Function.Injective fun i : Fin n => BitVec.ofNat 8 i.val := by
  intro i j hij
  have := (eq_ofNat_iff (b := BitVec.ofNat 8 i.val) (j.isLt.trans_le h)).1 hij
  rw [BitVec.toNat_ofNat, Nat.mod_eq_of_lt (i.isLt.trans_le h)] at this
  exact Fin.ext this

theorem labelChar_eq_none {b : Byte} : labelChar b = none ↔ b.toNat < 0x20 ∨ 0x7E < b.toNat := by
  simp only [labelChar, keepIf_eq_none, within, decide_eq_false_iff_not]
  omega

theorem clampWindow_eq (b : Byte) : clampWindow b = max 2 (min b.toNat 120) := by
  simp only [clampWindow, clampTo, Nat.mod_one, Nat.sub_zero, Nat.min_comm]

theorem clampPersistence_eq (b : Byte) : clampPersistence b = max 1 (min b.toNat 15) := by
  simp only [clampPersistence, clampTo, Nat.mod_one, Nat.sub_zero, Nat.min_comm]

/-! ## The switch map of a frame -/

/-- A pair as WRITE_PATTERN carries it. -/
def pairFrame (q : Fin 32 × Pos) : Byte × Byte := (BitVec.ofNat 8 q.1.val, BitVec.ofNat 8 (posCode q.2))

/-- A pair read from the bytes WRITE_PATTERN carries. -/
def pairOf (q : Byte × Byte) : Option (Fin 32 × Pos) := do
  let i ← indexOf 32 q.1
  let pos ← posOfCode q.2
  return (i, pos)

theorem posCode_lt (p : Pos) : posCode p < 256 := by cases p <;> decide

theorem pairOf_eq_some {b : Byte × Byte} {q : Fin 32 × Pos} : pairOf b = some q ↔ b = pairFrame q := by
  obtain ⟨b1, b2⟩ := b
  obtain ⟨i, pos⟩ := q
  simp only [pairOf, bind, Option.bind_eq_some_iff, indexOf_eq_some, posOfCode_eq_some, pure, Option.some.injEq,
    Prod.mk.injEq, pairFrame, eq_ofNat_iff (i.isLt.trans (by decide)), eq_ofNat_iff (posCode_lt pos)]
  constructor
  · rintro ⟨_, h1, _, h2, rfl, rfl⟩; exact ⟨h1, h2⟩
  · rintro ⟨h1, h2⟩; exact ⟨i, h1, pos, h2, rfl, rfl⟩

theorem pairOf_eq_none {b : Byte × Byte} : pairOf b = none ↔ 31 < b.1.toNat ∨ b.2 ≠ 1 ∧ b.2 ≠ 2 := by
  rw [← posOfCode_eq_none]
  unfold pairOf
  cases h1 : indexOf 32 b.1 with
  | none =>
    have : 32 ≤ b.1.toNat := indexOf_eq_none.1 h1
    simp only [bind, Option.bind_none, true_iff]
    exact .inl (by omega)
  | some i =>
    have := indexOf_eq_some.1 h1
    have hlt : ¬ 31 < b.1.toNat := by have := i.isLt; omega
    cases h2 : posOfCode b.2 <;> simp [hlt]

theorem pairFrame_injective : Function.Injective pairFrame := by
  intro q r h
  exact Option.some.inj ((pairOf_eq_some.2 rfl).symm.trans (pairOf_eq_some.2 h))

theorem mapM_pairOf {pairs : List (Byte × Byte)} {l : List (Fin 32 × Pos)} :
    pairs.mapM pairOf = some l ↔ pairs = l.map pairFrame := by
  induction pairs generalizing l with
  | nil => cases l <;> simp
  | cons b pairs ih =>
    cases l with
    | nil =>
      simp only [List.mapM_cons, bind, Option.bind_eq_some_iff, pure, Option.some.injEq, reduceCtorEq, and_false, exists_false,
        List.map_nil]
    | cons q l =>
      simp only [List.mapM_cons, bind, Option.bind_eq_some_iff, pure, Option.some.injEq, List.cons.injEq, List.map_cons,
        pairOf_eq_some, ih]
      constructor
      · rintro ⟨_, h1, _, h2, rfl, rfl⟩; exact ⟨h1, h2⟩
      · rintro ⟨h1, h2⟩; exact ⟨q, h1, l, h2, rfl, rfl⟩

/-- The switch map of distinct points. -/
def mapOf (l : List (Fin 32 × Pos)) : Vector (Option Pos) 32 :=
  Vector.ofFn fun i => (l.find? fun q => q.1 == i).map Prod.snd

theorem mapOfPairs_eq (pairs : List (Byte × Byte)) :
    mapOfPairs pairs = (pairs.mapM pairOf).bind fun l => keepIf (noRepeats (l.map Prod.fst)) (mapOf l) := rfl

theorem nodup_points_iff (l : List (Fin 32 × Pos)) :
    (l.map Prod.fst).Nodup ↔ ((l.map pairFrame).map Prod.fst).Nodup := by
  have : (l.map pairFrame).map Prod.fst = (l.map Prod.fst).map fun i : Fin 32 => BitVec.ofNat 8 i.val := by
    simp [pairFrame, Function.comp_def]
  rw [this, List.nodup_map_iff (ofNat_fin_injective (by decide))]

theorem mapOf_get {l : List (Fin 32 × Pos)} (h : (l.map Prod.fst).Nodup) (i : Fin 32) (pos : Pos) :
    (mapOf l)[i] = some pos ↔ (i, pos) ∈ l := by
  simp only [mapOf, Fin.getElem_fin, Vector.getElem_ofFn, Option.map_eq_some_iff]
  constructor
  · rintro ⟨⟨k, p⟩, hf, rfl⟩
    obtain rfl : k = i := by simpa using List.find?_some hf
    exact List.mem_of_find?_eq_some hf
  · intro hm
    cases hf : l.find? fun q => q.1 == i with
    | none => simpa using List.find?_eq_none.1 hf _ hm
    | some q =>
      have hq : q.1 = i := by simpa using List.find?_some hf
      have := List.inj_on_of_nodup_map h (List.mem_of_find?_eq_some hf) hm hq
      exact ⟨q, rfl, by rw [this]⟩

theorem mapOfPairs_get {pairs : List (Byte × Byte)} {map : Vector (Option Pos) 32} (h : mapOfPairs pairs = some map)
    (i : Fin 32) (pos : Pos) :
    map[i] = some pos ↔ (BitVec.ofNat 8 i.val, BitVec.ofNat 8 (posCode pos)) ∈ pairs := by
  simp only [mapOfPairs_eq, Option.bind_eq_some_iff, mapM_pairOf, keepIf_eq_some, noRepeats_iff] at h
  obtain ⟨l, rfl, hn, rfl⟩ := h
  rw [mapOf_get hn]
  exact (List.mem_map_of_injective pairFrame_injective).symm

theorem mapOfPairs_eq_none {pairs : List (Byte × Byte)} :
    mapOfPairs pairs = none ↔ (∃ q ∈ pairs, 31 < q.1.toNat ∨ q.2 ≠ 1 ∧ q.2 ≠ 2) ∨ ¬ (pairs.map Prod.fst).Nodup := by
  have members : pairs.mapM pairOf = none ↔ ∃ q ∈ pairs, 31 < q.1.toNat ∨ q.2 ≠ 1 ∧ q.2 ≠ 2 := by
    simp only [mapM_eq_none, pairOf_eq_none]
  rw [← members, mapOfPairs_eq]
  cases hl : pairs.mapM pairOf with
  | none => simp
  | some l =>
    rw [mapM_pairOf.1 hl, ← nodup_points_iff, ← noRepeats_iff]
    simp

/-! ## The tower entries of a frame -/

theorem towerOf_present {flags : Byte} {ratio phase ratioTol phaseTol : Half} {o : Option TowerEntry}
    (h : towerOf flags ratio phase ratioTol phaseTol = some o) : o.isSome = flags.getLsbD 0 := by
  unfold towerOf at h
  split at h
  · next hf => cases h; simp_all
  · next hf =>
    simp only [bind, Option.bind_eq_some_iff, keepIf_eq_some] at h
    obtain ⟨_, _, _, _, _, rfl⟩ := h
    simp_all

theorem towerOf_fields {flags : Byte} {ratio phase ratioTol phaseTol : Half} {t : TowerEntry}
    (h : towerOf flags ratio phase ratioTol phaseTol = some (some t)) :
    t.ratio = ratio.toNat ∧ t.phase = phase.toInt ∧ t.ratioTol = ratioTol.toNat ∧ t.phaseTol = phaseTol.toNat ∧
      enforcementCode t.ratioEnf = flags.toNat / 2 % 4 ∧ enforcementCode t.phaseEnf = flags.toNat / 8 % 4 := by
  unfold towerOf at h
  split at h
  · cases h
  · simp only [bind, Option.bind_eq_some_iff, keepIf_eq_some, Option.some.injEq, enforcementOfCode_eq_some,
      bits_toNat flags _ 2 (by decide)] at h
    obtain ⟨_, hr, _, hp, _, rfl⟩ := h
    exact ⟨rfl, rfl, rfl, rfl, hr.symm, hp.symm⟩

theorem towerOf_eq_none {flags : Byte} {ratio phase ratioTol phaseTol : Half} :
    towerOf flags ratio phase ratioTol phaseTol = none ↔ flags.getLsbD 0 = true ∧
      (ratio = 0 ∨ 20000 < ratio.toNat ∨ phase.toInt < -1800 ∨ 1799 < phase.toInt ∨ ratioTol = 0 ∨
        500 < ratioTol.toNat ∨ phaseTol = 0 ∨ 900 < phaseTol.toNat ∨ flags.toNat / 2 % 4 = 3 ∨
        flags.toNat / 8 % 4 = 3) := by
  have zero (h : Half) : h = 0 ↔ h.toNat < 1 := by rw [← BitVec.toNat_inj]; exact Nat.lt_one_iff.symm
  have code {start : Nat} : enforcementOfCode (bits flags start 2) = none ↔ flags.toNat / 2 ^ start % 4 = 3 := by
    rw [enforcementOfCode_eq_none, bits_toNat flags _ 2 (by decide)]
    omega
  have range (re pe : Enforcement) : towerInRange
      { ratio := ratio.toNat, phase := phase.toInt, ratioTol := ratioTol.toNat, phaseTol := phaseTol.toNat,
        ratioEnf := re, phaseEnf := pe } = false ↔
      ratio = 0 ∨ 20000 < ratio.toNat ∨ phase.toInt < -1800 ∨ 1799 < phase.toInt ∨ ratioTol = 0 ∨
        500 < ratioTol.toNat ∨ phaseTol = 0 ∨ 900 < phaseTol.toNat := by
    rw [← Bool.not_eq_true, towerInRange_iff, towerSound, zero, zero, zero]
    simp only []
    omega
  unfold towerOf
  split
  · next hf => simp_all
  · next hf =>
    have hset : flags.getLsbD 0 = true := by simpa using hf
    have r1 := code (start := 1)
    have r3 := code (start := 3)
    simp only [hset, true_and, bind]
    cases hr : enforcementOfCode (bits flags 1 2) with
    | none =>
      have := r1.1 hr
      simp only [Option.bind_none, true_iff]
      exact .inr (.inr (.inr (.inr (.inr (.inr (.inr (.inr (.inl this))))))))
    | some re =>
      cases hp : enforcementOfCode (bits flags 3 2) with
      | none =>
        have := r3.1 hp
        simp only [Option.bind_none, Option.bind_some, true_iff]
        exact .inr (.inr (.inr (.inr (.inr (.inr (.inr (.inr (.inr this))))))))
      | some pe =>
        have n1 : ¬ flags.toNat / 2 % 4 = 3 := fun h => by rw [r1.2 h] at hr; cases hr
        have n3 : ¬ flags.toNat / 8 % 4 = 3 := fun h => by rw [r3.2 h] at hp; cases hp
        simp only [Option.bind_some, keepIf_eq_none, range, n1, n3, or_false]

/-! ## The pattern of a frame -/

/-- A frame is refused exactly where a part of it is. -/
theorem patternOfFrame_eq_none {f : PatternFrame} :
    patternOfFrame f = none ↔ (∃ k : Fin 8, labelChar f.label[k] = none) ∨ indexOf 12 f.refTower = none ∨
      policyOfCode f.fallback = none ∨ (∃ k : Fin 12, towerOfFrame f.towers[k] = none) ∨ mapOfPairs f.pairs = none ∨
      ¬(1 ≤ f.power.toNat ∧ f.power.toNat ≤ 10000) ∨ ¬(10 ≤ f.cutback.toNat ∧ f.cutback.toNat ≤ 90) := by
  rw [← allPresent_eq_none (f := fun k : Fin 8 => labelChar f.label[k]),
    ← allPresent_eq_none (f := fun k : Fin 12 => towerOfFrame f.towers[k])]
  unfold patternOfFrame
  rcases (allPresent 8 fun k => labelChar f.label[k]) with _ | label
  · simp
  rcases indexOf 12 f.refTower with _ | ref
  · simp
  rcases policyOfCode f.fallback with _ | policy
  · simp
  rcases (allPresent 12 fun k => towerOfFrame f.towers[k]) with _ | towers
  · simp
  rcases mapOfPairs f.pairs with _ | map
  · simp
  simp only [bind, Option.bind_some, keepIf_eq_none, Bool.and_eq_false_iff, within, decide_eq_false_iff_not, reduceCtorEq,
    false_or]

theorem statusCode_clampStatus (b : Bool) : statusCode (clampStatus b) = if b then 2 else 0 := by cases b <;> rfl

/-- A slot is in use where it is in force, pending, or the job's (R32). -/
theorem slotInUse_iff (x : Svc) (k : Fin 4) (s : State) :
    slotInUse s x k = true ↔
      (s.svc x).inForce = some k ∨ (∃ r, (s.svc x).request = some r ∧ r.target = k) ∨
        ∃ j c, s.job = some j ∧ j.changing.find? (fun c => c.svc == x) = some c ∧ c.target = k := by
  have pending : isPendingTarget s x k = true ↔ ∃ r, (s.svc x).request = some r ∧ r.target = k := by
    unfold isPendingTarget
    cases (s.svc x).request <;> simp
  have job : isJobTarget s x k = true ↔
      ∃ j c, s.job = some j ∧ j.changing.find? (fun c => c.svc == x) = some c ∧ c.target = k := by
    unfold isJobTarget changingOf
    cases s.job with
    | none => simp
    | some j => cases hf : j.changing.find? (fun c => c.svc == x) <;> simp [hf]
  rw [slotInUse, Bool.or_eq_true, Bool.or_eq_true, beq_iff_eq, pending, job, or_assoc]

theorem length_writePattern_some (port : PortId) (tag svc slot : Byte) (f : PatternFrame) :
    (requestFrame (.writePattern port tag svc slot (some f))).length = 130 + 2 * f.pairs.length := by
  simp only [requestFrame, frameOf, List.length_cons, length_patternBytes]
  omega

/-! ## The tuning of a pattern -/

theorem tuningOf_eq_none {t : TuneItem} :
    tuningOf t = none ↔ 11 < t.tower.toNat ∨ 2 < t.ratioEnf.toNat ∨ 2 < t.phaseEnf.toNat ∨
      t.ratioTol.toNat < 1 ∨ 500 < t.ratioTol.toNat ∨ t.phaseTol.toNat < 1 ∨ 900 < t.phaseTol.toNat := by
  have hi : 11 < t.tower.toNat ↔ indexOf 12 t.tower = none := by rw [indexOf_eq_none]; omega
  rw [hi, ← enforcementOfCode_eq_none, ← enforcementOfCode_eq_none]
  unfold tuningOf
  rcases indexOf 12 t.tower with _ | i
  · simp
  rcases enforcementOfCode t.ratioEnf with _ | re
  · simp
  rcases enforcementOfCode t.phaseEnf with _ | pe
  · simp
  simp only [bind, Option.bind_some, keepIf_eq_none, Bool.and_eq_false_iff, within, decide_eq_false_iff_not, reduceCtorEq,
    false_or]
  omega

/-- The items of a tuning and their readings stand in one order. -/
theorem tunings_towers {items : List TuneItem} {ts : List Tuning} (h : items.mapM tuningOf = some ts) :
    items.map TuneItem.tower = (ts.map Tuning.tower).map fun i : Fin 12 => BitVec.ofNat 8 i.val := by
  induction items generalizing ts with
  | nil => cases (by simpa using h : ts = []); rfl
  | cons it items ih =>
    simp only [List.mapM_cons, bind, Option.bind_eq_some_iff, pure, Option.some.injEq] at h
    obtain ⟨t, ht, ts', hts, rfl⟩ := h
    obtain ⟨i, _, _, hi, _, _, _, _, rfl⟩ := tuningOf_eq_some.1 ht
    have : it.tower = BitVec.ofNat 8 i.val := (eq_ofNat_iff (i.isLt.trans (by decide))).2 (indexOf_eq_some.1 hi)
    simp only [List.map_cons, ih hts, this]

theorem mem_tunings {items : List TuneItem} {ts : List Tuning} (h : items.mapM tuningOf = some ts) :
    (∀ it ∈ items, ∃ t ∈ ts, tuningOf it = some t) ∧ ∀ t ∈ ts, ∃ it ∈ items, tuningOf it = some t := by
  have hmap := mapM_eq_some.1 h
  constructor
  · intro it hit
    have : tuningOf it ∈ ts.map some := hmap ▸ List.mem_map_of_mem hit
    obtain ⟨t, ht, heq⟩ := List.mem_map.1 this
    exact ⟨t, ht, heq.symm⟩
  · intro t ht
    have : some t ∈ items.map tuningOf := hmap ▸ List.mem_map_of_mem ht
    obtain ⟨it, hit, heq⟩ := List.mem_map.1 this
    exact ⟨it, hit, heq⟩

theorem tuneTower_other {ts : List Tuning} {i : Fin 12} (h : ∀ u ∈ ts, u.tower ≠ i) (t : TowerEntry) :
    tuneTower ts i t = t := by
  have : ts.find? (fun u => u.tower == i) = none := List.find?_eq_none.2 fun u hu => by simpa using h u hu
  simp only [tuneTower, this]

theorem tuneTower_of_mem {ts : List Tuning} (hn : (ts.map Tuning.tower).Nodup) {u : Tuning} (hu : u ∈ ts) (t : TowerEntry) :
    tuneTower ts u.tower t =
      { t with ratioTol := u.ratioTol, phaseTol := u.phaseTol, ratioEnf := u.ratioEnf, phaseEnf := u.phaseEnf } := by
  have : ts.find? (fun v => v.tower == u.tower) = some u := by
    cases hf : ts.find? (fun v => v.tower == u.tower) with
    | none => simpa using List.find?_eq_none.1 hf u hu
    | some v =>
      have hv : v.tower = u.tower := by simpa using List.find?_some hf
      rw [List.inj_on_of_nodup_map hn (List.mem_of_find?_eq_some hf) hu hv]
  simp only [tuneTower, this]

theorem tuneTower_references (ts : List Tuning) (i : Fin 12) (t : TowerEntry) :
    (tuneTower ts i t).ratio = t.ratio ∧ (tuneTower ts i t).phase = t.phase := by
  unfold tuneTower
  split <;> exact ⟨rfl, rfl⟩

end Sys2Proof.Machine

namespace Sys2Proof.Proofs

open Sys2Proof.Machine

/-- Settles O15: each field of the record, and each part's refusal. -/
theorem writtenPatternHoldsTheFields : Obligations.WrittenPatternHoldsTheFields := by
  refine ⟨fun f p clamped h => ?_, fun f => ?_⟩
  · refine ⟨patternSound_of_frame h, ?_⟩
    obtain ⟨label, ref, policy, towers, map, hl, href, hpol, ht, hm, _, _, heq⟩ := patternOfFrame_eq_some.1 h
    obtain ⟨rfl, rfl⟩ := Prod.mk.injEq .. ▸ heq
    refine ⟨?_, rfl, rfl, (indexOf_eq_some.1 href).symm, clampWindow_eq _, clampPersistence_eq _,
      (policyOfCode_eq_some.1 hpol).symm, ?_, fun i => towerOf_present (ht i), fun i t hi => ?_, mapOfPairs_get hm⟩
    · ext k hk
      exact congrArg (fun b : Byte => b.getLsbD _) ((labelChar_eq_some.1 (hl ⟨k, hk⟩)).2.symm)
    · simp
    · exact towerOf_fields ((ht i).trans (congrArg some hi))
  · rw [patternOfFrame_eq_none, mapOfPairs_eq_none]
    simp only [labelChar_eq_none, indexOf_eq_none, policyOfCode_eq_none, towerOfFrame, towerOf_eq_none]
    have zero : f.power = 0 ↔ f.power.toNat = 0 := by rw [← BitVec.toNat_inj]; rfl
    rw [zero]
    constructor
    · rintro (h | h | h | h | (h | h) | h | h)
      · exact .inl h
      · exact .inr (.inr (.inr (.inr (.inr (.inl (by omega))))))
      · exact .inr (.inr (.inr (.inr (.inr (.inr (.inl h))))))
      · exact .inr (.inr (.inr (.inr (.inr (.inr (.inr (.inl h)))))))
      · exact .inr (.inr (.inr (.inr (.inr (.inr (.inr (.inr (.inl h))))))))
      · exact .inr (.inr (.inr (.inr (.inr (.inr (.inr (.inr (.inr h))))))))
      · rcases Nat.lt_or_ge 10000 f.power.toNat with h' | h'
        · exact .inr (.inr (.inl h'))
        · exact .inr (.inl (by omega))
      · rcases Nat.lt_or_ge 90 f.cutback.toNat with h' | h'
        · exact .inr (.inr (.inr (.inr (.inl h'))))
        · exact .inr (.inr (.inr (.inl (by omega))))
    · rintro (h | h | h | h | h | h | h | h | h | h)
      · exact .inl h
      · exact .inr (.inr (.inr (.inr (.inr (.inl (by omega))))))
      · exact .inr (.inr (.inr (.inr (.inr (.inl (by omega))))))
      · exact .inr (.inr (.inr (.inr (.inr (.inr (by omega))))))
      · exact .inr (.inr (.inr (.inr (.inr (.inr (by omega))))))
      · exact .inr (.inl (by omega))
      · exact .inr (.inr (.inl h))
      · exact .inr (.inr (.inr (.inl h)))
      · exact .inr (.inr (.inr (.inr (.inl (.inl h)))))
      · exact .inr (.inr (.inr (.inr (.inl (.inr h)))))

/-- Settles O14: WRITE_PATTERN's checks in their order, and the words in use. -/
theorem writePatternReplacesTheSlot : Obligations.WritePatternReplacesTheSlot := by
  have body {s : State} {port : PortId} {svc : Byte} {x : Svc} (ht : TakesWrite s port svc x) (n : Nat) (slot : Byte)
      (b : Option PatternFrame) : answerWritePattern slot b (windowShut port n s) x =
        inRange (indexOf 4 slot) (windowShut port n s) fun k =>
          if slotInUse (windowShut port n s) x k then refuse .inUse (windowShut port n s)
          else inRange (patternOperand b) (windowShut port n s) fun q =>
            if listsPresent (windowShut port n s) q.1 then
              taken (clampStatus q.2) ((windowShut port n s).writeCfg ((windowShut port n s).cfg.setPattern x k q.1))
            else refuse .badField (windowShut port n s) := whileUnsaved_of_idle (by exact ht.idle) _
  refine ⟨fun port tag svc x k s ht hfree => ⟨?_, fun f p clamped hf hv => ?_, fun f hf => ?_, fun slot b hs => ?_⟩,
    fun port tag svc x k b s ht huse => ?_, slotInUse_iff⟩
  · refine congrArg _ (own_taken ht.toTakes .ok ?_)
    rw [body ht, indexOf_ofNat k (by decide), inRange_some, windowShut_slotInUse, hfree]
    rfl
  · rw [← length_writePattern_some port tag svc (BitVec.ofNat 8 k.val) f, ← statusCode_clampStatus]
    refine congrArg _ (own_taken ht.toTakes (clampStatus clamped) ?_)
    have operand : patternOperand (some f) = some (some p, clamped) := by rw [patternOperand, hf]; rfl
    rw [body ht, indexOf_ofNat k (by decide), inRange_some, windowShut_slotInUse, hfree, operand, inRange_some]
    exact if_pos hv
  · rw [← length_writePattern_some port tag svc (BitVec.ofNat 8 k.val) f]
    refine congrArg _ (own_refused ht.toTakes .badField ?_)
    rw [body ht, indexOf_ofNat k (by decide), inRange_some, windowShut_slotInUse, hfree]
    rcases hf with hf | ⟨p, clamped, hf, hv⟩
    · have operand : patternOperand (some f) = none := by rw [patternOperand, hf]; rfl
      rw [operand]
      rfl
    · have operand : patternOperand (some f) = some (some p, clamped) := by rw [patternOperand, hf]; rfl
      rw [operand, inRange_some]
      exact if_neg (by show ¬ patternValid s p = true; rw [hv]; decide)
  · refine congrArg _ (own_refused ht.toTakes .badField ?_)
    rw [body ht, indexOf_eq_none.2 hs, inRange_none]
  · refine congrArg _ (own_refused ht.toTakes .inUse ?_)
    rw [body ht, indexOf_ofNat k (by decide), inRange_some, windowShut_slotInUse, (slotInUse_iff x k s).2 huse]
    rfl

/-- Settles O16: TUNE_PATTERN's checks, and the fields of the tuned record. -/
theorem tunePatternStoresTheTuning : Obligations.TunePatternStoresTheTuning := by
  refine ⟨fun port tag svc cut win per items x k s ht => ?request, fun p q cut win per items clamped h => ?fields,
    fun p cut win per items => ?refused⟩
  case request =>
    have len (slot : Byte) : (requestFrame (.tunePattern port tag svc slot cut win per items)).length = 9 + 7 * items.length := by
      simp only [requestFrame, frameOf, List.length_cons, length_tuneItemBytes]
      omega
    have body (n : Nat) (slot : Byte) : answerTunePattern slot cut win per items (windowShut port n s) x =
        inRange (indexOf 4 slot) (windowShut port n s) fun k =>
          match (windowShut port n s).pattern x k with
          | none => refuse .patternEmpty (windowShut port n s)
          | some p => inRange (tunedPattern p cut win per items) (windowShut port n s) fun q =>
              taken (clampStatus q.2) (storeTuned x k q.1 (windowShut port n s)) :=
      whileUnsaved_of_idle (by exact ht.idle) _
    refine ⟨fun p q clamped hp hq => ?_, fun hp => ?_, fun p hp hq => ?_, fun slot hs => ?_⟩
    · rw [← len (BitVec.ofNat 8 k.val), ← statusCode_clampStatus]
      refine congrArg _ (own_taken ht.toTakes (clampStatus clamped) ?_)
      rw [body, indexOf_ofNat k (by decide), inRange_some, windowShut_pattern, hp]
      show inRange (tunedPattern p cut win per items) _ _ = _
      rw [hq]
      rfl
    · rw [← len (BitVec.ofNat 8 k.val)]
      refine congrArg _ (own_refused ht.toTakes .patternEmpty ?_)
      rw [body, indexOf_ofNat k (by decide), inRange_some, windowShut_pattern, hp]
    · rw [← len (BitVec.ofNat 8 k.val)]
      refine congrArg _ (own_refused ht.toTakes .badField ?_)
      rw [body, indexOf_ofNat k (by decide), inRange_some, windowShut_pattern, hp]
      show inRange (tunedPattern p cut win per items) _ _ = _
      rw [hq]
      rfl
    · rw [← len slot]
      refine congrArg _ (own_refused ht.toTakes .badField ?_)
      rw [body, indexOf_eq_none.2 hs, inRange_none]
  case fields =>
    obtain ⟨ts, hts, hn, hpres, hcut, heq⟩ := tunedPattern_eq_some.1 h
    obtain ⟨rfl, rfl⟩ := Prod.mk.injEq .. ▸ heq
    rw [noRepeats_iff] at hn
    have tower (i : Fin 12) : (Vector.ofFn fun i => (p.towers[i]).map (tuneTower ts i))[i] = (p.towers[i]).map (tuneTower ts i) := by
      simp
    refine ⟨by simp, rfl, rfl, rfl, rfl, rfl, rfl, hcut.1, hcut.2, clampWindow_eq _, clampPersistence_eq _,
      fun i => ⟨?_, fun hno => ?_⟩, fun i t u ht hu => ?_, fun it hit => ?_⟩
    · rw [tower]
      cases p.towers[i] <;> rfl
    · have same : tuneTower ts i = id := by
        funext t
        refine tuneTower_other (fun u hu => ?_) t
        rintro rfl
        obtain ⟨it, hit, hu'⟩ := (mem_tunings hts).2 u hu
        obtain ⟨i, _, _, hi, _, _, _, _, rfl⟩ := tuningOf_eq_some.1 hu'
        exact hno it hit (indexOf_eq_some.1 hi)
      rw [tower, same, Option.map_id, id]
    · rw [tower, ht, Option.map_some, Option.some.injEq] at hu
      rw [← hu]
      exact tuneTower_references ts i t
    · obtain ⟨t, ht, hof⟩ := (mem_tunings hts).1 it hit
      obtain ⟨e, he⟩ := Option.isSome_iff_exists.1 (hpres t ht)
      refine ⟨t.tower, tuneTower ts t.tower e, ?_, by rw [tower, he]; rfl, ?_⟩
      · obtain ⟨i, _, _, hi, _, _, _, _, rfl⟩ := tuningOf_eq_some.1 hof
        exact (indexOf_eq_some.1 hi).symm
      · rw [tuneTower_of_mem hn ht]
        obtain ⟨i, re, pe, _, hr, hp, _, _, rfl⟩ := tuningOf_eq_some.1 hof
        have enf (e : Enforcement) : enforcementCode e < 256 := by cases e <;> decide
        exact ⟨rfl, rfl, ((eq_ofNat_iff (enf re)).2 (enforcementOfCode_eq_some.1 hr)).symm,
          ((eq_ofNat_iff (enf pe)).2 (enforcementOfCode_eq_some.1 hp)).symm⟩
  case refused =>
    have zero (h : Half) : h = 0 ↔ h.toNat < 1 := by rw [← BitVec.toNat_inj]; exact Nat.lt_one_iff.symm
    simp only [zero]
    cases hts : items.mapM tuningOf with
    | none =>
      obtain ⟨it, hit, hnone⟩ := mapM_eq_none.1 hts
      have : tunedPattern p cut win per items = none := by simp only [tunedPattern, hts, bind, Option.bind_none]
      simp only [this, true_iff]
      refine .inr (.inr (.inl ⟨it, hit, ?_⟩))
      rcases tuningOf_eq_none.1 hnone with h | h | h | h | h | h | h
      · exact .inl fun i hi => absurd i.isLt (by omega)
      · exact .inr (.inr (.inr (.inr (.inr (.inl h)))))
      · exact .inr (.inr (.inr (.inr (.inr (.inr h)))))
      · exact .inr (.inl h)
      · exact .inr (.inr (.inl h))
      · exact .inr (.inr (.inr (.inl h)))
      · exact .inr (.inr (.inr (.inr (.inl h))))
    | some ts =>
      have read : tunedPattern p cut win per items = none ↔
          ¬((ts.map Tuning.tower).Nodup ∧ (∀ u ∈ ts, (p.towers[u.tower]).isSome = true) ∧
            10 ≤ cut.toNat ∧ cut.toNat ≤ 90) := by
        simp only [tunedPattern, hts, bind, Option.bind_some, keepIf_eq_none, ← Bool.not_eq_true, Bool.and_eq_true,
          noRepeats_iff, List.all_eq_true, within_iff, and_assoc]
      have towers : (items.map TuneItem.tower).Nodup ↔ (ts.map Tuning.tower).Nodup := by
        rw [tunings_towers hts, List.nodup_map_iff (ofNat_fin_injective (by decide))]
      rw [read, towers]
      have items_ok (it) (hit : it ∈ items) : ∃ t ∈ ts, it.tower.toNat = t.tower.val ∧ ¬ it.ratioTol.toNat < 1 ∧
          ¬ 500 < it.ratioTol.toNat ∧ ¬ it.phaseTol.toNat < 1 ∧ ¬ 900 < it.phaseTol.toNat ∧ ¬ 2 < it.ratioEnf.toNat ∧
          ¬ 2 < it.phaseEnf.toNat := by
        obtain ⟨t, ht, hof⟩ := (mem_tunings hts).1 it hit
        obtain ⟨i, re, pe, hi, hr, hp, hrt, hpt, rfl⟩ := tuningOf_eq_some.1 hof
        have hr' := enforcementOfCode_eq_some.1 hr
        have hp' := enforcementOfCode_eq_some.1 hp
        have enf (e : Enforcement) : enforcementCode e ≤ 2 := by cases e <;> decide
        have hre := enf re
        have hpe := enf pe
        refine ⟨_, ht, indexOf_eq_some.1 hi, ?_⟩
        omega
      constructor
      · intro h
        by_cases hn : (ts.map Tuning.tower).Nodup
        · by_cases hp : ∀ u ∈ ts, (p.towers[u.tower]).isSome = true
          · have : cut.toNat < 10 ∨ 90 < cut.toNat := by
              by_contra hc
              exact h ⟨hn, hp, by omega, by omega⟩
            rcases this with h' | h'
            · exact .inl h'
            · exact .inr (.inl h')
          · push Not at hp
            obtain ⟨u, hu, hnone⟩ := hp
            obtain ⟨it, hit, hof⟩ := (mem_tunings hts).2 u hu
            refine .inr (.inr (.inl ⟨it, hit, .inl fun i hi => ?_⟩))
            obtain ⟨i', _, _, hi', _, _, _, _, rfl⟩ := tuningOf_eq_some.1 hof
            have : i = i' := Fin.ext (hi.trans (indexOf_eq_some.1 hi'))
            rw [this]
            simpa using hnone
        · exact .inr (.inr (.inr hn))
      · rintro (h | h | ⟨it, hit, h⟩ | h) ⟨hn, hp, hc⟩
        · omega
        · omega
        · obtain ⟨t, ht, htow, h1, h2, h3, h4, h5, h6⟩ := items_ok it hit
          rcases h with h | h | h | h | h | h | h
          · have := hp t ht
            rw [h t.tower htow.symm] at this
            cases this
          · exact h1 h
          · exact h2 h
          · exact h3 h
          · exact h4 h
          · exact h5 h
          · exact h6 h
        · exact h hn

end Sys2Proof.Proofs
end

section
/-! PROOFS. The other writes of the configuration (O17, O18, O21 to O23): the fields each frame gives, and what is stored of
them. -/

namespace Sys2Proof.Machine

/-! ## A request of the site port that reaches its own body -/

section
variable {s : State} {tag : Byte} {n : Nat} {body : State → Answer}

theorem site_refused (h : SiteTakes s) (st : Status)
    (hb : body (windowShut .site n s) = whileUnsaved (windowShut .site n s) (refuse st (windowShut .site n s))) :
    request .site tag n (fun t => fromSite .site t (body t)) s =
      answered .site n (shortFrame (statusCode st) tag) id s :=
  request_refused h.ended .site tag n _ st (hb.trans (whileUnsaved_of_idle (by exact h.idle) _))

theorem site_taken (h : SiteTakes s) (st : Status) {effect : State → State}
    (hb : body (windowShut .site n s) =
      whileUnsaved (windowShut .site n s) (taken st (effect (windowShut .site n s)))) :
    request .site tag n (fun t => fromSite .site t (body t)) s =
      answered .site n (shortFrame (statusCode st) tag) effect s :=
  request_taken h.ended .site tag n _ st effect (hb.trans (whileUnsaved_of_idle (by exact h.idle) _))

end

theorem whileQuiet_of_quiet {s : State} (h : siteLive s = false) (a : Answer) : whileQuiet s a = a := by
  simp [whileQuiet, h]

theorem whileQuiet_of_live {s : State} (h : siteLive s = true) (a : Answer) : whileQuiet s a = refuse .siteLive s := by
  simp [whileQuiet, h]

/-- A site is live while the engine is not IDLE, or a present service is on, near or on its way to the air (R3). -/
theorem siteLive_iff (s : State) :
    siteLive s = true ↔
      s.job ≠ none ∨ ∃ x, (x = .a ∨ s.twoServices = true) ∧
        ((s.svc x).state = .verifying ∨ (s.svc x).state = .onAir ∨ (s.svc x).state = .changing ∨
          (s.svc x).state = .standby) := by
  have live (x : Svc) : (match (s.svc x).state with
      | .verifying | .onAir | .changing | .standby => true
      | .undetermined | .held => false) = true ↔
      (s.svc x).state = .verifying ∨ (s.svc x).state = .onAir ∨ (s.svc x).state = .changing ∨
        (s.svc x).state = .standby := by
    cases (s.svc x).state <;> simp
  have here (x : Svc) : x ∈ presentSvcs s ↔ x = .a ∨ s.twoServices = true := by
    unfold presentSvcs
    cases s.twoServices <;> cases x <;> simp
  rw [siteLive, Bool.or_eq_true, Option.isSome_iff_ne_none, List.any_eq_true]
  exact or_congr Iff.rfl (exists_congr fun x => and_congr (here x) (live x))

/-! ## Rows and routes -/

theorem monthOf_eq_some (m : Fin 12) : monthOf (BitVec.ofNat 8 (m.val + 1)) = some m := by
  revert m
  decide

theorem monthOf_eq_none {b : Byte} (h : b = 0 ∨ 13 ≤ b.toNat) : monthOf b = none := by
  revert b
  decide

theorem kindOf_eq_some {b : Byte} {n : Fin 32} (h : b.toNat = n.val + 1) : kindOf b = some n := by
  have hn := n.isLt
  unfold kindOf
  rw [if_neg (by omega), indexOf_eq_some]
  rw [BitVec.toNat_sub]
  show (2 ^ 8 - 1 + b.toNat) % 2 ^ 8 = n.val
  omega

theorem kindOf_eq_none {b : Byte} (h : b = 0 ∨ 32 < b.toNat) : kindOf b = none := by
  revert b
  decide

theorem portSetOfCode_eq_some {b : Byte} {p : PortSet} (h : b.toNat = portSetCode p) : portSetOfCode b = some p := by
  obtain ⟨x, y, z⟩ := p
  cases x <;> cases y <;> cases z <;> revert b <;> decide

theorem length_writeScheduleRow (port : PortId) (tag svc month : Byte) (entries : List (Half × Byte)) :
    (requestFrame (.writeScheduleRow port tag svc month entries)).length = 6 + 3 * entries.length := by
  simp only [requestFrame, frameOf, List.length_cons, length_rowEntryBytes]
  omega

/-! ## Switch points -/

/-- The line rule of a write is the line rule of the map it leaves (R2, R3). -/
theorem lineRuleKept_of_distinct {points : Vector (Option PointRec) 32} {i : Fin 32} {new : Option PointRec}
    (h : linesDistinct (points.set i new)) : lineRuleKept points i new = true := by
  cases new with
  | none => rfl
  | some r =>
    obtain ⟨hself, hpair⟩ := h
    have here : (points.set i (some r))[i] = some r := by simp
    simp only [lineRuleKept, Bool.and_eq_true, noRepeats_iff, nodup_recLines_iff, List.all_eq_true, Bool.not_eq_true',
      ← Bool.not_eq_true, List.contains_iff_mem, mem_mapLines]
    refine ⟨hself i r here, fun l hl => ?_⟩
    rintro ⟨j, q, hj, hlq⟩
    rcases eq_or_ne i j with rfl | hij
    · simp at hj
    · have hv : i.val ≠ j.val := fun e => hij (Fin.ext e)
      have hq : (points.set i (some r))[j] = some q := by
        simpa [Vector.getElem_set_ne, hv] using hj
      exact hpair i j r q hij here hq l hl hlq

theorem lineOf_eq_some {e n : Byte} {l : Line} : lineOf e n = some l ↔ e.toNat = l.exp.val ∧ n.toNat = l.line.val := by
  rw [← indexOf_eq_some, ← indexOf_eq_some]
  unfold lineOf
  obtain ⟨x, y⟩ := l
  rcases indexOf 8 e with _ | x <;> rcases indexOf 16 n with _ | y <;> simp

theorem lineOf_eq_none {e n : Byte} : lineOf e n = none ↔ 7 < e.toNat ∨ 15 < n.toNat := by
  have h8 : 7 < e.toNat ↔ indexOf 8 e = none := by rw [indexOf_eq_none]; omega
  have h16 : 15 < n.toNat ↔ indexOf 16 n = none := by rw [indexOf_eq_none]; omega
  rw [h8, h16]
  unfold lineOf
  rcases indexOf 8 e with _ | x <;> rcases indexOf 16 n with _ | y <;> simp

theorem pointOfFrame_eq_none {f : PointFrame} :
    pointOfFrame f = none ↔ lineOf f.driveExp f.driveLine = none ∨ lineOf f.sense1Exp f.sense1Line = none ∨
      lineOf f.sense2Exp f.sense2Line = none ∨ maskOfCode f.hot = none ∨ indexOf 4 f.stage = none := by
  unfold pointOfFrame
  rcases lineOf f.driveExp f.driveLine with _ | drive
  · simp
  rcases lineOf f.sense1Exp f.sense1Line with _ | sense1
  · simp
  rcases lineOf f.sense2Exp f.sense2Line with _ | sense2
  · simp
  rcases maskOfCode f.hot with _ | hot
  · simp
  rcases indexOf 4 f.stage with _ | stage
  · simp
  simp

/-! ## Interlocks -/

theorem flagOfCode_eq_some {b : Byte} {c : Bool} : flagOfCode b = some c ↔ b = if c then 1 else 0 := by
  cases c <;> revert b <;> decide

theorem flagOfCode_eq_none {b : Byte} : flagOfCode b = none ↔ 1 < b.toNat := by
  revert b
  decide

theorem interlockOfFrame_of_absent {f : InterlockFrame} (h : f.present = 0) : interlockOfFrame f = some none := by
  unfold interlockOfFrame
  rw [h]
  rfl

/-- The settings of a present interlock's frame. -/
theorem interlockOfFrame_of_present {f : InterlockFrame} (h : f.present = 1) :
    interlockOfFrame f = do
      let mask ← maskOfCode f.mask
      let motion ← flagOfCode f.motionInhibit
      let latched ← flagOfCode f.clearing
      let high ← flagOfCode f.active
      return some { mask := mask, motionInhibit := motion, latched := latched, activeHigh := high } := by
  unfold interlockOfFrame
  rw [h]
  rfl

theorem interlockOfFrame_of_bad {f : InterlockFrame} (h : 1 < f.present.toNat) : interlockOfFrame f = none := by
  unfold interlockOfFrame
  rw [flagOfCode_eq_none.2 h]
  rfl

theorem interlockOfFrame_present_eq_none {f : InterlockFrame} (h : f.present = 1) :
    interlockOfFrame f = none ↔ f.mask = 0 ∨ 3 < f.mask.toNat ∨ 1 < f.motionInhibit.toNat ∨ 1 < f.clearing.toNat ∨
      1 < f.active.toNat := by
  have mask : f.mask = 0 ∨ 3 < f.mask.toNat ↔ maskOfCode f.mask = none := by
    rw [maskOfCode_eq_none, ← BitVec.toNat_inj]
    rfl
  rw [← or_assoc, mask, ← flagOfCode_eq_none, ← flagOfCode_eq_none, ← flagOfCode_eq_none, interlockOfFrame_of_present h]
  rcases maskOfCode f.mask with _ | m
  · simp
  rcases flagOfCode f.motionInhibit with _ | a
  · simp
  rcases flagOfCode f.clearing with _ | b
  · simp
  rcases flagOfCode f.active with _ | c
  · simp
  simp

theorem present_cases (b : Byte) : b = 0 ∨ b = 1 ∨ 1 < b.toNat := by
  revert b
  decide

/-- An interlock's state set, its event posted, and the change handed on; nothing where the state stands (R21, R22). -/
theorem moveInterlock_eq (k : Fin 4) (m : Mask) (st : InterlockState) (s : State) :
    moveInterlock k m st s =
      if st = (s.interlock k).state then s
      else handOn k (s.interlock k).state m
        (if st = .opened then post (.interlockOpened k (s.interlock k).state)
            (s.setInterlock k { s.interlock k with state := st })
          else if st = .closed then post (.interlockCleared k (s.interlock k).state)
            (s.setInterlock k { s.interlock k with state := st })
          else s.setInterlock k { s.interlock k with state := st }) := by
  unfold moveInterlock
  cases st <;> rfl

@[simp] theorem State.setInterlock_setInterlock (s : State) (k : Fin 4) (v w : Interlock) :
    (s.setInterlock k v).setInterlock k w = s.setInterlock k w := by
  simp only [State.setInterlock, Vector.set_set]

end Sys2Proof.Machine

namespace Sys2Proof.Proofs

open Sys2Proof.Machine

/-- Settles O17: the fields read, then the entry replaced. -/
theorem rowAndRouteWritesReplace : Obligations.RowAndRouteWritesReplace := by
  refine ⟨fun port tag svc x m entries s ht => ?row, fun tag kind ports s h => ⟨fun n p hn hp => ?_, fun hbad => ?_⟩⟩
  case row =>
    have body (n : Nat) (month : Byte) : answerWriteScheduleRow month entries (windowShut port n s) x =
        inRange (monthOf month) (windowShut port n s) fun m =>
          inRange (rowOfEntries entries) (windowShut port n s) fun row =>
            taken .ok ((windowShut port n s).writeCfg ((windowShut port n s).cfg.setRow x m row)) :=
      whileUnsaved_of_idle (by exact ht.idle) _
    refine ⟨fun row hrow heq => ?_, fun hno => ?_, fun month hm => ?_⟩
    · rw [← length_writeScheduleRow port tag svc (BitVec.ofNat 8 (m.val + 1))]
      refine congrArg _ (own_taken ht.toTakes .ok ?_)
      rw [body, monthOf_eq_some, inRange_some, show rowOfEntries entries = some row by rw [heq]; exact rowOfEntries_map row hrow]
      rfl
    · rw [← length_writeScheduleRow port tag svc (BitVec.ofNat 8 (m.val + 1))]
      refine congrArg _ (own_refused ht.toTakes .badField ?_)
      have hnone : rowOfEntries entries = none :=
        Option.eq_none_iff_forall_ne_some.2 fun row hr => hno ⟨row, rowOfEntries_some entries row hr⟩
      rw [body, monthOf_eq_some, inRange_some, hnone, inRange_none]
    · rw [← length_writeScheduleRow port tag svc month]
      refine congrArg _ (own_refused ht.toTakes .badField ?_)
      rw [body, monthOf_eq_none hm, inRange_none]
  · refine congrArg _ (site_taken h .ok ?_)
    rw [answerWriteRoute, kindOf_eq_some hn, inRange_some, portSetOfCode_eq_some hp]
    rfl
  · refine congrArg _ (site_refused h .badField ?_)
    rw [answerWriteRoute]
    cases hk : kindOf kind with
    | none => rfl
    | some n =>
      have hports : 7 < ports.toNat := by
        rcases hbad with hb | hb | hb
        · rw [kindOf_eq_none (.inl hb)] at hk; cases hk
        · rw [kindOf_eq_none (.inr hb)] at hk; cases hk
        · exact hb
      rw [inRange_some, portSetOfCode_eq_none.2 hports, inRange_none]

/-- Settles O18: WRITE_POINT's checks in their order, the live site, and the record a frame gives. -/
theorem writePointInstallsTheRecord : Obligations.WritePointInstallsTheRecord := by
  refine ⟨fun tag i body s h => ⟨fun hq new clamped hop => ⟨fun hd => ?_, fun hd hnd => ?_⟩, fun hq index hne hbad => ?_,
    fun hl index => ?_⟩, siteLive_iff, rfl, fun f => ⟨?_, fun clamped hc => ?_, fun r clamped hr => ?_⟩⟩
  · rw [← statusCode_clampStatus]
    refine congrArg _ (site_taken h (clampStatus clamped) ?_)
    rw [answerWritePoint, whileQuiet_of_quiet (by exact hq), indexOf_ofNat i (by decide), inRange_some, hop, inRange_some]
    exact congrArg _ (if_pos (lineRuleKept_of_distinct hd))
  · refine congrArg _ (site_refused h .lineConflict ?_)
    rw [answerWritePoint, whileQuiet_of_quiet (by exact hq), indexOf_ofNat i (by decide), inRange_some, hop, inRange_some]
    exact congrArg _ (if_neg fun hk => hnd (linesDistinct_set hd hk))
  · refine congrArg _ (site_refused h .badField ?_)
    rw [answerWritePoint, whileQuiet_of_quiet (by exact hq)]
    rcases hbad with hb | hb
    · rw [indexOf_eq_none.2 (by omega), inRange_none]
    · cases indexOf 32 index with
      | none => rfl
      | some k => rw [inRange_some, hb, inRange_none]
  · refine congrArg _ (site_refused h .siteLive ?_)
    rw [answerWritePoint, whileQuiet_of_live (by exact hl)]
  · have hhot : f.hot = 0 ↔ f.hot.toNat = 0 := by rw [← BitVec.toNat_inj]; rfl
    have hstage : 3 < f.stage.toNat ↔ 4 ≤ f.stage.toNat := Iff.rfl
    rw [pointOperand, Option.map_eq_none_iff, pointOfFrame_eq_none, lineOf_eq_none, lineOf_eq_none, lineOf_eq_none,
      maskOfCode_eq_none, indexOf_eq_none, hhot, hstage]
    simp only [or_assoc]
  · obtain ⟨_, _, heq⟩ := Option.map_eq_some_iff.1 hc
    cases heq
  · obtain ⟨q, hq, heq⟩ := Option.map_eq_some_iff.1 hr
    obtain ⟨drive, sense1, sense2, hot, stage, hd, ha, hb, hm, hs, rfl⟩ := pointOfFrame_eq_some.1 hq
    simp only [Prod.mk.injEq, Option.some.injEq] at heq
    obtain ⟨rfl, rfl⟩ := heq
    rw [lineOf_eq_some] at hd ha hb
    refine ⟨hd.1.symm, hd.2.symm, ha.1.symm, ha.2.symm, hb.1.symm, hb.2.symm, (maskOfCode_eq_some.1 hm).symm,
      (indexOf_eq_some.1 hs).symm, ?_, by simp⟩
    simp only [clampTransit, clampTo, Nat.min_comm]

theorem rewriteInterlock_present (k : Fin 4) (c : InterlockSettings) (pin : Bool) (u : State) :
    rewriteInterlock k (some c) pin u =
      let st : InterlockState :=
        if pin = c.activeHigh then .opened
        else if (u.interlock k).state = .latched ∧ c.latched = true then .latched else .closed
      let v : State :=
        { u with
          cfg := { u.cfg with interlocks := u.cfg.interlocks.set k (some c) }
          dirty := true
          interlocks := u.interlocks.set k { state := st, accepted := some pin, debounce := none } }
      if st = (u.interlock k).state then v
      else handOn k (u.interlock k).state c.mask
        (if st = .opened then post (.interlockOpened k (u.interlock k).state) v
          else if st = .closed then post (.interlockCleared k (u.interlock k).state) v else v) := by
  simp only [rewriteInterlock, moveInterlock_eq, State.interlock_setInterlock_same, State.setInterlock_setInterlock,
    rewrittenState, pinOpen, beq_iff_eq]
  generalize (if pin = c.activeHigh then InterlockState.opened
    else if (u.interlock k).state = .latched ∧ c.latched = true then .latched else .closed) = st
  by_cases hsame : st = (u.interlock k).state
  · subst hsame
    simp only [if_true]
    rfl
  · simp only [if_neg hsame]
    rfl

theorem rewriteInterlock_cleared (k : Fin 4) (c : InterlockSettings) (pin : Bool) (u : State)
    (hc : u.interlockRec k = some c) (hst : (u.interlock k).state ≠ .closed) :
    rewriteInterlock k none pin u =
      handOn k (u.interlock k).state c.mask
        (post (.interlockCleared k (u.interlock k).state)
          { u with
            cfg := { u.cfg with interlocks := u.cfg.interlocks.set k none }
            dirty := true
            interlocks := u.interlocks.set k { state := .closed, accepted := none, debounce := none } }) := by
  simp only [rewriteInterlock, hc, moveInterlock_eq, State.interlock_setInterlock_same, State.setInterlock_setInterlock,
    if_neg hst.symm, reduceCtorEq, if_false, if_true]
  rfl

theorem applyClock_none (tb : Timebase) (u : State) :
    applyClock tb none u =
      { u with
        cfg := { u.cfg with timebase := tb }
        dirty := true
        clock :=
          if tb = u.cfg.timebase then u.clock
          else { u.clock with
            active := tb, dividerStart := u.now
            lossDue := if tb = .tickIn then some (u.now + 2000) else none
            lastEdge := none } } := by
  simp only [applyClock, selectTimebase]
  by_cases heq : tb = u.cfg.timebase
  · simp only [if_pos heq]
  · simp only [if_neg heq]
    cases tb <;> rfl

theorem applyClock_some (tb : Timebase) (d : DateTime) (u : State) :
    applyClock tb (some d) u =
      let v : State :=
        { u with
          cfg := { u.cfg with timebase := tb }
          clock :=
            { time := d, isSet := true, dividerStart := u.now
              active := if tb = u.cfg.timebase then u.clock.active else tb
              lossDue :=
                if tb = u.cfg.timebase then u.clock.lossDue
                else if tb = .tickIn then some (u.now + 2000) else none
              lastEdge := if tb = u.cfg.timebase then u.clock.lastEdge else none } }
      { deriveAll (post (.clockSet tb) v) with dirty := true } := by
  simp only [applyClock, selectTimebase, setTime]
  by_cases heq : tb = u.cfg.timebase
  · simp only [if_pos heq]
  · simp only [if_neg heq]
    cases tb <;> rfl

/-- Settles O21: WRITE_INTERLOCK's checks in their order, the settings a frame gives, and the state set. -/
theorem writeInterlockSetsTheState : Obligations.WriteInterlockSetsTheState := by
  refine ⟨fun tag k body pin c s h hq hc => ?_, fun f => ⟨?_, ?_, fun c hc => ?_⟩,
    fun tag k body pin s h => ⟨fun hl index => ?_, fun hq index hbad => ?_, fun hq habs => ⟨fun hst => ?_, fun c hc hst => ?_⟩⟩⟩
  · refine congrArg _ (site_taken h .ok ?_)
    rw [answerWriteInterlock, whileQuiet_of_quiet (by exact hq), indexOf_ofNat k (by decide), inRange_some, hc, inRange_some]
    refine congrArg _ (congrArg (fun t => takenThen .ok t) ?_)
    exact rewriteInterlock_present k c pin _
  · rcases present_cases f.present with hp | hp | hp
    · rw [interlockOfFrame_of_absent hp, hp]
      simp
    · rw [interlockOfFrame_present_eq_none hp, hp]
      simp
    · rw [interlockOfFrame_of_bad hp]
      simp [hp]
  · rcases present_cases f.present with hp | hp | hp
    · simp [interlockOfFrame_of_absent hp, hp]
    · rw [interlockOfFrame_of_present hp, hp]
      simp [bind, Option.bind_eq_some_iff]
    · rw [interlockOfFrame_of_bad hp]
      have : f.present ≠ 0 := by rintro h0; rw [h0] at hp; exact absurd hp (by decide)
      simpa using this
  · rcases present_cases f.present with hp | hp | hp
    · rw [interlockOfFrame_of_absent hp] at hc; cases hc
    · rw [interlockOfFrame_of_present hp] at hc
      simp only [bind, Option.bind_eq_some_iff, pure, Option.some.injEq, maskOfCode_eq_some, flagOfCode_eq_some] at hc
      obtain ⟨m, hm, a, ha, b, hb, d, hd, rfl⟩ := hc
      have flag (v : Bool) : v = true ↔ (if v then (1 : Byte) else 0) = 1 := by cases v <;> decide
      exact ⟨hp, hm.symm, by rw [ha]; exact flag a, by rw [hb]; exact flag b, by rw [hd]; exact flag d⟩
    · rw [interlockOfFrame_of_bad hp] at hc; cases hc
  · refine congrArg _ (site_refused h .siteLive ?_)
    rw [answerWriteInterlock, whileQuiet_of_live (by exact hl)]
  · refine congrArg _ (site_refused h .badField ?_)
    rw [answerWriteInterlock, whileQuiet_of_quiet (by exact hq)]
    cases hk : indexOf 4 index with
    | none => rfl
    | some k =>
      have hidx := indexOf_eq_some.1 hk
      have hlt := k.isLt
      have hnone : interlockOfFrame body = none := by
        rcases hbad with hb | hb | ⟨hp, hb⟩
        · omega
        · exact interlockOfFrame_of_bad hb
        · exact (interlockOfFrame_present_eq_none hp).2 hb
      rw [inRange_some, hnone, inRange_none]
  · refine congrArg _ (site_taken h .ok ?_)
    rw [answerWriteInterlock, whileQuiet_of_quiet (by exact hq), indexOf_ofNat k (by decide), inRange_some,
      interlockOfFrame_of_absent habs, inRange_some]
    refine congrArg _ (congrArg (fun t => takenThen .ok t) ?_)
    simp only [rewriteInterlock]
    split
    · next c hc =>
      rcases hst with hn | hst
      · rw [windowShut_interlockRec, hn] at hc; cases hc
      · rw [moveInterlock_eq, State.interlock_setInterlock_same]
        refine (if_pos ?_).trans rfl
        exact hst.symm
    · rfl
  · refine congrArg _ (site_taken h .ok ?_)
    rw [answerWriteInterlock, whileQuiet_of_quiet (by exact hq), indexOf_ofNat k (by decide), inRange_some,
      interlockOfFrame_of_absent habs, inRange_some]
    refine congrArg _ (congrArg (fun t => takenThen .ok t) ?_)
    exact rewriteInterlock_cleared k c pin _ hc hst

/-- Settles O22: the settings a frame gives, stored, and the receiver's restart at a new baud rate. -/
theorem writeServiceSettingsReplacesTheRecord : Obligations.WriteServiceSettingsReplacesTheRecord := by
  intro port tag svc x f s ht
  have body (n : Nat) : answerWriteServiceSettings f (windowShut port n s) x =
      inRange (settingsOfFrame f) (windowShut port n s) fun q =>
        taken (clampStatus q.2) (storeSettings x q.1 (windowShut port n s)) := whileUnsaved_of_idle (by exact ht.idle) _
  refine ⟨fun m mc b settle mute stale hm hmc hb hmin hsettle hmute hstale => ?_, fun hbad => ?_⟩
  · have clamped : (if settle = f.settle.toNat ∧ mute = f.muteTimeout.toNat ∧ stale = f.stale.toNat then (0 : Byte) else 2) =
        statusCode (clampStatus (settle != f.settle.toNat || mute != f.muteTimeout.toNat || stale != f.stale.toNat)) := by
      rw [statusCode_clampStatus]
      by_cases h1 : settle = f.settle.toNat <;> by_cases h2 : mute = f.muteTimeout.toNat <;>
        by_cases h3 : stale = f.stale.toNat <;> simp [h1, h2, h3]
    have fields : settingsOfFrame f = some
        ({ initialMode := m, muteConfirm := mc, settle := settle, muteTimeout := mute, stale := stale, baud := b,
           minRef := f.minRef.toNat },
         settle != f.settle.toNat || mute != f.muteTimeout.toNat || stale != f.stale.toNat) := by
      refine settingsOfFrame_eq_some.2 ⟨m, mc, b, hm, hmc, hb, ⟨hmin, by have := f.minRef.isLt; omega⟩, ?_⟩
      simp only [clampTo, Nat.min_comm _ f.settle.toNat, Nat.min_comm _ f.muteTimeout.toNat, Nat.min_comm _ f.stale.toNat,
        ← hsettle, ← hmute, Nat.mod_one, Nat.sub_zero, ← hstale]
    rw [clamped]
    refine congrArg _ (own_taken ht.toTakes _ ?_)
    rw [body, fields, inRange_some]
    refine congrArg (taken _) ?_
    simp only [storeSettings]
    split
    · next h => exact (congrArg (fun r => ({ (windowShut port _ s).writeCfg _ with receivers := r } : State))
        (if_pos (by exact h))).symm
    · next h => exact (congrArg (fun r => ({ (windowShut port _ s).writeCfg _ with receivers := r } : State))
        (if_neg (by exact h))).symm
  · refine congrArg _ (own_refused ht.toTakes .badField ?_)
    have hnone : settingsOfFrame f = none := by
      refine Option.eq_none_iff_forall_ne_some.2 fun q hq => ?_
      obtain ⟨m, mc, b, hm, hmc, hb, ⟨hmin, _⟩, _⟩ := settingsOfFrame_eq_some.1 hq
      have mode : ∀ c : Byte, 1 < c.toNat → modeOfCode c = none := by decide
      have conf : ∀ c : Byte, 1 < c.toNat → muteConfirmOfCode c = none := by decide
      have baud : ∀ c : Byte, 2 < c.toNat → baudOfCode c = none := by decide
      rcases hbad with h | h | h | h
      · rw [mode _ h] at hm; cases hm
      · rw [conf _ h] at hmc; cases hmc
      · rw [baud _ h] at hb; cases hb
      · rw [h] at hmin; exact absurd hmin (by decide)
    rw [body, hnone, inRange_none]

/-- Settles O23: SET_CLOCK's fields, its steps, and the derivation of both services. -/
theorem setClockSelectsAndSets : Obligations.SetClockSelectsAndSets := by
  refine ⟨fun tag tb s h => ⟨?_, fun d hd => ?_, fun d hd => ?_, fun timebase hbad => ⟨?_, fun d => ?_⟩⟩,
    fun s t u v due asks hdue hasks ht hu hv => ?_⟩
  · have base : clockOperand (BitVec.ofNat 8 (timebaseCode tb)) none = some (tb, none) := by cases tb <;> rfl
    refine congrArg _ (site_taken h .ok ?_)
    rw [answerSetClock, base, inRange_some]
    refine congrArg _ (congrArg (fun t => takenThen .ok t) ?_)
    exact applyClock_none tb _
  · have base : clockOperand (BitVec.ofNat 8 (timebaseCode tb)) (some d) = some (tb, some (dateOfFrame d)) := by
      have keep : keepIf (dateValid (dateOfFrame d)) (tb, some (dateOfFrame d)) = some (tb, some (dateOfFrame d)) := by
        rw [hd]; rfl
      cases tb <;> exact keep
    refine congrArg _ (site_taken h .ok ?_)
    rw [answerSetClock, base, inRange_some]
    refine congrArg _ (congrArg (fun t => takenThen .ok t) ?_)
    exact applyClock_some tb _ _
  · have base : clockOperand (BitVec.ofNat 8 (timebaseCode tb)) (some d) = none := by
      have keep : keepIf (dateValid (dateOfFrame d)) (tb, some (dateOfFrame d)) = none := by
        rw [hd]; rfl
      cases tb <;> exact keep
    refine congrArg _ (site_refused h .badField ?_)
    rw [answerSetClock, base, inRange_none]
  · have none_of : timebaseOfCode timebase = none := by
      revert timebase
      decide
    refine congrArg _ (site_refused h .badField ?_)
    rw [answerSetClock, clockOperand, none_of]
    rfl
  · have none_of : timebaseOfCode timebase = none := by
      revert timebase
      decide
    refine congrArg _ (site_refused h .badField ?_)
    rw [answerSetClock, clockOperand, none_of]
    rfl
  · have posted (y : Svc) (w : State) : postFired y ((due y).map fun k => (k, .derived)) w = (match due y with
        | some k => post (.scheduleFired y k .derived) w
        | none => w) := by
      cases due y <;> rfl
    have stored (y : Svc) (w : State) : storeFired y ((due y).map fun k => (k, .derived)) w = (match due y with
        | some k => storeRequest y (asks k) w
        | none => w) := by
      cases hy : due y with
      | none => rfl
      | some k => exact (congrArg (fun r => storeRequest y r w) (hasks k)).symm
    rw [deriveAll, derived_eq (hdue .a), derived_eq (hdue .b), handOver, posted, posted, stored, stored, hv, hu, ht] <;> rfl

end Sys2Proof.Proofs
end

section
/-! PROOFS. The services (O36 to O38): what computing the outputs again does, entry to HELD and to VERIFYING, the disturbed
points, and the parts of the entry check. -/

namespace Sys2Proof.Machine

/-! ## Outputs -/

theorem anyCause_eq_false {c : Causes} : anyCause c = false ↔ c = ⟨false, false, false, false⟩ := by
  obtain ⟨a, b, c, d⟩ := c
  revert a b c d
  decide

theorem edgesTo_rise {v : Service} (cut : Bool) (h : v.permit = false) :
    edgesTo v true cut = if v.cut = cut then [.permit true] else [.cut cut, .permit true] := by
  by_cases hc : v.cut = cut <;> simp [edgesTo, h, hc]

theorem edgesTo_fall {v : Service} (cut : Bool) (h : v.permit = true) :
    edgesTo v false cut = if v.cut = cut then [.permit false] else [.permit false, .cut cut] := by
  by_cases hc : v.cut = cut <;> simp [edgesTo, h, hc]

theorem edgesTo_level {v : Service} {permit : Bool} (cut : Bool) (h : v.permit = permit) :
    edgesTo v permit cut = if v.cut = cut then v.edges else [.cut cut] := by
  simp only [edgesTo, h]
  by_cases hc : v.cut = cut <;> simp [hc]

theorem permitLevel_iff {s : State} {x : Svc} :
    permitLevel s x = true ↔ ((s.svc x).state = .verifying ∨ (s.svc x).state = .onAir) ∧
      ∀ k c, s.interlockRec k = some c → effHas s c.mask x = true → (s.interlock k).state = .closed := by
  rw [← interlockHolds_eq_false, ← onOrNearAir_iff]
  simp [permitLevel]

/-- A service whose permit stands low has every output down (R52, R53, R55). -/
theorem outputs_of_low {s : State} {x : Svc} {v : Service} (hv : s.svc x = v) (h : onOrNearAir v.state = false) :
    outputs x s =
      (let t := s.setSvc x { v with permit := false, ceiling := 0, cut := false, edges := edgesTo v false false }
       if 0 = v.ceiling then t else post (.ceilingChanged x v.inForce 0) t) := by
  subst hv
  have low : permitLevel s x = false := by simp [permitLevel, h]
  rw [outputs_eq]
  simp only [low, ceilingUnder_false, cutLevel_false]

/-- An event is posted the same whatever the service records and the tables hold. -/
theorem post_svcs_tables (e : Event) (s : State) (svcs : Per Service) (tables : Per ConfTable) :
    post e { s with svcs := svcs, tables := tables } = { post e s with svcs := svcs, tables := tables } := by
  unfold post
  split <;> rfl

/-! ## Entry to HELD -/

/-- Everything entry to HELD does: the record, the table, and the one or two events (R50). -/
theorem toHeld_eq (x : Svc) (cause : HoldCause) (s : State) :
    toHeld x cause s =
      { (if (s.svc x).ceiling = 0 then post (.serviceHeld x (s.svc x).inForce cause) s
         else post (.ceilingChanged x (s.svc x).inForce 0) (post (.serviceHeld x (s.svc x).inForce cause) s)) with
        svcs := s.svcs.set x
          { s.svc x with
            state := .held, hold := some cause, causes := ⟨false, false, false, false⟩, permit := false, cut := false
            ceiling := 0, edges := edgesTo (s.svc x) false false }
        tables := s.tables.set x { s.table x with window := none } } := by
  have held : (post (.serviceHeld x (s.svc x).inForce cause) (closeWindow x
      (s.setSvc x { s.svc x with state := .held, hold := some cause, causes := Causes.empty }))) =
      { post (.serviceHeld x (s.svc x).inForce cause) s with
        svcs := s.svcs.set x { s.svc x with state := .held, hold := some cause, causes := Causes.empty }
        tables := s.tables.set x { s.table x with window := none } } := post_svcs_tables _ s _ _
  simp only [toHeld]
  rw [held]
  refine (outputs_of_low (v := { s.svc x with state := .held, hold := some cause, causes := Causes.empty })
    (by exact Per.get_set_same _ _ _) rfl).trans ?_
  simp only [State.setSvc, Per.set_set]
  by_cases hc : (s.svc x).ceiling = 0
  · simp only [if_pos hc.symm, if_pos hc]
    rfl
  · simp only [if_neg fun e => hc (Eq.symm e), if_neg hc]
    exact post_svcs_tables _ _ _ _

theorem toHeld_svc_same (x : Svc) (cause : HoldCause) (s : State) :
    (toHeld x cause s).svc x =
      { s.svc x with
        state := .held, hold := some cause, causes := ⟨false, false, false, false⟩, permit := false, cut := false
        ceiling := 0, edges := edgesTo (s.svc x) false false } := by
  rw [toHeld_eq]
  exact Per.get_set_same _ _ _

/-! ## A disturbed point -/

/-- Whether a disturbed point takes a service to HELD (R58). -/
def disturbs (s : State) (i : Fin 32) (x : Svc) : Bool :=
  present s x && onOrNearAir (s.svc x).state &&
    ((match inForcePattern s x with
      | some p => p.map[i].isSome
      | none => false) || hotHas s i x)

theorem disturbService_eq (i : Fin 32) (x : Svc) (s : State) :
    disturbService i x s = if disturbs s i x = true then toHeld x .pointDisturbed s else s := rfl

theorem disturbs_iff {s : State} {i : Fin 32} {x : Svc} :
    disturbs s i x = true ↔ present s x = true ∧ ((s.svc x).state = .verifying ∨ (s.svc x).state = .onAir) ∧
      ((∃ p, inForcePattern s x = some p ∧ (p.map[i]).isSome = true) ∨ hotHas s i x = true) := by
  simp only [disturbs, Bool.and_eq_true, Bool.or_eq_true, onOrNearAir_iff, and_assoc]
  cases inForcePattern s x <;> simp

/-- What a disturbed point does to a service depends on the site and on its own record alone. -/
theorem disturbs_of_site {s t : State} (i : Fin 32) {x : Svc} (site : KeepsSite s t) (hx : t.svc x = s.svc x) :
    disturbs t i x = disturbs s i x := by
  have hp : inForcePattern t x = inForcePattern s x := by
    simp only [inForcePattern, hx, funext fun k => show t.pattern x k = s.pattern x k by simp only [State.pattern, site.cfg]]
  simp only [disturbs, hp, present, hotHas, effHas, State.pointRec, hx, site.cfg, site.twoServices]

theorem agrees_iff {p : PointState} :
    agrees p = true ↔ p.commanded = some .one ∧ p.sensed = .at1 ∨ p.commanded = some .two ∧ p.sensed = .at2 := by
  obtain ⟨c, d, u⟩ := p
  rcases c with _ | c
  · simp [agrees]
  · cases c <;> cases d <;> simp [agrees, sensedAt]

/-! ## The entry check -/

theorem mapInPlace_iff {s : State} {p : Pattern} :
    mapInPlace s p = true ↔ ∀ (i : Fin 32) pos, p.map[i] = some pos →
      (s.pointRec i).isSome = true ∧ (s.point i).commanded = some pos ∧ sensedAt (s.point i).sensed pos = true := by
  simp only [mapInPlace, List.all_eq_true, List.mem_finRange, true_implies]
  refine forall_congr' fun i => ?_
  cases p.map[i] with
  | none => simp
  | some pos =>
    simp only [commandedInPlace, sensedInPlace, Bool.and_eq_true, beq_iff_eq, Option.some.injEq, forall_eq']
    tauto

theorem hotPointBars_eq_false {s : State} {x : Svc} {i : Fin 32} :
    hotPointBars s x i = false ↔ ∀ r, s.pointRec i = some r → effHas s r.hot x = true →
      ((s.point i).sensed = .at1 ∨ (s.point i).sensed = .at2) ∧ (s.exp r.drive.exp).health ≠ .faulted := by
  have settled (d : Sensed) : unsettledSensed d = false ↔ d = .at1 ∨ d = .at2 := by cases d <;> simp [unsettledSensed]
  unfold hotPointBars
  cases s.pointRec i with
  | none => simp
  | some r => simp [← settled]

theorem r4Pending_eq_false {s : State} :
    r4Pending s = false ↔ (∀ q ∈ s.bus.queue, claimR4 q = false) ∧ ∀ c, s.bus.current = some c → txnR4 c.txn = false := by
  unfold r4Pending
  cases s.bus.current <;> simp

theorem pointsPass_iff {s : State} {x : Svc} {p : Pattern} :
    pointsPass s x p = true ↔
      (∀ (i : Fin 32) pos, p.map[i] = some pos →
        (s.pointRec i).isSome = true ∧ (s.point i).commanded = some pos ∧ sensedAt (s.point i).sensed pos = true) ∧
      (∀ i r, s.pointRec i = some r → effHas s r.hot x = true →
        ((s.point i).sensed = .at1 ∨ (s.point i).sensed = .at2) ∧ (s.exp r.drive.exp).health ≠ .faulted) ∧
      (∀ q ∈ s.bus.queue, claimR4 q = false) ∧ ∀ c, s.bus.current = some c → txnR4 c.txn = false := by
  simp only [pointsPass, Bool.and_eq_true, Bool.not_eq_true', List.all_eq_true, List.mem_finRange, true_implies,
    mapInPlace_iff, hotPointBars_eq_false, r4Pending_eq_false, and_assoc]

theorem entryCheck_of_none {s : State} {x : Svc} (h : inForcePattern s x = none) : entryCheck s x = .noPattern := by
  simp [entryCheck, h]

theorem entryCheck_of_some {s : State} {x : Svc} {p : Pattern} (h : inForcePattern s x = some p) :
    entryCheck s x =
      if pointsPass s x p = true then (if interlockHolds s x = true then .interlocks else .pass) else .points := by
  simp [entryCheck, h]

/-- An entry check passes only with every interlock of the effective mask CLOSED (R46). -/
theorem interlockHolds_of_pass {s : State} {x : Svc} (h : entryCheck s x = .pass) : interlockHolds s x = false := by
  cases hp : inForcePattern s x with
  | none => rw [entryCheck_of_none hp] at h; cases h
  | some p =>
    rw [entryCheck_of_some hp] at h
    by_contra hi
    rw [Bool.not_eq_false] at hi
    rw [if_pos hi] at h
    split at h <;> cases h

/-! ## Entry to VERIFYING -/

/-- Everything entry to VERIFYING does, where the entry check passes (R46, R115, R128). -/
theorem enterVerifying_eq {s : State} {x : Svc} {p : Pattern} (hp : inForcePattern s x = some p)
    (hi : interlockHolds s x = false) :
    enterVerifying x s =
      (let t : State :=
        { s with
          svcs := s.svcs.set x
            { s.svc x with
              state := .verifying, hold := none, causes := ⟨true, false, false, false⟩, permit := true
              ceiling := p.power * p.cutback / 100, cut := decide (p.power * p.cutback / 100 < p.power)
              edges := edgesTo (s.svc x) true (decide (p.power * p.cutback / 100 < p.power)) }
          tables := s.tables.set x (freshTable s x p) }
       if p.power * p.cutback / 100 = (s.svc x).ceiling then t
       else post (.ceilingChanged x (s.svc x).inForce (p.power * p.cutback / 100)) t) := by
  simp only [enterVerifying, hp]
  generalize hu : (s.setSvc x
    { s.svc x with state := .verifying, hold := none, causes := { Causes.empty with verify := true } }).setTable x
      (freshTable s x p) = u
  have hv : u.svc x = { s.svc x with state := .verifying, hold := none, causes := { Causes.empty with verify := true } } := by
    subst hu; simp
  have hpu : inForcePattern u x = some p := by
    rw [← hp, inForcePattern, inForcePattern, hv]
    subst hu
    rfl
  have hpermit : permitLevel u x = true := by
    have : interlockHolds u x = interlockHolds s x := by subst hu; rfl
    simp [permitLevel, this, hi, hv, onOrNearAir]
  have hceiling : ceilingUnder u x true = p.power * p.cutback / 100 := by
    simp [ceilingUnder, hpu, hv, anyCause, cutbackLevel]
  have hcut : cutLevel u x true (p.power * p.cutback / 100) = decide (p.power * p.cutback / 100 < p.power) := by
    simp [cutLevel, hpu]
  rw [outputs_eq]
  simp only [hpermit, hceiling, hcut, hv]
  subst hu
  simp only [State.setSvc, State.setTable, Per.set_set]
  rfl

end Sys2Proof.Machine

namespace Sys2Proof.Proofs

open Sys2Proof.Machine

/-- Settles O36: the new levels are those `outputs_eq` names, and the edges are read off by how the permit moves. -/
theorem outputsFollowTheState : Obligations.OutputsFollowTheState := by
  intro x s
  refine ⟨permitLevel s x, ceilingUnder s x (permitLevel s x),
    cutLevel s x (permitLevel s x) (ceilingUnder s x (permitLevel s x)), _, permitLevel_iff, fun h => ?_,
    fun p h hp => ?_, fun h hv => ?_, fun h hv => ?_, fun h => edgesTo_level _ h, outputs_eq x s⟩
  · simp [h]
  · have hc : ceilingUnder s x true = if anyCause (s.svc x).causes = true then p.power * p.cutback / 100 else p.power := by
      simp [ceilingUnder, hp, cutbackLevel]
    rw [h, hc, ne_eq, ← anyCause_eq_false]
    exact ⟨fun ha => by simp [ha], fun ha => by simp [ha], by simp [cutLevel, hp]⟩
  · rw [h]; exact edgesTo_rise _ hv
  · rw [h]; exact edgesTo_fall _ hv

/-- Settles O37: what `toHeld_eq` says, field by field, and the two services judged one after the other. -/
theorem heldWithdrawsThePermit : Obligations.HeldWithdrawsThePermit := by
  refine ⟨fun x cause s => ⟨toHeld_svc_same x cause s, toHeld_svc_other cause s (by cases x <;> decide), ?_, ?_, ?_⟩,
    fun i s reached hr => ?_⟩
  · rw [toHeld_eq]
  · rw [toHeld_eq]
  · rw [toHeld_eq]
    split <;> simp
  · have at' (x : Svc) : reached x = disturbs s i x := Bool.eq_iff_iff.2 ((hr x).trans disturbs_iff.symm)
    generalize ht : post (.pointDisturbed i (s.point i).sensed) s = t
    generalize hu : disturbService i .a t = u
    have siteT : KeepsSite s t := ht ▸ keepsSite_post _ _
    have aT : disturbs t i .a = reached .a := by rw [at', disturbs_of_site i siteT (by simp [← ht])]
    have u_eq : u = if reached .a = true then toHeld .a .pointDisturbed t else t := by rw [← hu, disturbService_eq, aT]
    have bU : u.svc .b = s.svc .b := by
      rw [u_eq]
      split
      · rw [toHeld_svc_other _ _ (by decide)]; simp [← ht]
      · simp [← ht]
    have siteU : KeepsSite s u := by
      rw [u_eq]
      split
      · exact siteT.trans (keepsSite_toHeld _ _ _)
      · exact siteT
    have whole : disturb i s = if reached .b = true then toHeld .b .pointDisturbed u else u := by
      rw [at', ← disturbs_of_site i siteU bU, ← disturbService_eq, disturb, ht, hu]
    refine ⟨fun t' u' ht' hu' => ?_, fun x => ⟨fun h => ?_, fun h => ?_⟩, fun ok hok => ?_⟩
    · subst ht'
      rw [hu', ← u_eq, whole]
    · cases x with
      | a =>
        have : (disturb i s).svc .a = u.svc .a := by
          rw [whole]
          split
          · exact toHeld_svc_other _ _ (by decide)
          · rfl
        rw [this, u_eq, if_pos h, toHeld_svc_same]
        exact ⟨rfl, rfl, rfl⟩
      | b =>
        rw [whole, if_pos h, toHeld_svc_same]
        exact ⟨rfl, rfl, rfl⟩
    · cases x with
      | a =>
        have hua : u.svc .a = s.svc .a := by rw [u_eq, if_neg (by simp [h])]; simp [← ht]
        rw [whole]
        split
        · rw [toHeld_svc_other _ _ (by decide), hua]
        · exact hua
      | b => rw [whole, if_neg (by simp [h]), bU]
    · have judged : isDisturbed s i = true ↔ ¬ ok := by
        rw [hok, isDisturbed_iff, ← agrees_iff]
        simp
      exact ⟨fun h => if_neg fun hd => judged.1 hd h, fun h => if_pos (judged.2 h)⟩

/-- Settles O38: the parts of the entry check in their order, and what entry to VERIFYING does. -/
theorem entryCheckDecidesTheState : Obligations.EntryCheckDecidesTheState := by
  refine ⟨fun x s => ⟨fun hnone => ⟨?_, fun t ht => ?_⟩, fun p hp pointsOk interlocksOk hpts hilk => ?_⟩, fun x p s hp hpass => ?_⟩
  · rw [throughEntryCheck, entryCheck_of_none hnone]
    rfl
  · have whole : throughEntryCheck x s =
        if 0 = (s.svc x).ceiling then t else post (.ceilingChanged x (s.svc x).inForce 0) t := by
      rw [throughEntryCheck, entryCheck_of_none hnone]
      simp only [toUndetermined]
      rw [outputs_of_low (State.svc_setSvc_same _ _ _) rfl, ht]
      simp only [State.setSvc, Per.set_set]
      rfl
    exact ⟨fun h => whole.trans (if_pos h.symm), fun h => whole.trans (if_neg fun e => h e.symm)⟩
  · rw [← pointsPass_iff] at hpts
    rw [← interlockHolds_eq_false] at hilk
    rw [throughEntryCheck, entryCheck_of_some hp]
    refine ⟨fun h => ?_, fun h h' => ?_, fun h h' => ?_⟩
    · rw [if_neg fun e => h (hpts.2 e)]
    · rw [if_pos (hpts.1 h), if_pos (by simpa [hilk] using h')]
    · rw [if_pos (hpts.1 h), if_neg (by simp [hilk.1 h'])]
  · have whole := enterVerifying_eq hp (interlockHolds_of_pass hpass)
    have other : otherSvc x ≠ x := by cases x <;> decide
    have hsvc : (enterVerifying x s).svc x =
        { s.svc x with
          state := .verifying, hold := none, causes := ⟨true, false, false, false⟩, permit := true
          ceiling := p.power * p.cutback / 100, cut := decide (p.power * p.cutback / 100 < p.power)
          edges := edgesTo (s.svc x) true (decide (p.power * p.cutback / 100 < p.power)) } := by
      rw [whole]; dsimp only; split <;> simp [State.svc]
    have htable : (enterVerifying x s).table x = freshTable s x p := by
      rw [whole]; dsimp only; split <;> simp [State.table]
    refine ⟨hsvc, htable, ?_, fun t ht => ?_⟩
    · rw [whole]; dsimp only
      split <;> simp [State.svc, Per.get_set_other _ _ other.symm]
    · have same : t = { s with
          svcs := s.svcs.set x
            { s.svc x with
              state := .verifying, hold := none, causes := ⟨true, false, false, false⟩, permit := true
              ceiling := p.power * p.cutback / 100, cut := decide (p.power * p.cutback / 100 < p.power)
              edges := edgesTo (s.svc x) true (decide (p.power * p.cutback / 100 < p.power)) }
          tables := s.tables.set x (freshTable s x p) } := by
        rw [ht, hsvc, htable]
      rw [whole, same]
      exact ⟨fun h => if_pos h, fun h => if_neg h⟩

end Sys2Proof.Proofs
end

section
/-! PROOFS. The interlock pins and the posted records (O34, O35): what a sample, an accepted level and a change of state do,
and the queues, the bytes and the fields of a record. -/

namespace Sys2Proof.Machine

/-! ## Masks -/

theorem maskHas_iff {m : Mask} {x : Svc} : maskHas m x = true ↔ m = .ab ∨ m = .a ∧ x = .a ∨ m = .b ∧ x = .b := by
  cases m <;> cases x <;> decide

theorem present_iff {s : State} {x : Svc} : present s x = true ↔ x = .a ∨ s.twoServices = true := by simp [present]

theorem effHas_iff {s : State} {m : Mask} {x : Svc} : effHas s m x = true ↔ maskHas m x = true ∧ present s x = true := by
  simp [effHas]

theorem effHas_of_site {s t : State} (m : Mask) (x : Svc) (site : KeepsSite s t) : effHas t m x = effHas s m x := by
  simp only [effHas, present, site.twoServices]

theorem hotHas_iff {s : State} {i : Fin 32} {x : Svc} :
    hotHas s i x = true ↔ ∃ r, s.pointRec i = some r ∧ effHas s r.hot x = true := by
  unfold hotHas
  cases s.pointRec i <;> simp

/-! ## A change of an interlock handed on -/

theorem handOn_of_opened {k : Fin 4} {left : InterlockState} {m : Mask} {s : State} (hl : left = .closed)
    (h : (s.interlock k).state = .opened) :
    handOn k left m s = engineInterlock k (interlockHold k .b (interlockHold k .a s)) := by
  simp [handOn, hl, h]

theorem handOn_of_closed {k : Fin 4} {left : InterlockState} {m : Mask} {s : State} (h : (s.interlock k).state = .closed) :
    handOn k left m s = engineInterlock k (exitMask m s) := by
  simp [handOn, h]

theorem handOn_of_other {k : Fin 4} {left : InterlockState} {m : Mask} {s : State}
    (h : (s.interlock k).state = .latched ∨ left ≠ .closed ∧ (s.interlock k).state = .opened) :
    handOn k left m s = engineInterlock k s := by
  rcases h with h | ⟨hl, h⟩
  · simp [handOn, h]
  · simp [handOn, hl, h]

theorem exitMask_eq (m : Mask) (s : State) :
    exitMask m s =
      (let t := if effHas s m .a = true then autoExit .a s else s
       if effHas s m .b = true then autoExit .b t else t) := by
  simp only [exitMask]
  split
  · rw [effHas_of_site m .b (keepsSite_autoExit _ _)]
  · rfl

/-! ## Who is reached -/

theorem interlockCovers_iff {s : State} {k : Fin 4} {x : Svc} :
    interlockCovers s k x = true ↔ ∃ c, s.interlockRec k = some c ∧ effHas s c.mask x = true := by
  unfold interlockCovers
  cases s.interlockRec k <;> simp

theorem checkReads_iff {s : State} {x : Svc} {i : Fin 32} :
    checkReads s x i = true ↔ hotHas s i x = true ∨ ∃ p, inForcePattern s x = some p ∧ (p.map[i]).isSome = true := by
  unfold checkReads
  cases inForcePattern s x <;> simp

/-! ## Samples -/

theorem nextInterlock_eq (c : InterlockSettings) (st : InterlockState) (high : Bool) :
    nextInterlock c st (pinOpen c high) =
      if high = c.activeHigh then .opened
      else if st = .opened then (if c.latched then .latched else .closed) else st := by
  by_cases h : high = c.activeHigh
  · simp [pinOpen, h, nextInterlock]
  · have hb : (high == c.activeHigh) = false := by simpa using h
    cases st <;> simp [pinOpen, h, hb, nextInterlock]

/-! ## Posted records -/

theorem delivered_eq (routes : Vector PortSet 32) (e : Event) (port : PortId) :
    delivered routes e port = (match port with
      | .site => (routeOf routes e).site
      | .a => (routeOf routes e).a && decide (eventService e ≠ some .b)
      | .b => (routeOf routes e).b && decide (eventService e ≠ some .a)) := by
  have ne (x : Svc) : (eventService e != some x) = decide (eventService e ≠ some x) := Bool.eq_iff_iff.2 (by simp)
  cases port
  · exact congrArg ((routeOf routes e).a && ·) (ne .b)
  · exact congrArg ((routeOf routes e).b && ·) (ne .a)
  · rfl

theorem post_of_held {e : Event} {s : State} (h : s.phase = .resetHeld) : post e s = s := if_pos h

theorem post_ports_get {e : Event} {s : State} (h : s.phase ≠ .resetHeld) (port : PortId) :
    (post e s).ports.get port = offer s e port { event := e, stamp := s.clock.time } := by
  rw [post, if_neg h]
  cases port <;> rfl

end Sys2Proof.Machine

namespace Sys2Proof.Proofs

open Sys2Proof.Machine

/-- Settles O34: the samples, the change of state and whom it reaches. -/
theorem interlocksFollowTheirPins : Obligations.InterlocksFollowTheirPins := by
  refine ⟨fun k high c s hl hc => ⟨fun hacc => ?_, fun a hacc => ⟨?_, ?_⟩, fun d hacc hd => ?_⟩,
    fun k m st s => ⟨fun h => ?_, fun v hv => ⟨fun h hst => ?_, fun h hst => ?_, fun h hst => ?_, fun h hst => ?_⟩⟩,
    fun k left m x i s => ⟨handOn_of_opened, handOn_of_closed, handOn_of_other, maskHas_iff, present_iff, effHas_iff,
      hotHas_iff⟩,
    fun k x m changed s caught exits reads hcaught hexits hreads => ?_⟩
  · refine congrArg _ (show firstSample k high s = _ from ?_)
    simp only [firstSample, hc, hl, hacc, Option.isNone_none, Bool.and_true, if_true, pinOpen, beq_iff_eq]
    rfl
  · refine congrArg _ (show firstSample k high s = _ from ?_)
    simp [firstSample, hc, hacc]
  · refine congrArg _ (show pinChanged k high s = _ from ?_)
    simp only [pinChanged, hl, hc, hacc, Option.isSome_some, Bool.and_true, if_true]
    simp only [samplePin, hacc, Option.some.injEq]
    cases (s.interlock k).debounce <;> rfl
  · refine congrArg _ (show acceptLevel k high s = _ from ?_)
    simp only [acceptLevel, hc, hl, hacc, beq_self_eq_true, Bool.and_true, if_true, nextInterlock_eq, hd]
    rfl
  · rw [moveInterlock_eq, if_pos h]
  · subst hst
    have hne : ¬ InterlockState.opened = (s.interlock k).state := by rw [h]; decide
    rw [moveInterlock_eq, if_neg hne, if_pos rfl, handOn_of_opened h (by simp), h, hv]
    rfl
  · subst hst
    have hne : ¬ InterlockState.opened = (s.interlock k).state := by rw [h]; decide
    rw [moveInterlock_eq, if_neg hne, if_pos rfl, handOn_of_other (.inr ⟨by rw [h]; decide, by simp⟩), h, hv]
    rfl
  · subst hst
    rw [moveInterlock_eq, if_neg h.symm, if_neg (by decide), if_pos rfl, handOn_of_closed (by simp), hv]
    rfl
  · subst hst
    rw [moveInterlock_eq, if_neg h.symm, if_neg (by decide), if_neg (by decide), handOn_of_other (.inl (by simp)), hv]
    rfl
  · have hc : caught ↔ (interlockCovers s k x && onOrNearAir (s.svc x).state) = true := by
      rw [hcaught, Bool.and_eq_true, interlockCovers_iff, onOrNearAir_iff]
    have he : exits ↔ (present s x && (s.svc x).state == .held && (s.svc x).hold == some .interlock &&
        entryCheck s x == .pass) = true := by
      rw [hexits]
      simp [and_assoc]
    have hr : reads ↔ changed.any (checkReads s x) = true := by
      rw [hreads, List.any_eq_true]
      simp only [checkReads_iff]
    exact ⟨fun h => if_pos (hc.1 h), fun h => if_neg fun e => h (hc.2 e), fun h => if_pos (he.1 h),
      fun h => if_neg fun e => h (he.2 e), fun h => if_pos (hr.1 h), fun h => if_neg fun e => h (hr.2 e), rfl,
      fun t ht => by rw [exitMask_eq, ht]⟩

/-- Settles O35: delivery port by port, the bytes of a record, and the fields of each event. -/
theorem postedRecordsAreRouted : Obligations.PostedRecordsAreRouted := by
  refine ⟨fun e s => ⟨post_of_held, fun h => ⟨post_eq e s, fun port => ?_⟩⟩, ⟨fun e d => ?_, fun fields hf => ?_⟩,
    fun e routes n h => ?_⟩
  · rw [post_ports_get h, offer, delivered_eq]
    rfl
  · have service : optSvcCode (eventService e) = (eventService e).elim 0 svcCode := by cases eventService e <;> rfl
    have slot : ((eventSlot e).map Fin.val).getD 0 = (eventSlot e).elim 0 Fin.val := by cases eventSlot e <;> rfl
    simp only [recordBytes, service, slot, stampBytes, List.append_assoc]
  · obtain rfl : fields = fun e => (eventKind e, eventService e, eventSlot e, eventSubject e, eventDetail e) := funext hf
    intro _ _ _ _ _ _ _ _ _ _ _ _ _ _ _ _ tb
    cases tb <;> and_intros <;> rfl
  · rw [routeOf, h]
    simp

end Sys2Proof.Proofs
end

section
/-! PROOFS. Readings and verify windows (O46, O47, O49, O50): when a reading is valid, the first enforced parameter that is not
IN, and what the end of a window does. -/

namespace Sys2Proof.Machine

/-! ## A search in a strictly ordered list -/

theorem find_of_pairwise {α : Type} {before : α → α → Prop} (asymm : ∀ a b, before a b → ¬ before b a) {p : α → Bool}
    {l : List α} (hl : l.Pairwise before) {a : α} :
    l.find? p = some a ↔ (a ∈ l ∧ p a = true) ∧ ∀ b ∈ l, p b = true → b = a ∨ before a b := by
  constructor
  · intro h
    obtain ⟨ha, left, right, rfl, hleft⟩ := List.find?_eq_some_iff_append.1 h
    refine ⟨⟨by simp, ha⟩, fun b hb hpb => ?_⟩
    rcases List.mem_append.1 hb with hb | hb
    · have := hleft b hb
      simp [hpb] at this
    · rcases List.mem_cons.1 hb with rfl | hb
      · exact .inl rfl
      · exact .inr (List.rel_of_pairwise_cons (List.pairwise_append.1 hl).2.1 hb)
  · rintro ⟨⟨ha, hpa⟩, hfirst⟩
    obtain ⟨left, right, rfl⟩ := List.append_of_mem ha
    refine List.find?_eq_some_iff_append.2 ⟨hpa, left, right, rfl, fun b hb => ?_⟩
    have hba : before b a := (List.pairwise_append.1 hl).2.2 b hb a (by simp)
    rw [Bool.not_eq_true']
    by_contra hpb
    rcases hfirst b (by simp [hb]) (by simpa using hpb) with rfl | hab
    · exact asymm _ _ hba hba
    · exact asymm _ _ hba hab

/-! ## The parameters a pattern carries -/

/-- The enforcement a tower entry gives a kind of parameter (R29). -/
def enforcementOf (t : TowerEntry) : ParamKind → Enforcement
  | .ratio => t.ratioEnf
  | .phase => t.phaseEnf

/-- The order of the parameters: ascending towers, and of one tower the ratio first (R133). -/
def paramBefore (q r : Param) : Prop := q.tower < r.tower ∨ q.tower = r.tower ∧ q.kind = .ratio ∧ r.kind = .phase

theorem paramBefore_asymm {q r : Param} (h : paramBefore q r) : ¬ paramBefore r q := by
  rintro h'
  rcases h with h | ⟨h, hq, hr⟩ <;> rcases h' with h' | ⟨h', hr', hq'⟩
  · exact absurd h (not_lt_of_gt h')
  · exact absurd h' (ne_of_gt h)
  · exact absurd h (ne_of_gt h')
  · rw [hq] at hq'; cases hq'

theorem eq_or_paramBefore_iff {q r : Param} :
    r = q ∨ paramBefore q r ↔ q.tower < r.tower ∨ q.tower = r.tower ∧ (q.kind = .ratio ∨ r.kind = .phase) := by
  obtain ⟨i, a⟩ := q
  obtain ⟨j, b⟩ := r
  have order : (i < j ∨ i = j ∧ True) ↔ i ≤ j := by rw [and_true, le_iff_lt_or_eq]
  simp only [paramBefore, Param.mk.injEq]
  cases a <;> cases b <;> simp [eq_comm, or_comm]

theorem carries_eq_some_iff {p : Pattern} {i : Fin 12} {t : TowerEntry} :
    carries p i = some t ↔ i ≠ p.refTower ∧ p.towers[i] = some t := by
  unfold carries
  split <;> simp_all

theorem mem_paramsOf {p : Pattern} {q : Param} {enf : Enforcement} :
    (q, enf) ∈ paramsOf p ↔ ∃ t, carries p q.tower = some t ∧ enf = enforcementOf t q.kind := by
  obtain ⟨i, kind⟩ := q
  simp only [paramsOf, List.mem_flatMap, List.mem_finRange, true_and]
  constructor
  · rintro ⟨j, hj⟩
    cases hc : carries p j with
    | none => rw [hc] at hj; simp at hj
    | some t =>
      rw [hc] at hj
      simp only [List.mem_cons, Prod.mk.injEq, Param.mk.injEq, List.not_mem_nil, or_false] at hj
      rcases hj with ⟨⟨rfl, rfl⟩, rfl⟩ | ⟨⟨rfl, rfl⟩, rfl⟩ <;> exact ⟨t, hc, rfl⟩
  · rintro ⟨t, hc, rfl⟩
    refine ⟨i, ?_⟩
    rw [show carries p i = some t from hc]
    cases kind <;> simp [enforcementOf]

theorem pairwise_paramsOf (p : Pattern) : (paramsOf p).Pairwise fun a b => paramBefore a.1 b.1 := by
  have tower_eq {i : Fin 12} {a : Param × Enforcement} (h : a ∈ (match carries p i with
      | some t => [((⟨i, .ratio⟩ : Param), t.ratioEnf), (⟨i, .phase⟩, t.phaseEnf)]
      | none => [])) : a.1.tower = i := by
    cases hc : carries p i with
    | none => rw [hc] at h; simp at h
    | some t =>
      rw [hc] at h
      simp only [List.mem_cons, List.not_mem_nil, or_false] at h
      rcases h with rfl | rfl <;> rfl
  refine List.pairwise_flatMap.2 ⟨fun i _ => ?_, (List.pairwise_lt_finRange 12).imp fun hij a ha b hb => ?_⟩
  · cases carries p i <;> simp [paramBefore]
  · exact .inl (by rw [tower_eq ha, tower_eq hb]; exact hij)

/-- Whether a pattern's parameter is enforced and not IN (R133). -/
def lacking (p : Pattern) (t : ConfTable) (q : Param) : Prop :=
  ∃ te, carries p q.tower = some te ∧ enforcementOf te q.kind ≠ .advisory ∧ paramState t q ≠ .in_

theorem exists_lacking_iff {p : Pattern} {t : ConfTable} {q : Param} :
    (∃ enf, (q, enf) ∈ paramsOf p ∧ (enf != .advisory && paramState t q != .in_) = true) ↔ lacking p t q := by
  simp only [mem_paramsOf, lacking, Bool.and_eq_true, bne_iff_ne]
  constructor
  · rintro ⟨_, ⟨te, hc, rfl⟩, h⟩
    exact ⟨te, hc, h⟩
  · rintro ⟨te, hc, h⟩
    exact ⟨_, ⟨te, hc, rfl⟩, h⟩

theorem firstNotIn_eq_none {p : Pattern} {t : ConfTable} : firstNotIn p t = none ↔ ∀ q, ¬ lacking p t q := by
  simp only [firstNotIn, Option.map_eq_none_iff, List.find?_eq_none, ← exists_lacking_iff, Prod.forall, not_exists, not_and]

/-- The first enforced parameter that is not IN comes before every other (R133). -/
theorem firstNotIn_eq_some {p : Pattern} {t : ConfTable} {q : Param} :
    firstNotIn p t = some q ↔ lacking p t q ∧ ∀ r, lacking p t r →
      q.tower < r.tower ∨ q.tower = r.tower ∧ (q.kind = .ratio ∨ r.kind = .phase) := by
  have found (enf : Enforcement) := find_of_pairwise (p := fun a : Param × Enforcement => a.2 != .advisory && paramState t a.1 != .in_)
    (fun a b h => paramBefore_asymm h) (pairwise_paramsOf p) (a := (q, enf))
  simp only [firstNotIn, Option.map_eq_some_iff, ← eq_or_paramBefore_iff]
  constructor
  · rintro ⟨⟨_, enf⟩, hf, rfl⟩
    obtain ⟨hq, hfirst⟩ := (found enf).1 hf
    refine ⟨exists_lacking_iff.1 ⟨enf, hq⟩, fun r hr => ?_⟩
    obtain ⟨enf', hmem, htest⟩ := exists_lacking_iff.2 hr
    exact (hfirst _ hmem htest).imp_left fun e => congrArg Prod.fst e
  · rintro ⟨hq, hfirst⟩
    obtain ⟨enf, hq⟩ := exists_lacking_iff.2 hq
    refine ⟨(q, enf), (found enf).2 ⟨hq, fun b hb hpb => ?_⟩, rfl⟩
    rcases hfirst b.1 (exists_lacking_iff.1 ⟨b.2, hb, hpb⟩) with heq | hlt
    · refine .inl (Prod.ext heq ?_)
      obtain ⟨te, hc, he⟩ := mem_paramsOf.1 hb
      obtain ⟨te', hc', he'⟩ := mem_paramsOf.1 hq.1
      rw [heq, hc', Option.some.injEq] at hc
      rw [he, heq, he', hc]
    · exact .inr hlt

theorem anyOut_iff {p : Pattern} {t : ConfTable} {enf : Enforcement} :
    anyOut p t enf = true ↔ ∃ (i : Fin 12) (te : TowerEntry), i ≠ p.refTower ∧ p.towers[i] = some te ∧
      (te.ratioEnf = enf ∧ (t.rows[i]).ratioState = .out ∨ te.phaseEnf = enf ∧ (t.rows[i]).phaseState = .out) := by
  simp only [anyOut, List.any_eq_true, Bool.and_eq_true, beq_iff_eq]
  constructor
  · rintro ⟨⟨⟨i, kind⟩, _⟩, hmem, rfl, hout⟩
    obtain ⟨te, hc, rfl⟩ := mem_paramsOf.1 hmem
    obtain ⟨hi, ht⟩ := carries_eq_some_iff.1 hc
    refine ⟨i, te, hi, ht, ?_⟩
    cases kind
    · exact .inl ⟨rfl, hout⟩
    · exact .inr ⟨rfl, hout⟩
  · rintro ⟨i, te, hi, ht, ⟨he, hout⟩ | ⟨he, hout⟩⟩
    · exact ⟨(⟨i, .ratio⟩, enf), mem_paramsOf.2 ⟨te, carries_eq_some_iff.2 ⟨hi, ht⟩, he.symm⟩, rfl, hout⟩
    · exact ⟨(⟨i, .phase⟩, enf), mem_paramsOf.2 ⟨te, carries_eq_some_iff.2 ⟨hi, ht⟩, he.symm⟩, rfl, hout⟩

/-! ## Validity -/

theorem validity_of_none {p : Pattern} {floor : Nat} {frame : List MonitorEntry} (h : frame[p.refTower.val]? = none) :
    validity p floor frame = .refBeyondCount := by
  simp only [validity, h]

theorem validity_of_some {p : Pattern} {floor : Nat} {frame : List MonitorEntry} {k : MonitorEntry}
    (h : frame[p.refTower.val]? = some k) :
    validity p floor frame =
      if -1800 ≤ k.phase ∧ k.phase ≤ 1799 then (if k.magnitude < floor then .refBelowFloor else .valid)
      else .refPhaseRange := by
  simp only [validity, h, phaseInRange]
  by_cases hr : -1800 ≤ k.phase ∧ k.phase ≤ 1799 <;> simp [hr]

theorem evaluate_invalid {x : Svc} {p : Pattern} {frame : List MonitorEntry} {s : State} {why : LastOutcome}
    (hp : inForcePattern s x = some p) (h : validity p (s.settings x).minRef frame = why) (hne : why ≠ .valid) :
    evaluate x frame s = invalidReading x why s := by
  simp only [evaluate, hp, h]
  cases why <;> first | rfl | exact absurd rfl hne

theorem evaluate_valid {x : Svc} {p : Pattern} {frame : List MonitorEntry} {s : State} {k : MonitorEntry}
    (hp : inForcePattern s x = some p) (h : validity p (s.settings x).minRef frame = .valid)
    (hk : frame[p.refTower.val]? = some k) :
    evaluate x frame s = handReading x p (updateTable x p k frame s) := by
  simp only [evaluate, hp, h, hk]

/-! ## Runs -/

theorem stepRun_dir (r : Run) (isIn : Bool) : (stepRun r isIn).dir = if isIn then .in_ else .out := by
  obtain ⟨d, c⟩ := r
  cases isIn <;> cases d <;> rfl

theorem stepParam_of_reached {n : Nat} {r : Run} {st : ParamState} (isIn : Bool) (hd : r.dir = if isIn then .in_ else .out)
    (h : n ≤ r.count) : stepParam n r st = if isIn then .in_ else .out := by
  rw [stepParam, if_neg (Nat.not_lt.2 h), hd]
  cases isIn <;> rfl

/-! ## The end of a window -/

/-- Entry to ON_AIR of a service whose window is closed changes its record alone (R47). -/
theorem enterOnAir_closed {x : Svc} {p : Pattern} {failed : Bool} {s : State} (h : (s.table x).window = none) :
    enterOnAir x p failed s =
      { s with
        svcs := s.svcs.set x
          { s.svcs.get x with
            state := .onAir
            causes := ⟨false, anyOut p (s.table x) .cutback, (s.receivers.get x).stale, failed⟩ } } := by
  have same : s.tables.set x { s.table x with window := none } = s.tables := by
    rw [← h]
    cases x <;> rfl
  unfold enterOnAir closeWindow
  simp only [State.setSvc_table, State.setTable, State.setSvc_tables, same]
  rfl

theorem revertSlot_eq_some {s : State} {x : Svc} {k : Fin 4} :
    revertSlot s x = some k ↔ (s.svc x).previous = some k ∧ (s.pattern x k).isSome = true ∧ (s.svc x).revertMark = false := by
  unfold revertSlot
  cases (s.svc x).previous with
  | none => simp
  | some j =>
    simp only [Option.ite_none_right_eq_some, Bool.and_eq_true, Bool.not_eq_true', Option.some.injEq]
    constructor
    · rintro ⟨h, rfl⟩; exact ⟨rfl, h⟩
    · rintro ⟨rfl, h⟩; exact ⟨h, rfl⟩

end Sys2Proof.Machine

namespace Sys2Proof.Proofs

open Sys2Proof.Machine

/-- Settles O46: the outcome is the first test that fails. -/
theorem readingIsValidOrNot : Obligations.ReadingIsValidOrNot := by
  intro x p frame s hp _ t why ht
  refine ⟨fun hwhy u hu => ?_, fun k hk hlo hhi hmag => ⟨evaluate_valid hp ?_ hk, fun row hrow => ?_⟩⟩
  · have houtcome : validity p (s.settings x).minRef frame = why ∧ why ≠ .valid := by
      rcases hwhy with ⟨hlen, rfl⟩ | ⟨k, hk, ⟨hr, rfl⟩ | ⟨hlo, hhi, hmag, rfl⟩⟩
      · exact ⟨validity_of_none (List.getElem?_eq_none hlen), by decide⟩
      · exact ⟨by rw [validity_of_some hk, if_neg (by omega)], by decide⟩
      · exact ⟨by rw [validity_of_some hk, if_pos ⟨hlo, hhi⟩]; exact if_pos hmag, by decide⟩
    rw [evaluate_invalid hp houtcome.1 houtcome.2, hu, ht]
    rfl
  · rw [validity_of_some hk, if_pos ⟨hlo, hhi⟩]
    exact if_neg (Nat.not_lt.2 hmag)
  · obtain rfl : row = fun i => updateRow x t.slot p k frame i t.rows[i] := funext hrow
    rw [ht]
    rfl

/-- Settles O47: the table of R123 case by case, and the state moved at the persistence count. -/
theorem runsCountAgreeingReadings : Obligations.RunsCountAgreeingReadings := by
  intro c d
  have counted (h : c ≤ 15) : min 15 (c + 1) = if c = 15 then 15 else c + 1 := by split <;> omega
  refine ⟨rfl, rfl, fun h => ?_, rfl, fun h => ?_, rfl, fun n isIn st _ _ => ?_⟩
  · rw [← counted h]; rfl
  · rw [← counted h]; rfl
  · split
    · next h => exact stepParam_of_reached isIn (stepRun_dir _ _) h
    · next h => exact if_pos (Nat.not_le.1 h)

/-- Settles O49: the success test and the steady reading by the state of the service. -/
theorem handedReadingActsByState : Obligations.HandedReadingActsByState := by
  refine ⟨fun x p s => ⟨fun hst => ⟨fun h => ?_, fun hv hn => ?_⟩, fun h1 h2 => ?_, ?_⟩,
    fun x p s hst => ⟨fun h => ?_, fun h => ?_, fun enf => anyOut_iff⟩⟩
  · simp only [handReading, hst, verifyTest]
    rw [if_neg]
    rintro ⟨hv, hn⟩
    rcases h with h | h
    · omega
    · exact h hn
  · simp only [handReading, hst, verifyTest]
    rw [if_pos ⟨hv, hn⟩, enterOnAir]
    simp only [closeWindow, State.setSvc_table, post_table_at, post_receiver_at]
    rfl
  · cases hst : (s.svc x).state with
    | verifying => exact absurd hst h1
    | onAir => exact absurd hst h2
    | _ => simp only [handReading, hst]
  · rw [firstNotIn_eq_none]
    constructor
    · intro h i t hi ht
      have hc := carries_eq_some_iff.2 ⟨hi, ht⟩
      exact ⟨or_iff_not_imp_left.2 fun he => by_contra fun hs => h ⟨i, .ratio⟩ ⟨t, hc, he, hs⟩,
        or_iff_not_imp_left.2 fun he => by_contra fun hs => h ⟨i, .phase⟩ ⟨t, hc, he, hs⟩⟩
    · rintro h ⟨i, kind⟩ ⟨t, hc, he, hs⟩
      obtain ⟨hi, ht⟩ := carries_eq_some_iff.1 hc
      obtain ⟨hratio, hphase⟩ := h i t hi ht
      cases kind
      · exact hratio.elim he hs
      · exact hphase.elim he hs
  · simp only [handReading, hst, steadyReading]
    rw [if_pos h]
  · have some_iff : (firstNotIn p (s.table x)).isSome = decide (firstNotIn p (s.table x) ≠ none) :=
      Bool.eq_iff_iff.2 (by simp [Option.isSome_iff_ne_none])
    simp only [handReading, hst, steadyReading]
    rw [if_neg (by simp [h]), some_iff]
    rfl

/-- Settles O50: the revert test, the order of the parameters, and the policy applied. -/
theorem windowExpiryAppliesThePolicy : Obligations.WindowExpiryAppliesThePolicy := by
  refine ⟨fun x s => ⟨?_, fun k h => (revertSlot_eq_some.1 h).1⟩, fun p t lacks hl => ?_,
    fun x p w s hw hp hst failed u hu hfailed => ?_⟩
  · rw [Option.ne_none_iff_exists']
    simp only [revertSlot_eq_some]
  · have same (q : Param) : lacks q ↔ lacking p t q := by
      rw [hl]
      obtain ⟨i, kind⟩ := q
      simp only [lacking, carries_eq_some_iff]
      cases kind <;> simp [enforcementOf, paramState, and_assoc]
    simp only [same]
    exact ⟨firstNotIn_eq_none, fun q => firstNotIn_eq_some⟩
  · have run : exec (.verifyWindowExpiry x) s = .next (finish (windowExpired x p u)) := by
      refine congrArg _ (show verifyExpired x s = _ from ?_)
      simp only [verifyExpired, hw, hp, hst, if_true, hu]
      rfl
    have post_eq (a : VerifyAction) : post (.verifyFailed x (u.svc x).inForce (firstNotIn p (u.table x)) a) u = failed a := by
      rw [hfailed, hu]
      simp [State.svc, State.table]
      rfl
    have slot : revertSlot u x = revertSlot s x := by rw [hu]; rfl
    have hshut : ((failed .holdCutback).table x).window = none := by rw [hfailed, hu]; simp [State.table]
    have hsvcs : (failed .holdCutback).svcs = s.svcs := by rw [hfailed, hu]; simp
    have hrec : (failed .holdCutback).receivers.get x = s.receivers.get x := by rw [hfailed, hu]; simp
    have hanyOut : anyOut p ((failed .holdCutback).table x) = anyOut p (s.table x) := by
      rw [hfailed, hu]
      simp [State.table]
      rfl
    rw [run]
    refine ⟨fun k hpol hk => ?_, fun hpol hk => ?_, fun hpol => ?_, fun hpol t ht => ?_⟩
    · simp only [windowExpired, expiryAction, hpol, slot, hk, Option.isSome_some, if_true, post_eq]
      rfl
    · simp only [windowExpired, expiryAction, hpol, slot, hk, Option.isSome_none, Bool.false_eq_true, if_false, post_eq]
    · simp only [windowExpired, expiryAction, hpol, post_eq]
    · simp only [windowExpired, expiryAction, hpol, post_eq, holdCutback]
      have entered : enterOnAir x p true (failed .holdCutback) = t := by
        rw [enterOnAir_closed hshut, ht, hsvcs, hrec, hanyOut]
        rfl
      have judged : anyOut p (t.table x) = anyOut p (s.table x) := by
        rw [ht]
        exact hanyOut
      rw [entered, judged]

end Sys2Proof.Proofs
end

section
/-! PROOFS. The monitor receivers, the clock, the schedule and adoption (O45, O51, O52, O54). -/

namespace Sys2Proof.Machine

/-! ## Received bytes -/

theorem takeByte_of_hunt {x : Svc} {b : Byte} {s : State} (h : (s.receiver x).frame = .hunt) :
    takeByte x b s =
      if b = 0xC3 then
        s.setReceiver x
          { s.receiver x with frame := .count, part := PartFrame.empty, gapDue := some (s.now + gapLimit) }
      else s := by
  simp only [takeByte, h]

theorem takeByte_of_count {x : Svc} {b : Byte} {s : State} (h : (s.receiver x).frame = .count) :
    takeByte x b s =
      if 1 ≤ b.toNat ∧ b.toNat ≤ 12 then
        s.setReceiver x
          { s.receiver x with
            frame := .data, part := { count := b.toNat, bytes := [], sum := b }, gapDue := some (s.now + gapLimit) }
      else s.setReceiver x (frameLost (s.receiver x)) := by
  simp only [takeByte, h]

theorem takeByte_of_data {x : Svc} {b : Byte} {s : State} (h : (s.receiver x).frame = .data) :
    takeByte x b s =
      s.setReceiver x
        { s.receiver x with
          frame := if (s.receiver x).part.bytes.length + 1 = 4 * (s.receiver x).part.count then .check else .data
          part := ⟨(s.receiver x).part.count, (s.receiver x).part.bytes ++ [b], (s.receiver x).part.sum + b⟩
          gapDue := some (s.now + gapLimit) } := by
  simp only [takeByte, h, List.length_append, List.length_singleton]

theorem takeByte_of_check {x : Svc} {b : Byte} {s : State} (h : (s.receiver x).frame = .check) :
    takeByte x b s =
      if (s.receiver x).part.sum + b = 0 then goodFrame x (entriesOf (s.receiver x).part.bytes) s
      else s.setReceiver x (frameLost (s.receiver x)) := by
  simp only [takeByte, h]

theorem takeFramingError_of_hunt {x : Svc} {s : State} (h : (s.receiver x).frame = .hunt) : takeFramingError x s = s := by
  simp only [takeFramingError, h]

theorem takeFramingError_of_frame {x : Svc} {s : State} (h : (s.receiver x).frame ≠ .hunt) :
    takeFramingError x s = s.setReceiver x (frameLost (s.receiver x)) := by
  unfold takeFramingError
  cases hf : (s.receiver x).frame with
  | hunt => exact absurd hf h
  | _ => rfl

theorem toNat_halfOf (a b : Byte) : (halfOf a b).toNat = 256 * a.toNat + b.toNat := by
  have ha := a.isLt
  have hb := b.isLt
  rw [halfOf, BitVec.toNat_append, Nat.shiftLeft_eq, Nat.mul_comm, ← Nat.two_pow_add_eq_or_of_lt hb]

theorem toInt_halfOf (c d : Byte) :
    (halfOf c d).toInt =
      if c.toNat < 128 then (256 * c.toNat + d.toNat : Int) else (256 * c.toNat + d.toNat : Int) - 65536 := by
  have hc := c.isLt
  have hd := d.isLt
  rw [BitVec.toInt_eq_toNat_cond, toNat_halfOf]
  split <;> split <;> omega

/-! ## The state a resumed line leaves -/

theorem lineResumed_state (x : Svc) (frame : List MonitorEntry) (s : State) :
    ((lineResumed x frame s).svc x).state = (s.svc x).state := by
  unfold lineResumed clearStale
  split
  · split <;> simp [frameTaken]
  · rfl

/-! ## Firing -/

theorem scheduleRuns_iff {s : State} {x : Svc} :
    scheduleRuns s x = true ↔
      present s x = true ∧ (s.svc x).mode = .auto ∧ s.clock.isSet = true ∧ s.phase = .running := by
  simp [scheduleRuns, and_assoc]

theorem firing_eq_some {s : State} {x : Svc} {k : Fin 4} :
    firing s x = some k ↔
      present s x = true ∧ (s.svc x).mode = .auto ∧ s.clock.isSet = true ∧ s.phase = .running ∧
        ((monthRow s x s.clock.time.month).find? fun e =>
          decide (e.minute = s.clock.time.hour * 60 + s.clock.time.minute)).map RowEntry.slot = some k := by
  have minute : (fun e : RowEntry => e.minute == minuteOfDay s.clock.time) =
      fun e => decide (e.minute = s.clock.time.hour * 60 + s.clock.time.minute) := by
    funext e
    rfl
  rw [firing, dueSlot, minute, Option.ite_none_right_eq_some, scheduleRuns_iff]
  simp only [and_assoc]

/-- What storing a firing does: nothing where the slot is in force on the air (R158). -/
theorem storeFired_fired {s t : State} {x : Svc} {k : Fin 4} (h : firing s x = some k) :
    storeFired x (fired s x) t = if inForceOnAir s x k = true then t else storeRequest x (scheduleRequest k) t := by
  simp only [storeFired, fired, h, Option.map_some, firingDetail]
  by_cases ha : inForceOnAir s x k = true <;> simp [ha]

theorem postFired_fired {s t : State} {x : Svc} {k : Fin 4} (h : firing s x = some k) :
    postFired x (fired s x) t = post (.scheduleFired x k (firingDetail s x k)) t := by
  simp only [postFired, fired, h, Option.map_some]

theorem fired_of_none {s : State} {x : Svc} (h : firing s x = none) : fired s x = none := by simp [fired, h]

/-! ## Adoption -/

theorem mem_candidates {s : State} {x : Svc} {k : Fin 4} :
    k ∈ candidates s x ↔
      ∃ p, s.pattern x k = some p ∧ patternValid s p = true ∧
        ∀ (i : Fin 32) pos, p.map[i] = some pos →
          (s.pointRec i).isSome = true ∧ (s.point i).commanded = some pos ∧ sensedAt (s.point i).sensed pos = true := by
  simp only [candidates, List.mem_filter, List.mem_finRange, true_and, ← mapInPlace_iff]
  cases s.pattern x k <;> simp

theorem adoptionReady_iff {s : State} :
    adoptionReady s = true ↔
      s.phase = .starting ∧
        (∀ e, inUse s.cfg.points e = true → (s.exp e).health = .faulted ∨ (s.exp e).confirm = .done) ∧
        ∀ k, (s.interlockRec k).isSome = true → (s.interlock k).accepted ≠ none := by
  simp only [adoptionReady, allInUse, expSettled, Bool.and_eq_true, beq_iff_eq, List.all_eq_true, List.mem_finRange,
    true_implies, Bool.or_eq_true, Bool.not_eq_true', and_assoc]
  refine and_congr_right fun _ => and_congr (forall_congr' fun e => ?_) (forall_congr' fun k => ?_)
  · cases inUse s.cfg.points e <;> simp
  · cases s.interlockRec k <;> simp [Option.isSome_iff_ne_none]

theorem scheduledChoice_eq_some {s : State} {x : Svc} {ks : List (Fin 4)} {k : Fin 4} :
    scheduledChoice s x ks = some k ↔
      ∃ m, (s.svc x).mode = .auto ∧ s.clock.isSet = true ∧ scheduledPattern s x = some (k, m) ∧ k ∈ ks := by
  unfold scheduledChoice
  by_cases h : (s.svc x).mode = .auto ∧ s.clock.isSet = true
  · rw [if_pos h]
    rcases scheduledPattern s x with _ | ⟨j, m⟩
    · simp
    · simp only [h, Option.ite_none_right_eq_some, Option.some.injEq, Prod.mk.injEq, List.contains_iff_mem, true_and]
      constructor
      · rintro ⟨hmem, rfl⟩; exact ⟨m, ⟨rfl, rfl⟩, hmem⟩
      · rintro ⟨_, ⟨rfl, rfl⟩, hmem⟩; exact ⟨hmem, rfl⟩
  · rw [if_neg h]
    simp only [reduceCtorEq, false_iff, not_exists]
    exact fun m hm => h ⟨hm.1, hm.2.1⟩

theorem adoptService_of_choice {s : State} {x : Svc} {a b k : Fin 4} {rest : List (Fin 4)}
    (h : candidates s x = a :: b :: rest) (hk : scheduledChoice s x (candidates s x) = some k) :
    adoptService s x = adopt x k .scheduled s := by
  rw [h] at hk
  simp only [adoptService, h, hk]

theorem adoptService_of_no_choice {s : State} {x : Svc} {a b : Fin 4} {rest : List (Fin 4)}
    (h : candidates s x = a :: b :: rest) (hk : scheduledChoice s x (candidates s x) = none) :
    adoptService s x = post (.adoptionFailed (some x) .ambiguous) s := by
  rw [h] at hk
  simp only [adoptService, h, hk]

end Sys2Proof.Machine

namespace Sys2Proof.Proofs

open Sys2Proof.Machine

/-- Settles O45: the table of R108 state by state, a good frame, and the two timers. -/
theorem monitorReceiverFollowsItsTable : Obligations.MonitorReceiverFollowsItsTable := by
  refine ⟨fun x b s => ⟨fun h => ⟨congrArg _ (if_neg (by simp [State.receiver, h])), congrArg _ (if_neg (by simp [State.receiver, h]))⟩,
      fun hs r lost hr hlost => ?table⟩,
    fun x b s r frame t u hr hs hf hsum hframe ht hu => ?good, ⟨rfl, fun a b c d rest => ?_⟩, fun x due s => ⟨fun h => ?_, fun h => ?_, fun h => ?_, fun h t ht => ?_⟩⟩
  case table =>
    have byte : exec (.monitorByteReceived x b) s = .next (takeByte x b s) := congrArg _ (if_pos hs)
    have framing : exec (.monitorFramingError x) s = .next (takeFramingError x s) := congrArg _ (if_pos hs)
    have hlost' : lost = frameLost (s.receiver x) := by rw [hlost, hr]; rfl
    rw [byte, framing]
    subst hr
    refine ⟨fun hf => ⟨?_, fun hb => ?_, fun hb => ?_⟩, fun hf => ?_, fun hf => ⟨fun h1 h2 => ?_, fun hb => ?_⟩, fun hf => ?_,
      fun hf hsum => ?_⟩
    · rw [takeFramingError_of_hunt hf]
    · rw [takeByte_of_hunt hf, if_neg hb]
    · rw [takeByte_of_hunt hf, if_pos hb]; rfl
    · rw [takeFramingError_of_frame hf, hlost']; rfl
    · rw [takeByte_of_count hf, if_pos ⟨h1, h2⟩]; rfl
    · have hout : ¬ (1 ≤ b.toNat ∧ b.toNat ≤ 12) := by
        rcases hb with rfl | hb
        · decide
        · omega
      rw [takeByte_of_count hf, if_neg hout, hlost']; rfl
    · rw [takeByte_of_data hf]; rfl
    · rw [takeByte_of_check hf, if_neg (show ¬ (s.receiver x).part.sum + b = 0 from hsum), hlost']; rfl
  case good =>
    subst hr
    have byte : exec (.monitorByteReceived x b) s = .next (takeByte x b s) := congrArg _ (if_pos hs)
    have resumed : lineResumed x frame s = u := by
      have taken : frameTaken x frame s = t := by rw [ht]; rfl
      rw [hu, lineResumed, taken, clearStale]
      have hst : ((post (.monitorResumed x (s.svc x).inForce) t).svc x).state = (s.svc x).state := by rw [ht]; simp [State.svc]
      rw [hst]
      rfl
    rw [byte, takeByte_of_check hf, if_pos (show (s.receiver x).part.sum + b = 0 from hsum),
      show entriesOf (s.receiver x).part.bytes = frame from hframe.symm, goodFrame_eq, lineResumed_state, resumed]
    refine ⟨fun h => ?_, fun h1 h2 => ?_⟩
    · rw [if_pos ((onOrNearAir_iff _).2 h)]
    · rw [if_neg fun h => ((onOrNearAir_iff _).1 h).elim h1 h2]
  · simp only [entriesOf, toNat_halfOf, toInt_halfOf]
  · refine congrArg _ (show (match (s.receiver x).gapDue with
      | some t => (s.reach t).setReceiver x (hunt (s.receiver x))
      | none => s) = _ from ?_)
    rw [show (s.receiver x).gapDue = some due from h]
    rfl
  · refine congrArg _ (show (match (s.receiver x).gapDue with
      | some t => (s.reach t).setReceiver x (hunt (s.receiver x))
      | none => s) = _ from ?_)
    rw [show (s.receiver x).gapDue = none from h]
  · refine congrArg _ (show (match (s.receiver x).staleDue with
      | some t => lineStale x (s.reach t)
      | none => s) = _ from ?_)
    rw [show (s.receiver x).staleDue = none from h]
  · have run : exec (.stalenessTimerExpiry x) s = .next (lineStale x (s.reach due)) := by
      refine congrArg _ (show (match (s.receiver x).staleDue with
        | some t => lineStale x (s.reach t)
        | none => s) = _ from ?_)
      rw [show (s.receiver x).staleDue = some due from h]
    have same : t.svc x = s.svc x := by rw [ht]; simp [State.svc]
    rw [run]
    refine ⟨fun hst => ?_, fun hst => ?_⟩
    · rw [ht]
      exact congrArg _ (if_neg hst)
    · rw [same, ht]
      exact congrArg _ (if_pos hst)

/-- Settles O51: the carries of the calendar, the months, and the three sources of a step. -/
theorem clockTakesItsSteps : Obligations.ClockTakesItsSteps := by
  refine ⟨fun d hv hend => ⟨dateValid_nextSecond hv (by simpa [atRangeEnd] using hend), fun h => ?_, fun hs h => ?_,
      fun hs hm h => ?_, fun hs hm hh => ⟨fun h => ?_, fun h => ⟨fun h' => ?_, fun h' => ?_⟩⟩⟩,
    fun year => ⟨rfl, rfl, rfl⟩,
    fun s => ⟨fun h => ?_, fun h => ?_, fun h => ?_, fun h now hnow => ?_, fun h => ?_, fun due h t ht => ?_, fun h => ?_,
      fun h t ht => ?_⟩⟩
  · rw [nextSecond, if_pos h]
  · rw [nextSecond, if_neg (by omega), if_pos h]
  · rw [nextSecond, if_neg (by omega), if_neg (by omega), if_pos h]
  · rw [nextSecond, if_neg (by omega), if_neg (by omega), if_neg (by omega), if_pos h]
  · rw [nextSecond, if_neg (by omega), if_neg (by omega), if_neg (by omega), if_neg (by omega), if_pos h']
  · rw [nextSecond, if_neg (by omega), if_neg (by omega), if_neg (by omega), if_neg (by omega), if_neg (by omega)]
  · refine congrArg _ (show (match s.clock.active with
      | .internal => dividerStep s
      | .tickIn => s) = _ from ?_)
    rw [h]
    rfl
  · refine congrArg _ (show (match s.clock.active with
      | .internal => dividerStep s
      | .tickIn => s) = _ from ?_)
    rw [h]
  · refine congrArg _ (show (match s.cfg.timebase with
      | .tickIn => tickEdge s
      | .internal => s) = _ from ?_)
    rw [h]
  · refine congrArg _ (show (match s.cfg.timebase with
      | .tickIn => tickEdge s
      | .internal => s) = _ from ?_)
    rw [h, hnow]
    cases he : s.clock.lastEdge with
    | none => simp only [tickEdge, he, State.reach, Nat.max_zero]; rfl
    | some e => simp only [tickEdge, he]; rfl
  · refine congrArg _ (show (match s.clock.lossDue with
      | some t => tickLost t s
      | none => s) = _ from ?_)
    rw [h]
  · refine congrArg _ (show (match s.clock.lossDue with
      | some t => tickLost t s
      | none => s) = _ from ?_)
    rw [h, ht]
    rfl
  · exact if_pos (by simp [atRangeEnd, h])
  · rw [ht]
    exact if_neg (by simpa [atRangeEnd] using h)

/-- Settles O52: what fires, in the order it is posted and stored. -/
theorem scheduleFiresAtItsMinute : Obligations.ScheduleFiresAtItsMinute := by
  refine ⟨⟨fun s ka kb ha hb detail asks t u hdetail hasks ht hu => ?_, fun x s => ⟨fun k => firing_eq_some, fun ha hb => ?_,
    fun k hk ho => ?_⟩⟩, fun x m s => ?_⟩
  · have same (x : Svc) (k : Fin 4) : firingDetail s x k = detail x k := (hdetail x k).symm
    rw [fireAll, handOver, postFired_fired ha, postFired_fired hb, storeFired_fired ha, storeFired_fired hb, same, same, ← ht,
      scheduleRequest, ← hasks, scheduleRequest, ← hasks, ← hu]
  · rw [fireAll, fired_of_none ha, fired_of_none hb]
    rfl
  · have whole : fireAll s = storeFired x (fired s x) (postFired x (fired s x) s) := by
      cases x
      · rw [fireAll, fired_of_none (x := .b) ho]; rfl
      · rw [fireAll, fired_of_none (x := .a) ho]; rfl
    rw [whole, storeFired_fired hk, postFired_fired hk, firingDetail]
    refine ⟨fun h => ?_, fun h => ?_⟩
    · rw [if_pos h, if_pos h]
    · rw [if_neg (by simp [h]), if_neg (by simp [h])]
      rfl
  · rw [monthRow, Nat.add_sub_cancel]
    simp

/-- Settles O54: adoption's readiness, its candidates, and the three outcomes. -/
theorem adoptionChoosesAPattern : Obligations.AdoptionChoosesAPattern := by
  refine fun x s => ⟨fun t u ht hu => ?_, adoptionReady_iff, fun k => mem_candidates, fun h => ?_, fun k h => ?_,
    fun a b rest h => ⟨fun k m hm hc hp hmem => ?_, fun hno => ?_⟩⟩
  · rw [adoptAll, presentSvcs, hu, ht]
    cases s.twoServices <;> rfl
  · simp only [adoptService, h]
  · simp only [adoptService, h]
    rfl
  · rw [adoptService_of_choice h (scheduledChoice_eq_some.2 ⟨m, hm, hc, hp, hmem⟩)]
    rfl
  · exact adoptService_of_no_choice h
      (Option.eq_none_iff_forall_ne_some.2 fun k hk => hno ⟨k, scheduledChoice_eq_some.1 hk⟩)

end Sys2Proof.Proofs
end

section
/-! PROOFS. Saves, resets and the load (O24 to O26): the end of an EEPROM transaction by the state of the store, what a reset
leaves, and what a load end starts. -/

namespace Sys2Proof.Machine

/-! ## The end of an EEPROM transaction -/

theorem afterTxn_of_other {c : Current} (h : txnR4 c.txn = false) (s : State) : afterTxn c s = s := by simp [afterTxn, h]

/-- An EEPROM transaction that ends hands its result on, and nothing a WRITE_POINT queued has ended with it. -/
theorem endWith_eeprom {free : State → State} {isIt : Current → Bool} {result : Current → State → State} {s : State}
    {c : Current} (hc : s.bus.current = some c) (ht : c.txn = .eeprom) (hd : c.discarded = false) (h : isIt c = true) :
    endWith free isIt result s = finish (result c (free s)) := by
  rw [endWith_some hc h, hd, afterTxn_of_other (by rw [ht]; rfl)]
  rfl

theorem post_setBus (e : Event) (s : State) (b : Bus) : post e (s.setBus b) = (post e s).setBus b := by
  by_cases h : s.phase = .resetHeld
  · rw [post_of_held h, post_of_held (by exact h)]
  · unfold post
    rw [if_neg h, if_neg (show ¬ (s.setBus b).phase = .resetHeld from h)]
    rfl

theorem discardCurrent_post (p : Txn → Bool) (e : Event) (s : State) :
    discardCurrent p (post e s) = post e (discardCurrent p s) := by
  unfold discardCurrent
  rw [post_bus]
  cases s.bus.current with
  | none => rfl
  | some c =>
    dsimp only
    split
    · rw [post_setBus]
    · rfl

/-- BUS_TRANSACTION_TIMEOUT ends the transaction on the bus as one that failed, at its tenth millisecond (R6). -/
theorem exec_timeout {s : State} {c : Current} (hc : s.bus.current = some c) :
    exec .busTransactionTimeout s =
      .next (finish (afterTxn c
        (if c.discarded then recoverBus (s.reach (c.grantedAt + 10))
         else txnFailed c (recoverBus (s.reach (c.grantedAt + 10)))))) := by
  refine congrArg _ (show (match s.bus.current with
    | some c => failTxn (fun _ => true) txnFailed (s.reach (c.grantedAt + busLimit))
    | none => s) = _ from ?_)
  rw [hc]
  exact endWith_some (by exact hc) rfl

theorem txnFailed_eeprom {c : Current} (h : c.txn = .eeprom) (s : State) : txnFailed c s = eepromFailed s := by
  simp only [txnFailed, h, txnExp]

/-- The result of an EEPROM transaction on the bus discarded. -/
theorem discardCurrent_eeprom (s : State) :
    discardCurrent (fun t => t == .eeprom) s =
      { s with bus := { s.bus with
          current := s.bus.current.map fun c => if c.txn = .eeprom then { c with discarded := true } else c } } := by
  obtain ⟨_, _, _, _, _, _, _, _, ⟨_, _, cur, _, _⟩, _⟩ := s
  cases cur with
  | none => rfl
  | some c =>
    simp only [discardCurrent, State.setBus, Option.map_some]
    by_cases h : c.txn = .eeprom <;> simp [h]

theorem eepromBusy_iff {s : State} :
    eepromBusy s = true ↔ s.bus.eeprom ≠ none ∨ ∃ c, s.bus.current = some c ∧ c.txn = .eeprom := by
  unfold eepromBusy
  cases s.bus.current <;> simp [Option.isSome_iff_ne_none]

theorem verifyPage_of_differ {page : Nat} {image data : List Byte} (h : data ≠ (image.drop (32 * page)).take 32) (s : State) :
    verifyPage page image data s = failSave .mismatch s := if_pos h

theorem verifyPage_of_next {page : Nat} {image data : List Byte} (h : data = (image.drop (32 * page)).take 32)
    (hp : page < 54) (s : State) : verifyPage page image data s = writePage (page + 1) image s := by
  rw [verifyPage, if_neg (by exact fun e => e h), if_pos (by exact hp)]

theorem verifyPage_of_last {image data : List Byte} (h : data = (image.drop (32 * 54)).take 32) (s : State) :
    verifyPage 54 image data s = endSave s := by
  rw [verifyPage, if_neg (by exact fun e => e h), if_neg (by decide)]

/-! ## What starts at a load end -/

/-- The initialisations of a list of expanders, queued one after another (R183). -/
theorem foldl_queueInit (r4 : Bool) (l : List (Fin 8)) (s : State) :
    l.foldl (fun t e => queueInit r4 e t) s =
      { s with
        exps := Vector.ofFn fun e : Fin 8 => if e ∈ l then { s.exp e with health := .init } else s.exp e
        bus := { s.bus with
          queue := s.bus.queue ++ l.flatMap fun e =>
            [.seq .initDirection e r4, .seq .initReadback e r4, .seq .initInput e r4] } } := by
  induction l generalizing s with
  | nil =>
    have same : (Vector.ofFn fun e : Fin 8 => s.exp e) = s.exps := by ext1 i hi; simp [State.exp]
    simp only [List.foldl_nil, List.not_mem_nil, if_false, same, List.flatMap_nil, List.append_nil]
  | cons e l ih =>
    rw [List.foldl_cons, ih, queueInit_eq]
    have exps : (Vector.ofFn fun k : Fin 8 =>
        if k ∈ l then { (s.setExp e { s.exp e with health := .init }).exp k with health := .init }
        else (s.setExp e { s.exp e with health := .init }).exp k) =
        Vector.ofFn fun k : Fin 8 => if k ∈ e :: l then { s.exp k with health := .init } else s.exp k := by
      refine congrArg _ (funext fun k => ?_)
      by_cases hk : e = k
      · subst hk
        simp
      · rw [State.exp_setExp_other _ _ hk]
        simp [Ne.symm hk]
    simp only [List.flatMap_cons, List.append_assoc, ← exps]
    rfl

theorem startReceivers_eq (s : State) :
    startReceivers s =
      { s with
        receivers :=
          ⟨{ Receiver.reset with started := true, staleDue := some (s.now + s.cfg.settings.a.stale * 1000) },
            if s.twoServices then
              { Receiver.reset with started := true, staleDue := some (s.now + s.cfg.settings.b.stale * 1000) }
            else s.receivers.b⟩ } := by
  unfold startReceivers presentSvcs
  by_cases h : s.twoServices = true
  · rw [if_pos h, if_pos h]
    rfl
  · rw [if_neg h, if_neg h]
    rfl

end Sys2Proof.Machine

namespace Sys2Proof.Proofs

open Sys2Proof.Machine

/-- Settles O24: each end of a save's transaction by the state of the store. -/
theorem saveRunsPageByPage : Obligations.SaveRunsPageByPage := by
  refine ⟨fun tag s h => ?_, fun s c page image data hc ht hd => ⟨fun bytes hop hst => ?_, fun written next hop hst => ⟨?_, ?_⟩,
      fun hop hst => ⟨fun hdata hp => ?_, fun hdata hp => ?_, fun hdata => ?_⟩⟩,
    fun s page image => ⟨fun c hc ht hd => ⟨fun bytes hop hst => ?_, fun hop hst => ?_⟩,
      fun c t hc ht hteq => ⟨fun hd => ?_, fun hd hst => ?_, fun hd hst => ?_⟩,
      fun written next hst => ⟨fun hnone hcur => ?_, fun hbusy => ?_, ?_⟩⟩⟩
  · exact congrArg _ (site_taken h .ok rfl)
  · refine congrArg _ ((endWith_eeprom hc ht hd (by simp [isPageWrite, hop])).trans (congrArg finish ?_))
    simp only [pageWriteDone, freeBus, State.setBus_store, hst]
    rfl
  · refine congrArg _ ((endWith_eeprom hc ht hd (by simp [hop])).trans (congrArg finish ?_))
    simp only [pollDone, freeBus, State.setBus_store, hst, if_true]
    rfl
  · refine congrArg _ ((endWith_eeprom hc ht hd (by simp [hop])).trans (congrArg finish ?_))
    simp only [pollDone, freeBus, State.setBus_store, hst, Bool.false_eq_true, if_false]
    rfl
  · refine congrArg _ ((endWith_eeprom hc ht hd (by simp [isPageRead, hop])).trans (congrArg finish ?_))
    simp only [pageReadDone, freeBus, State.setBus_store, hst, verifyPage_of_next hdata hp]
    rfl
  · subst hp
    refine congrArg _ ((endWith_eeprom hc ht hd (by simp [isPageRead, hop])).trans (congrArg finish ?_))
    simp only [pageReadDone, freeBus, State.setBus_store, hst, verifyPage_of_last hdata]
    rfl
  · refine congrArg _ ((endWith_eeprom hc ht hd (by simp [isPageRead, hop])).trans (congrArg finish ?_))
    simp only [pageReadDone, freeBus, State.setBus_store, hst, verifyPage_of_differ hdata]
    rfl
  · refine congrArg _ ((endWith_eeprom hc ht hd (by simp [isPageWrite, hop])).trans (congrArg finish ?_))
    simp only [eepromFailed, recoverBus, State.setBus_store, hst]
    rfl
  · refine congrArg _ ((endWith_eeprom hc ht hd (by simp [isPageRead, hop])).trans (congrArg finish ?_))
    simp only [eepromFailed, recoverBus, State.setBus_store, hst]
    rfl
  · rw [exec_timeout hc, hd, afterTxn_of_other (by rw [ht]; rfl)]
    rfl
  · rw [exec_timeout hc, hd, afterTxn_of_other (by rw [ht]; rfl), txnFailed_eeprom ht, hteq]
    rcases hst with hst | ⟨written, next, hst⟩ <;>
      simp only [eepromFailed, recoverBus, State.setBus_store, State.reach_store, hst] <;> rfl
  · rw [exec_timeout hc, hd, afterTxn_of_other (by rw [ht]; rfl), txnFailed_eeprom ht, hteq]
    simp only [eepromFailed, recoverBus, State.setBus_store, State.reach_store, hst]
    rfl
  · refine congrArg _ (show pollMoment s = _ from ?_)
    simp only [pollMoment, hst]
    refine if_neg fun hb => ?_
    rcases eepromBusy_iff.1 hb with hb | ⟨c, hc, ht⟩
    · exact hb hnone
    · exact hcur c hc ht
  · refine congrArg _ (show pollMoment s = _ from ?_)
    simp only [pollMoment, hst]
    exact if_pos (eepromBusy_iff.2 (by exact hbusy))
  · refine congrArg _ (show pollExpired s = _ from ?_)
    simp only [pollExpired, hst, failSave, discardCurrent_post, discardCurrent_eeprom]
    rfl

/-- Settles O25: the warm reset field by field, and the four resets. -/
theorem resetsAreTaken : Obligations.ResetsAreTaken := by
  have warm (v : Service) (m : Mode) :
      v.warm m = { Service.reset .manual with mode := m, edges := edgesTo v false false } := by
    rw [Service.warm, moveOutputs_eq]
    rfl
  refine ⟨fun s => ?_, fun svcs tag s => ⟨rfl, fun h => congrArg _ (if_neg h), fun h => congrArg _ (if_pos h),
    fun h hl => ?_, fun h hl => ?_, fun h => congrArg _ (if_neg h), fun h hl => ?_⟩⟩
  · rw [warmReset, warm, warm]
    rfl
  · refine congrArg _ ((if_pos h).trans (congrArg finish ?_))
    exact if_pos hl
  · refine congrArg _ ((if_pos h).trans (congrArg finish ?_))
    exact if_neg (by simp [hl])
  · refine congrArg _ (request_taken h .site tag 3 _ .ok
      (fun u => finish (startBlocks { warmReset u with twoServices := svcs })) ?_)
    refine congrArg (fun t => takenThen .ok t) ?_
    exact if_pos hl

/-- Settles O26: what starts at a load end, the pages of the load, and its end. -/
theorem loadEndStartsTheBlocks : Obligations.LoadEndStartsTheBlocks := by
  refine ⟨fun s => ?_, fun s c data page buffer hc ht hop hd hst => ⟨fun hp => ?_, fun hp => ?_, ?_, ?_, fun image u => ?_⟩,
    fun blank hb => ?_, fun s => ⟨fun h => ?_, fun h => ?_⟩⟩
  · rw [startBlocks, startReceivers_eq, queueInits, foldl_queueInit]
    simp only [List.mem_filter, List.mem_finRange, true_and]
    rfl
  · refine congrArg _ ((endWith_eeprom hc ht hd (by simp [isPageRead, hop])).trans (congrArg finish ?_))
    simp only [pageReadDone, freeBus, State.setBus_store, hst, loadPage]
    exact if_pos hp
  · refine congrArg _ ((endWith_eeprom hc ht hd (by simp [isPageRead, hop])).trans (congrArg finish ?_))
    simp only [pageReadDone, freeBus, State.setBus_store, hst, loadPage]
    exact if_neg (by rw [hp]; decide)
  · refine congrArg _ ((endWith_eeprom hc ht hd (by simp [isPageRead, hop])).trans (congrArg finish ?_))
    simp only [eepromFailed, recoverBus, State.setBus_store, hst]
    rfl
  · rw [exec_timeout hc, hd, afterTxn_of_other (by rw [ht]; rfl), txnFailed_eeprom ht]
    simp only [eepromFailed, recoverBus, State.setBus_store, State.reach_store, hst]
    rfl
  · cases image <;> rfl
  · subst hb; rfl
  · simp only [applyTimebase, h]
  · simp only [applyTimebase, h]
    rfl

end Sys2Proof.Proofs
end

section
/-! PROOFS. The contactor bus (O27, O28, O30, O31): lines and sensed states, the form of a transaction, the end of each kind,
and the scanner. -/

namespace Sys2Proof.Machine

/-! ## Sensed states derived again -/

/-- The sensed state a point has once every one is derived: an absent point keeps its own (R14). -/
def sensedNow (s : State) (i : Fin 32) : Sensed :=
  match s.pointRec i with
  | some r => deriveSensed s r
  | none => (s.point i).sensed

/-- The points whose sensed state changes when every one is derived, in ascending order (R14). -/
def changedPoints (s : State) : List (Fin 32) := (List.finRange 32).filter fun i => decide (sensedNow s i ≠ (s.point i).sensed)

/-- Every sensed state derived (R14). -/
def withSensed (s : State) : State :=
  { s with points := Vector.ofFn fun i : Fin 32 => { s.point i with sensed := sensedNow s i } }

theorem rederive_eq (s : State) : rederive s = (withSensed s, changedPoints s) := by
  have differs : (fun i => sensedNow s i != (s.point i).sensed) = fun i => decide (sensedNow s i ≠ (s.point i).sensed) :=
    funext fun i => Bool.eq_iff_iff.2 (by simp)
  rw [changedPoints, ← differs]
  rfl

theorem point_withSensed (s : State) (i : Fin 32) :
    (withSensed s).point i = { s.point i with sensed := sensedNow s i } := by
  simp [withSensed, State.point]

/-- The points with their sensed states as derived over another state, where that state gives the same site map. -/
theorem withSensed_eq {s t : State} (hp : t.points = s.points) (hr : ∀ i, t.pointRec i = s.pointRec i) {u : State}
    (hu : u = { t with
      points := Vector.ofFn fun i : Fin 32 =>
        match s.pointRec i with
        | some r => { s.point i with sensed := deriveSensed t r }
        | none => s.point i }) : u = withSensed t := by
  have same : (Vector.ofFn fun i : Fin 32 => { t.point i with sensed := sensedNow t i }) =
      Vector.ofFn fun i : Fin 32 =>
        match s.pointRec i with
        | some r => { s.point i with sensed := deriveSensed t r }
        | none => s.point i := by
    refine congrArg _ (funext fun i => ?_)
    simp only [sensedNow, State.point, hp, hr]
    cases s.pointRec i <;> rfl
  rw [hu, withSensed, same]

theorem changedPoints_eq {s t u : State} (hu : u = withSensed t) (hp : t.points = s.points) :
    (List.finRange 32).filter (fun i => decide ((u.point i).sensed ≠ (s.point i).sensed)) = changedPoints t := by
  refine congrArg (List.filter · _) (funext fun i => ?_)
  rw [hu, point_withSensed, show s.point i = t.point i by rw [State.point, State.point, hp]]

theorem reportSensed_eq (s : State) :
    reportSensed s =
      autoExitReading .b (changedPoints s) (autoExitReading .a (changedPoints s)
        (engineSensed (changedPoints s) (judgePoints (changedPoints s) (withSensed s)))) := by
  simp only [reportSensed, rederive_eq]

/-- The word read back gives the commanded positions of the points driven from the expander (R8, R16). -/
theorem readBack_points (e : Fin 8) (word : Half) (s : State) :
    (readBack e word s) =
      { s with
        points := Vector.ofFn fun i : Fin 32 =>
          match s.pointRec i with
          | some r =>
              if r.drive.exp = e then
                { s.point i with commanded := some (if word.getLsbD r.drive.line.val then .two else .one) }
              else s.point i
          | none => s.point i } := by
  simp only [readBack, State.mapPoints]
  refine congrArg (fun p => { s with points := p }) (congrArg _ (funext fun i => ?_))
  cases s.pointRec i with
  | none => rfl
  | some r =>
    by_cases h : r.drive.exp = e
    · simp only [h, beq_self_eq_true, if_true]; rfl
    · simp only [h, beq_eq_false_iff_ne.2 h, Bool.false_eq_true, if_false]; rfl

/-! ## Words -/

theorem directionWord_bit {s : State} {e : Fin 8} {n : Fin 16} :
    (directionWord s e).getLsbD n.val = true ↔ ∃ (i : Fin 32) (r : PointRec), s.pointRec i = some r ∧ r.drive = ⟨e, n⟩ := by
  rw [directionWord, BitVec.getLsbD_ofFnLE]
  simp only [n.isLt, dite_true, Fin.eta, isDriveLine, List.any_eq_true, List.mem_finRange, true_and]
  refine exists_congr fun i => ?_
  rw [State.pointRec]
  cases s.cfg.points[i] <;> simp

theorem outputWord_bit {s : State} {e : Fin 8} {n : Fin 16} :
    (outputWord s e).getLsbD n.val = true ↔
      ∃ (i : Fin 32) (r : PointRec), s.pointRec i = some r ∧ r.drive = ⟨e, n⟩ ∧ (s.point i).commanded = some .two := by
  rw [outputWord, BitVec.getLsbD_ofFnLE]
  simp only [n.isLt, dite_true, Fin.eta, List.any_eq_true, List.mem_finRange, true_and]
  refine exists_congr fun i => ?_
  cases s.pointRec i <;> simp

theorem sendWord_ofNat (n : Nat) : sendWord (BitVec.ofNat 16 n) = [.send (BitVec.ofNat 8 (n / 256)), .send (BitVec.ofNat 8 n)] := by
  rw [sendWord, halfBytes_ofNat]
  rfl

/-! ## The end of a transaction -/

theorem endWith_onBus {free : State → State} {isIt : Current → Bool} {result : Current → State → State} {s : State}
    {c : Current} {txn : Txn} (h : onBus s txn c) (hit : isIt c = true) :
    endWith free isIt result s = finish (afterTxn c (result c (free s))) := by
  obtain ⟨hc, _, hd⟩ := h
  rw [endWith_some hc hit, hd]
  rfl

theorem endWith_discarded {free : State → State} {isIt : Current → Bool} {result : Current → State → State} {s : State}
    {c : Current} (hc : s.bus.current = some c) (hd : c.discarded = true) (hit : isIt c = true) :
    endWith free isIt result s = finish (afterTxn c (free s)) := by
  rw [endWith_some hc hit, hd]
  rfl

theorem isSeq_of_seq {kind : SeqStep → Bool} {c : Current} {step : SeqStep} {e : Fin 8} {r4 : Bool}
    (h : c.txn = .seq step e r4) : isSeq kind c = kind step := by
  simp only [isSeq, h]

theorem afterTxn_iff {c : Current} {s : State} :
    (txnR4 c.txn && !r4Pending s) = true ↔ txnR4 c.txn = true ∧ (∀ q ∈ s.bus.queue, claimR4 q = false) ∧
      ∀ d, s.bus.current = some d → txnR4 d.txn = false := by
  rw [Bool.and_eq_true, Bool.not_eq_true', r4Pending_eq_false]

/-- With the bus free, only the waiting claims keep the exits from being tried (R57). -/
theorem afterTxn_of_free {c : Current} {s : State} (h : s.bus.current = none) :
    afterTxn c s = if txnR4 c.txn = true ∧ s.bus.queue.any claimR4 = false then autoExitAll s else s := by
  have pending : r4Pending s = s.bus.queue.any claimR4 := by simp [r4Pending, h]
  rw [afterTxn, pending]
  simp

/-! ## The scanner -/

theorem anyPending_iff {s : State} :
    anyPending s = true ↔ ∃ (e : Fin 8) (n : Fin 16) (d : Debounce), (s.exp e).lines[n].debounce = some d := by
  simp only [anyPending, List.any_eq_true, List.mem_finRange, true_and, Option.isSome_iff_exists]

theorem requestPass_of_none {s : State} (h : s.bus.scanner.pass = none) (periodic : Bool) :
    requestPass periodic s = startPass periodic s := by
  simp [requestPass, h]

theorem requestPass_of_some {s : State} {items : List ScanItem} (h : s.bus.scanner.pass = some items) (periodic : Bool) :
    requestPass periodic s =
      s.setScanner { s.bus.scanner with held := some (s.bus.scanner.held.getD false || periodic) } := by
  simp [requestPass, h]

theorem scannerReady_iff {s : State} :
    scannerReady s = true ↔
      loadEnded s = true ∧ s.bus.scanner.on = false ∧
        ∀ e, inUse s.cfg.points e = true → (s.exp e).health = .ok ∨ (s.exp e).health = .faulted := by
  simp only [scannerReady, allInUse, sequenceEnded, Bool.and_eq_true, Bool.not_eq_true', List.all_eq_true,
    List.mem_finRange, true_implies, Bool.or_eq_true, beq_iff_eq, and_assoc]
  refine and_congr_right fun _ => and_congr_right fun _ => forall_congr' fun e => ?_
  cases inUse s.cfg.points e <;> simp

theorem scanOnBus_eq_false {s : State} :
    scanOnBus s = false ↔ ∀ c, s.bus.current = some c → c.discarded = true ∨ ∀ e, c.txn ≠ .scan e ∧ c.txn ≠ .retry e := by
  unfold scanOnBus
  cases s.bus.current with
  | none => simp
  | some c =>
    simp only [Option.some.injEq, forall_eq']
    cases c.txn <;> simp

theorem passEnded_iff {s : State} :
    passEnded s = true ↔
      ∃ items, s.bus.scanner.pass = some items ∧ (∀ i ∈ items, eligible s i = false) ∧
        ∀ c, s.bus.current = some c → c.discarded = true ∨ ∀ e, c.txn ≠ .scan e ∧ c.txn ≠ .retry e := by
  unfold passEnded
  rw [← scanOnBus_eq_false]
  cases s.bus.scanner.pass <;> simp

end Sys2Proof.Machine

namespace Sys2Proof.Proofs

open Sys2Proof.Machine

/-- Settles O27: R13's table, R14's, the bits of the two words, and the items of each transaction. -/
theorem expanderLinesGiveSensedStates : Obligations.ExpanderLinesGiveSensedStates := by
  refine ⟨fun now interval acc d bit => ⟨fun h => ?_, fun h => ?_, fun h => ?_, fun h hlt => ?_, fun h hle => ?_⟩,
    fun s r a b ha hb => ?_, fun st pos => ?_, fun s e n => ⟨directionWord_bit, outputWord_bit⟩,
    fun c word page data opening sent hopen hsent => ?_⟩
  · simp only [sampleLine, if_pos h]
  · simp only [sampleLine, if_neg h]
  · simp only [sampleLine, if_pos h]
  · simp only [sampleLine, if_neg h, if_pos hlt]
  · simp only [sampleLine, if_neg h, if_neg (Nat.not_lt.2 hle)]
  · subst ha hb
    rw [deriveSensed, lineValue, lineValue]
    rcases (s.exp r.sense1.exp).lines[r.sense1.line].accepted with _ | _ | _ <;>
      rcases (s.exp r.sense2.exp).lines[r.sense2.line].accepted with _ | _ | _ <;> simp [sensedOf]
  · cases st <;> cases pos <;> simp [sensedAt]
  · have word_sent : sendWord word = sent word.toNat := by
      rw [hsent, ← sendWord_ofNat, BitVec.ofNat_toNat, BitVec.setWidth_eq]
    have page_sent : sendWord (pageAddress page) = sent (32 * page) := by rw [hsent, pageAddress, sendWord_ofNat]
    subst hopen
    refine ⟨fun h => ?_, fun h => ?_, fun h => ?_, fun h => ?_, fun h _ => ?_, fun h _ => ?_, fun h => ?_⟩
    · simp only [busForm, h, bodyForm, word_sent]; rfl
    · simp only [busForm, h, bodyForm, word_sent]; rfl
    · simp only [busForm, h, bodyForm]; rfl
    · simp only [busForm, h, bodyForm]; rfl
    · simp only [busForm, h, bodyForm, page_sent, List.append_assoc]; rfl
    · simp only [busForm, h, bodyForm, page_sent, List.append_assoc]; rfl
    · simp only [busForm, h, bodyForm]; rfl

/-- Settles O28: the steps of an initialisation, the confirmation read, and the ends of discarded transactions. -/
theorem initialisationTakesTheExpander : Obligations.InitialisationTakesTheExpander := by
  refine ⟨fun word e r4 c s => ⟨fun h => ?_, fun h => ?_, fun h => ?_⟩, fun word e c s => ⟨fun t h => ?_, fun h => ?_, fun h => ?_⟩,
    fun c s step e ts flag => ⟨fun last hlast => ?_, rfl, rfl, rfl, rfl, rfl, rfl, rfl⟩,
    fun word data acked c s t u after hc hd hafter ht hu => ?_⟩
  · refine congrArg _ ((endWith_onBus h (isSeq_of_seq h.2.1)).trans ?_)
    simp only [initStepDone, h.2.1]
    rfl
  · refine congrArg _ ((endWith_onBus h (isSeq_of_seq h.2.1)).trans ?_)
    simp only [initStepDone, h.2.1, readBack_points]
    refine congrArg (fun p => finish (afterTxn c { busFreed s with points := p })) (congrArg _ (funext fun i => ?_))
    rw [show (freeBus s).pointRec i = s.pointRec i from rfl]
    cases s.pointRec i <;> rfl
  · refine congrArg _ ((endWith_onBus h (isSeq_of_seq h.2.1)).trans ?_)
    simp only [initStepDone, h.2.1]
    rfl
  · refine congrArg _ (show (match (s.exp e).confirm with
      | .due t => finish (enqueue [.seq .confirmInput e false] ((s.reach t).setExp e { (s.reach t).exp e with confirm := .queued }))
      | _ => s) = _ from ?_)
    rw [h]
    rfl
  · refine congrArg _ (show (match (s.exp e).confirm with
      | .due t => finish (enqueue [.seq .confirmInput e false] ((s.reach t).setExp e { (s.reach t).exp e with confirm := .queued }))
      | _ => s) = _ from ?_)
    cases hconf : (s.exp e).confirm with
    | due t => exact absurd hconf (h t)
    | _ => rfl
  · refine congrArg _ ((endWith_onBus h (isSeq_of_seq h.2.1)).trans ?_)
    rw [afterTxn_of_other (by rw [h.2.1]; rfl)]
    simp only [confirmDone, h.2.1]
    rfl
  · rw [← afterTxn_iff] at hlast
    exact ⟨fun h => if_pos (hlast.1 h), fun h => if_neg fun e => h (hlast.2 e)⟩
  · have freed : finish (afterTxn c (freeBus s)) = t := by rw [ht, hafter, afterTxn_of_free rfl]; rfl
    have recovered : finish (afterTxn c (recoverBus s)) = u := by rw [hu, hafter, afterTxn_of_free rfl]; rfl
    have completed {isIt : Current → Bool} {result : Current → State → State} (h : isIt c = true) :
        endTxn isIt result s = t := (endWith_discarded hc hd h).trans freed
    have failed {isIt : Current → Bool} {result : Current → State → State} (h : isIt c = true) :
        failTxn isIt result s = u := (endWith_discarded hc hd h).trans recovered
    refine ⟨?_, ?_, ?_, ?_, ?_, ?_, ?_, ?_, ?_, fun h => ?_, fun h => ?_, ?_⟩
    · rintro ⟨step, e, r4, h, hstep⟩
      exact congrArg _ (completed ((isSeq_of_seq h).trans hstep))
    · rintro ⟨e, r4, h⟩
      exact congrArg _ (completed (isSeq_of_seq h))
    · rintro ⟨step, e, r4, h, hstep⟩
      exact congrArg _ (completed ((isSeq_of_seq h).trans hstep))
    · rintro ⟨e, r4, h | h⟩
      · exact congrArg _ (completed (isSeq_of_seq h))
      · exact congrArg _ (completed (isSeq_of_seq h))
    · rintro ⟨e, h⟩
      exact congrArg _ (completed (by simp [h]))
    · rintro ⟨e, h⟩
      exact congrArg _ (completed (by simp [h]))
    · rintro ⟨e, ts, live, h⟩
      exact congrArg _ (completed (by simp [h]))
    · rintro ⟨page, h⟩
      exact ⟨congrArg _ (completed (by simp [isPageRead, h])), congrArg _ (failed (by simp [isPageRead, h]))⟩
    · rintro ⟨page, bytes, h⟩
      exact ⟨congrArg _ (completed (by simp [isPageWrite, h])), congrArg _ (failed (by simp [isPageWrite, h]))⟩
    · exact congrArg _ (completed (by simp [h]))
    · exact congrArg _ (failed (by simpa [Option.isSome_iff_ne_none] using h))
    · rw [exec_timeout hc, if_pos hd, afterTxn_of_free rfl, hafter]
      rfl

/-- Settles O30: the steps of a restore, the points it judges, and the end of a rewrite. -/
theorem restoreBringsAnExpanderBack : Obligations.RestoreBringsAnExpanderBack := by
  refine ⟨fun word e c s => ⟨fun h => ?_, fun h => ?_, fun h hop => ?_, fun h t u changed judged ht hu hchanged hjudged => ?_⟩,
    fun e step c s hstep h => ?_⟩
  · refine congrArg _ ((endWith_onBus h (by simp [h.2.1])).trans ?_)
    rw [afterTxn_of_other (by rw [h.2.1]; rfl)]
    simp only [retryDone, h.2.1]
    rfl
  · rcases h with h | ⟨h, w, hop⟩
    · refine congrArg _ ((endWith_onBus h (isSeq_of_seq h.2.1)).trans ?_)
      rw [afterTxn_of_other (by rw [h.2.1]; rfl)]
      simp only [restoreStepDone, h.2.1]
      rfl
    · refine congrArg _ ((endWith_onBus h (isSeq_of_seq h.2.1)).trans ?_)
      rw [afterTxn_of_other (by rw [h.2.1]; rfl)]
      simp only [restoreStepDone, h.2.1, hop]
      rfl
  · refine congrArg _ ((endWith_onBus h (isSeq_of_seq h.2.1)).trans ?_)
    rw [afterTxn_of_other (by rw [h.2.1]; rfl)]
    simp only [restoreStepDone, h.2.1, hop, readBack_points]
    refine congrArg (fun p => finish { busFreed s with points := p }) (congrArg _ (funext fun i => ?_))
    rw [show (freeBus s).pointRec i = s.pointRec i from rfl]
    cases s.pointRec i <;> rfl
  · refine congrArg _ ((endWith_onBus h (isSeq_of_seq h.2.1)).trans ?_)
    rw [afterTxn_of_other (by rw [h.2.1]; rfl)]
    have hp : t.points = s.points := by rw [ht]; rfl
    have hu' : u = withSensed t := by
      refine withSensed_eq hp (fun i => by rw [ht]; rfl) (hu.trans ?_)
      refine congrArg (fun p => { t with points := p }) (congrArg _ (funext fun i => ?_))
      cases s.pointRec i <;> rfl
    have hchanged' : changed = changedPoints t := hchanged.trans (changedPoints_eq hu' hp)
    have hjudged' : judged = (List.finRange 32).filter fun i => (changedPoints t).contains i || liesOn t.cfg.points e i := by
      rw [hjudged, hchanged']
      refine congrArg (List.filter · _) (funext fun i => ?_)
      refine congrArg₂ (· || ·) (by simp) ?_
      rw [show t.cfg.points = s.cfg.points from by rw [ht]; rfl, State.pointRec, liesOn]
      cases s.cfg.points[i] with
      | none => rfl
      | some r =>
        simp only [recUses, Bool.decide_or, Bool.or_assoc]
        rfl
    have done : restoreStepDone word c (freeBus s) = restored e t := by
      rw [ht]
      simp only [restoreStepDone, h.2.1]
      cases c.op <;> rfl
    rw [done, hu', hjudged', hchanged']
    simp only [restored, rederive_eq]
  · have hit : isRewriteStep step = true := by rcases hstep with rfl | rfl <;> rfl
    refine congrArg _ ((endWith_onBus h ((isSeq_of_seq h.2.1).trans hit)).trans ?_)
    rw [afterTxn_of_free rfl, h.2.1]
    refine congrArg finish ?_
    cases hq : s.bus.queue.any claimR4
    · exact if_pos ⟨rfl, hq⟩
    · exact if_neg fun h => absurd (h.2.symm.trans hq) (by decide)

/-- Settles O31: the scanner's requests, what a pass reads, and when it starts and ends. -/
theorem scannerRequestsPasses : Obligations.ScannerRequestsPasses := by
  refine ⟨fun s t => ⟨fun ht hon harm hw => ?_, fun h => ?_, fun hl ha hon => ?_, fun hl ha hon => ?_, fun hl => congrArg _ (if_pos hl),
      fun hl => ⟨congrArg _ (if_pos (by simp [hl])), congrArg _ (if_neg (by simp [hl]))⟩⟩,
    fun s periodic => ⟨fun h => ?_, fun items h => ?_⟩, fun s => anyPending_iff,
    fun s => ⟨scannerReady_iff, fun t ht => ?_, passEnded_iff, fun t ht => ⟨fun h => ?_, fun periodic h => ?_⟩⟩⟩
  · have wanted : fastWanted s = true := by simp [fastWanted, hon, harm, hw]
    refine congrArg _ (show (match s.bus.scanner.lastStart with
      | some t =>
          if fastWanted s = true then
            finish (requestPass false ((s.reach (t + 4)).setScanner { (s.reach (t + 4)).bus.scanner with fastArmed := false }))
          else s
      | none => s) = _ from ?_)
    rw [ht]
    exact if_pos wanted
  · refine congrArg _ (show (match s.bus.scanner.periodicDue with
      | some t =>
          finish (requestPass true ((s.reach t).setScanner { (s.reach t).bus.scanner with periodicDue := some (t + 250) }))
      | none => s) = _ from ?_)
    rw [h]
    rfl
  · exact congrArg _ ((if_neg (by simp [hl, ha])).trans (if_pos hon))
  · exact congrArg _ ((if_neg (by simp [hl, ha])).trans (if_neg (by simp [hon])))
  · rw [requestPass_of_none h, startPass, passItems]
    rfl
  · have kept : (s.bus.scanner.held.getD false || periodic) =
        decide (s.bus.scanner.held = some true ∨ periodic = true) := by
      rcases s.bus.scanner.held with _ | _ | _ <;> cases periodic <;> rfl
    rw [requestPass_of_some h, kept]
    rfl
  · rw [ht]
    rfl
  · rw [ht]
    simp only [endPass, h]
    rfl
  · rw [endPass, h, requestPass_of_none (by rw [ht]), ht]
    rfl

end Sys2Proof.Proofs
end

section
/-! PROOFS. Scan reads, reported changes and the arbiter (O29, O32): what the engine does at a change and at an answer, and the
order of the claims. -/

namespace Sys2Proof.Machine

/-! ## The first entry a reason applies to -/

theorem firstReason_eq_none {f : Move → Option FaultReason} {ms : List Move} :
    firstReason f ms = none ↔ ∀ m ∈ ms, f m = none := by
  simp [firstReason, List.findSome?_eq_none_iff]

/-- In ascending point order the first entry with a reason is the lowest one that has any. -/
theorem firstReason_eq_some {f : Move → Option FaultReason} {ms : List Move} {m : Move} {r : FaultReason} (hm : m ∈ ms)
    (hr : f m = some r) (asc : ms.Pairwise fun a b => a.point < b.point)
    (low : ∀ n ∈ ms, f n ≠ none → m.point ≤ n.point) : firstReason f ms = some (m.point, r) := by
  obtain ⟨left, right, rfl⟩ := List.append_of_mem hm
  refine List.findSome?_eq_some_iff.2 ⟨left, m, right, rfl, by rw [hr]; rfl, fun n hn => ?_⟩
  rw [Option.map_eq_none_iff]
  by_contra hne
  exact absurd (low n (by simp [hn]) hne) (not_le.2 ((List.pairwise_append.1 asc).2.2 n hn m (by simp)))

theorem forwardReason_eq_some {s : State} {m : Move} {r : FaultReason} :
    forwardReason s m = some r ↔
      (s.point m.point).sensed = .unknown ∧ r = .expander ∨ (s.point m.point).sensed = .conflict ∧ r = .conflict ∨
        (s.point m.point).sensed ≠ .unknown ∧ (s.point m.point).sensed ≠ .conflict ∧ m.timer = .spent ∧
          sensedAt (s.point m.point).sensed m.toPos = false ∧ r = .noArrival := by
  unfold forwardReason
  cases (s.point m.point).sensed <;> simp [eq_comm (b := r), and_assoc]

theorem backwardReason_eq_some {s : State} {m : Move} {r : FaultReason} :
    backwardReason s m = some r ↔
      (s.point m.point).sensed = .unknown ∧ m.timer ≠ .off ∧ r = .expander ∨
        (s.point m.point).sensed ≠ .unknown ∧ m.timer = .spent ∧
          sensedAt (s.point m.point).sensed (backPos m) = false ∧ r = .noArrival := by
  unfold backwardReason
  cases (s.point m.point).sensed <;> simp [eq_comm (b := r), and_assoc]

/-! ## Reported changes -/

theorem engineSensed_of_none {changed : List (Fin 32)} {s : State} (h : s.job = none) : engineSensed changed s = s := by
  simp only [engineSensed, h]

theorem engineSensed_of_other {changed : List (Fin 32)} {s : State} {j : Job} (hj : s.job = some j)
    (h : j.stage = none ∨ j.phase = .muting ∨ (∃ d, j.phase = .paused d) ∨ j.phase = .rollback ∧ j.awaiting = true) :
    engineSensed changed s = s := by
  unfold engineSensed
  rw [hj]
  dsimp only
  rcases h with h | h | ⟨d, h⟩ | ⟨h, ha⟩
  · rw [h]
  · rw [h]
    cases j.stage <;> rfl
  · rw [h]
    cases j.stage <;> rfl
  · rw [h]
    cases j.stage with
    | none => rfl
    | some k => exact if_pos ha

/-- The changed points of the stage in TRANSFER (R88, R89). -/
theorem engineSensed_transfer {changed : List (Fin 32)} {s : State} {j : Job} {k : Fin 4} (hj : s.job = some j)
    (hk : j.stage = some k) (hp : j.phase = .transfer) {ms : List Move}
    (hms : ms = (stageMoves j k).filter fun m => changed.contains m.point) :
    (firstReason (forwardReason s) ms = none → engineSensed changed s = if ms.isEmpty then s else testStage j s) ∧
      ∀ i r, firstReason (forwardReason s) ms = some (i, r) → engineSensed changed s = transferFault j i r s := by
  unfold engineSensed
  rw [hj]
  simp only [hk, hp, ← hms]
  refine ⟨fun h => ?_, fun i r h => ?_⟩
  · rw [h]
  · rw [h]

/-- The changed points of the rollback stage (R97, R99). -/
theorem engineSensed_rollback {changed : List (Fin 32)} {s : State} {j : Job} {k : Fin 4} (hj : s.job = some j)
    (hk : j.stage = some k) (hp : j.phase = .rollback) (ha : j.awaiting = false) {ms : List Move}
    (hms : ms = (rollbackMoves j k).filter fun m => changed.contains m.point) :
    (firstReason (backwardReason s) ms = none → engineSensed changed s = if ms.isEmpty then s else testRollback j s) ∧
      ∀ i r, firstReason (backwardReason s) ms = some (i, r) → engineSensed changed s = rollbackFailed j i r s := by
  unfold engineSensed
  rw [hj]
  simp only [hk, hp, ha, Bool.false_eq_true, if_false, ← hms]
  refine ⟨fun h => ?_, fun i r h => ?_⟩
  · rw [h]
  · rw [h]

theorem stageMoves_changed (j : Job) (k : Fin 4) (changed : List (Fin 32)) :
    j.moves.filter (fun m => decide (m.stage = k ∧ m.point ∈ changed)) =
      (stageMoves j k).filter fun m => changed.contains m.point := by
  rw [stageMoves, List.filter_filter]
  exact congrArg (List.filter · j.moves) (funext fun m => Bool.eq_iff_iff.2 (by simp [and_comm]))

theorem rollbackMoves_changed (j : Job) (k : Fin 4) (changed : List (Fin 32)) :
    j.moves.filter (fun m => decide (m.stage = k ∧ m.driven = true ∧ m.fromPos ≠ none ∧ m.point ∈ changed)) =
      (rollbackMoves j k).filter fun m => changed.contains m.point := by
  rw [rollbackMoves, List.filter_filter]
  refine congrArg (List.filter · j.moves) (funext fun m => Bool.eq_iff_iff.2 ?_)
  simp only [decide_eq_true_eq, Bool.and_eq_true, List.contains_iff_mem, beq_iff_eq, Option.isSome_iff_ne_none]
  tauto

theorem keepsSite_engineSensed (changed : List (Fin 32)) (s : State) : KeepsSite s (engineSensed changed s) := by
  unfold engineSensed
  split
  · exact .refl s
  · split
    · dsimp only
      split
      · exact keepsSite_transferFault _ _ _ _
      · split
        · exact .refl s
        · exact keepsSite_testStage _ _
    · split
      · exact .refl s
      · dsimp only
        split
        · exact keepsSite_rollbackFailed _ _ _ _
        · split
          · exact .refl s
          · exact keepsSite_testRollback _ _
    · exact .refl s

/-- What follows the derivation of the sensed states leaves the site alone (R14). -/
theorem keepsSite_reportSensed (s : State) : KeepsSite (withSensed s) (reportSensed s) := by
  rw [reportSensed_eq]
  exact (((keepsSite_judgePoints _ _).trans (keepsSite_engineSensed _ _)).trans (keepsSite_autoExitReading _ _ _)).trans
    (keepsSite_autoExitReading _ _ _)

@[simp] theorem withSensed_exps (s : State) : (withSensed s).exps = s.exps := by simp only [withSensed]
@[simp] theorem withSensed_cfg (s : State) : (withSensed s).cfg = s.cfg := by simp only [withSensed]
@[simp] theorem withSensed_clock (s : State) : (withSensed s).clock = s.clock := by simp only [withSensed]

/-! ## Grants -/

theorem outputWord_occupy (t : Txn) (op : BusOp) (a : Nat) (s : State) (e : Fin 8) :
    outputWord (occupy t op a s) e = outputWord s e := rfl

theorem mem_presentSvcs {s : State} {x : Svc} : x ∈ presentSvcs s ↔ present s x = true := by
  unfold presentSvcs present
  cases s.twoServices <;> cases x <;> simp

theorem permitBars_iff {s : State} {t : Fin 32 × Pos} :
    permitBars s t = true ↔ (s.point t.1).commanded ≠ some t.2 ∧
      ∃ x, present s x = true ∧ hotHas s t.1 x = true ∧ (s.svc x).permit = true := by
  simp [permitBars, List.any_eq_true, mem_presentSvcs]

theorem grantDrive_refused {e : Fin 8} {ts : List (Fin 32 × Pos)} {s : State}
    (h : (s.exp e).health ≠ .ok ∨ ∃ t ∈ ts, permitBars s t = true) : grantDrive e ts s = answerNotSent ts s := by
  refine if_pos ?_
  simpa [List.any_eq_true] using h

theorem grantDrive_granted {e : Fin 8} {ts : List (Fin 32 × Pos)} {s : State} (hok : (s.exp e).health = .ok)
    (h : ∀ t ∈ ts, permitBars s t = false) :
    grantDrive e ts s =
      occupy (.drive e ts true) (.writeOutput (outputWord (command ts s) e)) (expAddress (command ts s) e) (command ts s) := by
  refine if_neg ?_
  simpa [hok] using h

theorem command_points (ts : List (Fin 32 × Pos)) (s : State) :
    (command ts s).points = Vector.ofFn fun i : Fin 32 =>
      match ts.find? (fun t => t.1 == i) with
      | some t => { s.point i with commanded := some t.2 }
      | none => s.point i := by
  simp only [command, State.mapPoints]
  refine congrArg _ (funext fun i => ?_)
  cases ts.find? (fun t => t.1 == i) <;> rfl

theorem grantNext_of_busy {s : State} (h : s.bus.current ≠ none) : grantNext s = none :=
  if_pos (Option.isSome_iff_ne_none.2 h)

theorem grantNext_of_free {s : State} (h : s.bus.current = none) :
    grantNext s =
      match s.bus.queue with
      | c :: rest => some (grantClaim c (s.setBus { s.bus with queue := rest }))
      | [] =>
          match (s.bus.scanner.pass.getD []).dropWhile fun i => !eligible s i with
          | item :: rest => some (grantScan item (s.setScanner { s.bus.scanner with pass := some rest }))
          | [] =>
              match s.bus.eeprom with
              | some op => some (occupy .eeprom op eepromAddress (s.setBus { s.bus with eeprom := none }))
              | none => none := by
  rw [grantNext, h]
  rfl

/-! ## Answers -/

/-- The entries of a write answered completed: driven, their limits running (R87). -/
theorem onTargets_startTimer (j : Job) (ts : List (Fin 32 × Pos)) (s : State) :
    onTargets j ts (startTimer s) =
      { j with
        moves := j.moves.map fun m =>
          if m.point ∈ ts.map Prod.fst then
            { m with
              driven := true
              timer := .running (s.now + match s.pointRec m.point with
                | some r => r.transit
                | none => 0) }
          else m } := by
  refine congrArg (fun ms => { j with moves := ms }) (congrArg (List.map · j.moves) (funext fun m => ?_))
  simp only [List.contains_iff_mem, startTimer, transitOf] <;> rfl

theorem onTargets_driven (j : Job) (ts : List (Fin 32 × Pos)) :
    (onTargets j ts fun m => { m with driven := true }) =
      { j with moves := j.moves.map fun m => if m.point ∈ ts.map Prod.fst then { m with driven := true } else m } := by
  refine congrArg (fun ms => { j with moves := ms }) (congrArg (List.map · j.moves) (funext fun m => ?_))
  simp only [List.contains_iff_mem]

theorem answerCompleted_of_none {ts : List (Fin 32 × Pos)} {s : State} (h : s.job = none) : answerCompleted ts s = s := by
  simp only [answerCompleted, h]

theorem answerCompleted_transfer {ts : List (Fin 32 × Pos)} {s : State} {j : Job} (hj : s.job = some j)
    (hp : j.phase = .transfer) :
    answerCompleted ts s = testStage (onTargets j ts (startTimer s)) (s.setJob (onTargets j ts (startTimer s))) := by
  simp only [answerCompleted, hj, hp]

theorem answerCompleted_rollback {ts : List (Fin 32 × Pos)} {s : State} {j : Job} (hj : s.job = some j)
    (hp : j.phase = .rollback) (ha : j.awaiting = false) :
    answerCompleted ts s = testRollback (onTargets j ts (startTimer s)) (s.setJob (onTargets j ts (startTimer s))) := by
  simp only [answerCompleted, hj, hp, ha, Bool.false_eq_true, if_false]

/-- The job once the answer rollback waits for has come (R97). -/
def answered97 (j : Job) (ts : List (Fin 32 × Pos)) : Job :=
  { onTargets j ts (fun m => { m with driven := true }) with awaiting := false }

theorem answerCompleted_awaiting {ts : List (Fin 32 × Pos)} {s : State} {j : Job} (hj : s.job = some j)
    (hp : j.phase = .rollback) (ha : j.awaiting = true) :
    answerCompleted ts s = rollbackNext (answered97 j ts) 4 false (s.setJob (answered97 j ts)) := by
  simp only [answerCompleted, hj, hp, ha, if_true]
  rfl

theorem answerFailedSent_awaiting {ts : List (Fin 32 × Pos)} {changed : List (Fin 32)} {s : State} {j : Job}
    (hj : s.job = some j) (hp : j.phase = .rollback) (ha : j.awaiting = true) :
    answerFailedSent ts changed s = rollbackNext (answered97 j ts) 4 false (s.setJob (answered97 j ts)) := by
  simp only [answerFailedSent, hj, hp, ha, if_true]
  rfl

/-! ## The point a failed write names -/

theorem lowestOf_eq {i n : Fin 32} {l : List (Fin 32)} (hn : n = i ∨ n ∈ l) (hi : n ≤ i) (hl : ∀ p ∈ l, n ≤ p) :
    lowestOf i l = n := by
  induction l generalizing i with
  | nil => simpa [lowestOf, eq_comm] using hn
  | cons p l ih =>
    have hp := hl p (by simp)
    refine ih ?_ (le_min hi hp) fun q hq => hl q (by simp [hq])
    rcases hn with rfl | hn
    · exact .inl (min_eq_left hp).symm
    · rcases List.mem_cons.1 hn with rfl | hn
      · exact .inl (min_eq_right hi).symm
      · exact .inr hn

/-- The points of the stage the engine takes as failed beside the first of the write (R89, R99). -/
theorem mem_unknownAmong {j : Job} {changed : List (Fin 32)} {s : State} {p : Fin 32} :
    p ∈ unknownAmong j changed s ↔
      p ∈ changed ∧ (s.point p).sensed = .unknown ∧
        ∃ m ∈ j.moves, j.stage = some m.stage ∧ m.point = p ∧
          (j.phase = .rollback → m.driven = true ∧ m.fromPos ≠ none ∧ m.timer ≠ .off) := by
  unfold unknownAmong
  cases hs : j.stage with
  | none => simp
  | some k =>
    have stage (ms : List Move) (cond : Move → Prop)
        (h : ∀ m, m ∈ ms ↔ m ∈ j.moves ∧ k = m.stage ∧ cond m) :
        p ∈ (ms.map Move.point).filter (fun i => changed.contains i && (s.point i).sensed == .unknown) ↔
          p ∈ changed ∧ (s.point p).sensed = .unknown ∧ ∃ m ∈ j.moves, some k = some m.stage ∧ m.point = p ∧ cond m := by
      simp only [List.mem_filter, List.mem_map, h, Bool.and_eq_true, List.contains_iff_mem, beq_iff_eq, Option.some.injEq]
      constructor
      · rintro ⟨⟨m, ⟨hm, hk, hc⟩, rfl⟩, hmem, hu⟩
        exact ⟨hmem, hu, m, hm, hk, rfl, hc⟩
      · rintro ⟨hmem, hu, m, hm, hk, rfl, hc⟩
        exact ⟨⟨m, ⟨hm, hk, hc⟩, rfl⟩, hmem, hu⟩
    cases hp : j.phase with
    | rollback =>
      refine (stage _ (fun m => m.driven = true ∧ m.fromPos ≠ none ∧ m.timer ≠ .off) fun m => ?_).trans (by simp)
      simp only [rollbackMoves, List.mem_filter, Bool.and_eq_true, beq_iff_eq, bne_iff_ne, Option.isSome_iff_ne_none,
        and_assoc, eq_comm (a := k)]
    | _ =>
      refine (stage _ (fun _ => True) fun m => ?_).trans (by simp)
      simp [stageMoves, eq_comm (a := k)]

end Sys2Proof.Machine

namespace Sys2Proof.Proofs

open Sys2Proof.Machine

/-- Settles O29: the debounce of a scan read, the report of the changes, and what the engine makes of them. -/
theorem scanReadDebouncesTheLines : Obligations.ScanReadDebouncesTheLines := by
  refine ⟨fun word e c s => ⟨fun h => ?_, fun h => ?_⟩, fun s => ?report, fun changed s fwd bwd hfwd hbwd => ⟨engineSensed_of_none,
    fun j hj => ⟨engineSensed_of_other hj, fun k ms hk => ⟨fun hp hms => ?_, fun hp ha hms => ?_⟩⟩⟩⟩
  case report =>
    have site := keepsSite_reportSensed s
    refine ⟨fun i => ?_, site.exps.trans (withSensed_exps s), site.cfg.trans (withSensed_cfg s),
      site.clock.trans (withSensed_clock s), fun u changed hu hc => ⟨rfl, ?_⟩⟩
    · refine (site.sensed i).trans ((congrArg PointState.sensed (point_withSensed s i)).trans (show sensedNow s i = _ from ?_))
      cases h : s.pointRec i <;> simp only [sensedNow, h]
    · have hu' : u = withSensed s := by
        refine withSensed_eq rfl (fun _ => rfl) (hu.trans ?_)
        refine congrArg (fun p => { s with points := p }) (congrArg _ (funext fun i => ?_))
        cases s.pointRec i <;> rfl
      rw [reportSensed_eq, hc, changedPoints_eq hu' rfl, hu']
  · refine congrArg _ ((endWith_onBus h (by simp [h.2.1])).trans ?_)
    rw [afterTxn_of_other (by rw [h.2.1]; rfl)]
    simp only [scanDone, h.2.1]
    rfl
  · refine congrArg _ (endWith_other fun c hc => ?_)
    cases htxn : c.txn with
    | scan f => exact absurd htxn (h c hc f)
    | _ => rfl
  · obtain ⟨clear, fault⟩ := engineSensed_transfer hj hk hp (hms.trans (stageMoves_changed j k changed))
    have reason (m : Move) (r : FaultReason) : forwardReason s m = some r ↔ fwd m r := forwardReason_eq_some.trans (hfwd m r).symm
    have none_iff : firstReason (forwardReason s) ms = none ↔ ∀ m ∈ ms, ∀ r, ¬ fwd m r := by
      rw [firstReason_eq_none]
      simp only [← reason, Option.eq_none_iff_forall_ne_some, ne_eq]
    refine ⟨fun h => ?_, fun hne hno => ?_, fun m hm r hr hasc hlow => ?_⟩
    · rw [clear (by rw [h]; rfl), h]; rfl
    · rw [clear (none_iff.2 hno), if_neg (by simpa using hne)]
    · refine fault _ _ (firstReason_eq_some hm ((reason m r).2 hr) hasc fun n hn hne => ?_)
      obtain ⟨q, hq⟩ := Option.ne_none_iff_exists'.1 hne
      exact hlow n hn q ((reason n q).1 hq)
  · obtain ⟨clear, fault⟩ := engineSensed_rollback hj hk hp ha (hms.trans (rollbackMoves_changed j k changed))
    have reason (m : Move) (r : FaultReason) : backwardReason s m = some r ↔ bwd m r :=
      backwardReason_eq_some.trans (hbwd m r).symm
    have none_iff : firstReason (backwardReason s) ms = none ↔ ∀ m ∈ ms, ∀ r, ¬ bwd m r := by
      rw [firstReason_eq_none]
      simp only [← reason, Option.eq_none_iff_forall_ne_some, ne_eq]
    refine ⟨fun h => ?_, fun hne hno => ?_, fun m hm r hr hasc hlow => ?_⟩
    · rw [clear (by rw [h]; rfl), h]; rfl
    · rw [clear (none_iff.2 hno), if_neg (by simpa using hne)]
    · refine fault _ _ (firstReason_eq_some hm ((reason m r).2 hr) hasc fun n hn hne => ?_)
      obtain ⟨q, hq⟩ := Option.ne_none_iff_exists'.1 hne
      exact hlow n hn q ((reason n q).1 hq)

/-- Settles O32: the grant of a drive write, the order of the claims, and the answers by phase. -/
theorem driveWritesAreArbitrated : Obligations.DriveWritesAreArbitrated := by
  refine ⟨fun e ts s => ⟨fun h => grantDrive_refused ?_, fun hok h => ?granted⟩, fun s => ⟨grantNext_of_busy, fun hc c rest hq => ?_,
      fun hc hq items item rest hp hd => ?_, fun hc hq hp op ho => ?_⟩,
    fun e ts c s => ⟨fun h => ?_, fun h => ?_, fun j hj hp => ?_⟩, fun i pos rest changed s => ⟨fun hj => ?_, fun j hj => ?failed⟩,
    fun ts s => ⟨answerCompleted_of_none, fun j hj => ⟨fun hp => ?_, fun hp ha j' hj' => ?_, fun hp ha j' t r hj' ht hr => ?_⟩⟩⟩
  case granted =>
    have clear : ∀ t ∈ ts, permitBars s t = false := by
      refine fun t ht => Bool.eq_false_iff.2 fun hb => ?_
      obtain ⟨hne, x, hx, hhot, hperm⟩ := permitBars_iff.1 hb
      rw [h t ht hne x hx hhot] at hperm
      cases hperm
    rw [grantDrive_granted hok clear, outputWord_occupy]
    refine ⟨?_, ?_, ?_⟩
    · refine (command_points ts s).trans (congrArg _ (funext fun i => ?_))
      cases ts.find? (fun t => t.1 == i) <;> rfl
    · simp [occupy, expAddress, command]
    · simp [occupy, command, State.setBus, State.mapPoints]
  case failed =>
    refine ⟨fun hp => ?_, fun hp => ?_, fun hp => ?_, fun late n hlate hn hi hlow => ?_⟩
    · rcases hp with hp | ⟨d, hp⟩ <;> simp only [answerNotSent, answerFailedSent, hj, hp, and_self]
    · simp only [answerNotSent, hj, hp, firstTarget]
    · simp only [answerNotSent, hj, hp, firstTarget]
    · have mem (p : Fin 32) : p ∈ unknownAmong j changed s ↔ late p := mem_unknownAmong.trans (hlate p).symm
      have named : lowestOf i (unknownAmong j changed s) = n :=
        lowestOf_eq (hn.imp_right (mem n).2) hi fun p hp => hlow p ((mem p).1 hp)
      have driven : (onTargets j ((i, pos) :: rest) fun m => { m with driven := true }) =
          { j with
            moves := j.moves.map fun m =>
              if m.point = i ∨ m.point ∈ rest.map Prod.fst then { m with driven := true } else m } := by
        rw [onTargets_driven]
        refine congrArg (fun ms => { j with moves := ms }) (congrArg (List.map · j.moves) (funext fun m => ?_))
        by_cases hm : m.point = i ∨ m.point ∈ rest.map Prod.fst
        · rw [if_pos hm, if_pos (by simpa using hm)]
        · rw [if_neg hm, if_neg (by simpa using hm)]
      refine ⟨fun hp j' hj' => ?_, fun hp ha => ?_⟩
      · simp only [answerFailedSent, hj, hp, firstTarget, named, driven, hj']
        rfl
      · simp only [answerFailedSent, hj, hp, firstTarget, named, ha, Bool.false_eq_true, if_false]
  · rcases h with h | ⟨t, ht, hne, hx⟩
    · exact .inl h
    · exact .inr ⟨t, ht, permitBars_iff.2 ⟨hne, hx⟩⟩
  · rw [grantNext_of_free hc, hq]
    rfl
  · rw [grantNext_of_free hc, hq, hp]
    simp only [Option.getD_some, hd]
    rfl
  · have nothing : ((s.bus.scanner.pass.getD []).dropWhile fun i => !eligible s i) = [] := by
      rw [List.dropWhile_eq_nil_iff]
      intro i hi
      cases hpass : s.bus.scanner.pass with
      | none => rw [hpass] at hi; simp at hi
      | some items =>
        rw [hpass] at hi
        simp [hp items hpass i hi]
    rw [grantNext_of_free hc, hq]
    simp only [nothing, ho]
    rfl
  · refine congrArg _ ((endWith_onBus h (by simp [h.2.1])).trans ?_)
    rw [afterTxn_of_other (by rw [h.2.1]; rfl)]
    simp only [driveDone, h.2.1]
    rfl
  · refine congrArg _ ((endWith_onBus h (by simp [h.2.1])).trans ?_)
    rw [afterTxn_of_other (by rw [h.2.1]; rfl)]
    simp only [driveDone, h.2.1]
    rfl
  · rw [answerCompleted_transfer hj hp, onTargets_startTimer]
    rfl
  · simp only [answerNotSent, answerFailedSent, hj, and_self]
  · rcases hp with hp | ⟨d, hp⟩ <;> simp only [answerCompleted, hj, hp]
  · rw [answerCompleted_rollback hj hp ha, onTargets_startTimer, hj']
    rfl
  · have hj'' : j' = answered97 j ts := by rw [hj', answered97, onTargets_driven]
    have run : r = rollbackNext j' 4 false t := by
      rw [ht, hj'']
      rcases hr with hr | ⟨changed, hr⟩
      · rw [hr, answerCompleted_awaiting hj hp ha]; rfl
      · rw [hr, answerFailedSent_awaiting hj hp ha]; rfl
    rw [run]
    refine ⟨fun hnone => rollbackNext_of_none (nextRollback_eq_none.2 fun m hm _ hd => ?_), fun k hk hhigh => ?_⟩
    · rcases hnone m hm with h | h
      · rw [hd.1] at h; cases h
      · exact hd.2 h
    · have hnext : nextRollback j' 4 = some k := nextRollback_eq_some k.isLt hk fun m hm hd _ => hhigh m hm hd.1 hd.2
      have hblock : blocking t j' = blocking s j := by rw [ht, hj'']; rfl
      refine ⟨fun hn => rollbackNext_of_clear hnext (hblock.trans hn), fun n hn => ?_⟩
      rw [rollbackNext_of_blocked hnext (hblock.trans hn), hj'']
      rfl

end Sys2Proof.Proofs
end

section
/-! PROOFS. A failed transaction (O33): the bus that a failure frees stays free through all that is reported, and what the
failure does by the expander's health. -/

namespace Sys2Proof.Machine

/-! ## A bus that is free stays free -/

/-- An operation that grants nothing: with the bus free before it, the bus is free after it. -/
def StaysFree (s t : State) : Prop := s.bus.current = none → t.bus.current = none

theorem StaysFree.of_current {s t : State} (h : t.bus.current = s.bus.current) : StaysFree s t := fun hs => h.trans hs

theorem StaysFree.of_bus {s t : State} (h : t.bus = s.bus) : StaysFree s t := .of_current (congrArg Bus.current h)

theorem StaysFree.refl (s : State) : StaysFree s s := id

theorem StaysFree.trans {s t u : State} (h : StaysFree s t) (k : StaysFree t u) : StaysFree s u := fun hs => k (h hs)

theorem StaysFree.foldl {α : Type} {f : State → α → State} (hf : ∀ s a, StaysFree s (f s a)) (l : List α) (s : State) :
    StaysFree s (l.foldl f s) := by
  induction l generalizing s with
  | nil => exact .refl s
  | cons a l ih => exact (hf s a).trans (ih (f s a))

theorem staysFree_post (e : Event) (s : State) : StaysFree s (post e s) := .of_bus (post_bus e s)

theorem staysFree_postEach (xs : List Svc) (f : Svc → Event) (s : State) : StaysFree s (postEach xs f s) :=
  .foldl (fun _ _ => staysFree_post _ _) xs s

theorem staysFree_setJob (s : State) (j : Job) : StaysFree s (s.setJob j) := .of_bus rfl

theorem staysFree_setJobNone (s : State) : StaysFree s { s with job := none } := .of_bus rfl

theorem staysFree_clearMarks (s : State) : StaysFree s (clearMarks s) := .of_bus (State.mapPoints_bus _ _)

theorem staysFree_withdrawWrites (s : State) : StaysFree s (withdrawWrites s) := .of_current rfl

theorem staysFree_requestWrites (ts : List (Fin 32 × Pos)) (s : State) : StaysFree s (requestWrites ts s) :=
  .of_current (by simp [requestWrites, markPoints])

theorem staysFree_toUndetermined (x : Svc) (s : State) : StaysFree s (toUndetermined x s) := .of_bus (by simp [toUndetermined])

theorem staysFree_toHeld (x : Svc) (c : HoldCause) (s : State) : StaysFree s (toHeld x c s) := .of_bus (toHeld_bus x c s)

theorem staysFree_throughEntryCheck (x : Svc) (s : State) : StaysFree s (throughEntryCheck x s) := by
  unfold throughEntryCheck
  split
  · exact staysFree_toUndetermined _ _
  · exact staysFree_toHeld _ _ _
  · exact staysFree_toHeld _ _ _
  · exact .of_bus (enterVerifying_bus _ _)

theorem staysFree_releaseAll (j : Job) (s : State) : StaysFree s (releaseAll j s) := by
  have released := StaysFree.foldl (fun t x => staysFree_throughEntryCheck x t) (mutedSvcs j) s
  exact (released.trans (staysFree_clearMarks _)).trans (staysFree_setJobNone _)

theorem staysFree_succeed (j : Job) (s : State) : StaysFree s (succeed j s) :=
  (StaysFree.foldl (fun _ _ => .of_bus (by simp [applyChange])) j.changing s).trans (staysFree_releaseAll _ _)

theorem staysFree_rollbackDone (j : Job) (s : State) : StaysFree s (rollbackDone j s) :=
  (staysFree_postEach _ _ _).trans (staysFree_releaseAll _ _)

theorem staysFree_runRollbackStage (j : Job) (k : Fin 4) (s : State) : StaysFree s (runRollbackStage j k s) :=
  (staysFree_setJob _ _).trans (staysFree_requestWrites _ _)

theorem staysFree_rollbackNext (j : Job) (n : Nat) (quiet : Bool) (s : State) : StaysFree s (rollbackNext j n quiet s) := by
  unfold rollbackNext
  split
  · exact staysFree_rollbackDone _ _
  · split
    · dsimp only
      split
      · exact staysFree_setJob _ _
      · exact (staysFree_setJob _ _).trans (staysFree_postEach _ _ _)
    · exact staysFree_runRollbackStage _ _ _

theorem staysFree_startRollback (j : Job) (c : RollbackCause) (quiet : Bool) (s : State) :
    StaysFree s (startRollback j c quiet s) := by
  have ended : StaysFree s (clearMarks (withdrawWrites s)) := (staysFree_withdrawWrites s).trans (staysFree_clearMarks _)
  unfold startRollback
  dsimp only
  split
  · exact ended.trans (staysFree_setJob _ _)
  · exact (ended.trans (staysFree_setJob _ _)).trans (staysFree_rollbackNext _ _ _ _)

theorem staysFree_transferFault (j : Job) (i : Fin 32) (r : FaultReason) (s : State) : StaysFree s (transferFault j i r s) :=
  (staysFree_postEach _ _ _).trans (staysFree_startRollback _ _ _ _)

theorem staysFree_disownWrite (s : State) : StaysFree s (disownWrite s) := by
  intro h
  rw [disownWrite, h]
  exact h

theorem staysFree_failService (j : Job) (x : Svc) (s : State) : StaysFree s (failService j x s) := by
  unfold failService
  split
  · exact (StaysFree.of_bus (State.setSvc_bus _ _ _)).trans (staysFree_toUndetermined _ _)
  · exact staysFree_toHeld _ _ _

theorem staysFree_rollbackFailed (j : Job) (i : Fin 32) (r : FaultReason) (s : State) :
    StaysFree s (rollbackFailed j i r s) := by
  have posted := ((staysFree_withdrawWrites s).trans (staysFree_disownWrite _)).trans
    (staysFree_postEach (mutedSvcs j) (fun x => .rollbackFailed x i r) _)
  have failed := posted.trans (StaysFree.foldl (fun t x => staysFree_failService j x t) (mutedSvcs j) _)
  exact (failed.trans (staysFree_clearMarks _)).trans (staysFree_setJobNone _)

theorem staysFree_beginStage (j : Job) (k : Fin 4) (s : State) : StaysFree s (beginStage j k s) := by
  unfold beginStage
  dsimp only
  split
  · exact (staysFree_setJob _ _).trans (staysFree_postEach _ _ _)
  · split
    · exact (staysFree_setJob _ _).trans (staysFree_transferFault _ _ _ _)
    · exact (staysFree_setJob _ _).trans (staysFree_requestWrites _ _)

theorem staysFree_testStage (j : Job) (s : State) : StaysFree s (testStage j s) := by
  have tested : StaysFree s (clearMarks (s.setJob (stopTimers j))) := (staysFree_setJob _ _).trans (staysFree_clearMarks _)
  unfold testStage
  split
  · exact .refl s
  · split
    · dsimp only
      split
      · exact tested.trans (staysFree_beginStage _ _ _)
      · exact tested.trans (staysFree_succeed _ _)
    · exact .refl s

theorem staysFree_testRollback (j : Job) (s : State) : StaysFree s (testRollback j s) := by
  unfold testRollback
  split
  · exact .refl s
  · split
    · exact ((staysFree_setJob _ _).trans (staysFree_clearMarks _)).trans (staysFree_rollbackNext _ _ _ _)
    · exact .refl s

theorem staysFree_engineSensed (changed : List (Fin 32)) (s : State) : StaysFree s (engineSensed changed s) := by
  unfold engineSensed
  split
  · exact .refl s
  · split
    · dsimp only
      split
      · exact staysFree_transferFault _ _ _ _
      · split
        · exact .refl s
        · exact staysFree_testStage _ _
    · split
      · exact .refl s
      · dsimp only
        split
        · exact staysFree_rollbackFailed _ _ _ _
        · split
          · exact .refl s
          · exact staysFree_testRollback _ _
    · exact .refl s

theorem staysFree_answerFailedSent (ts : List (Fin 32 × Pos)) (changed : List (Fin 32)) (s : State) :
    StaysFree s (answerFailedSent ts changed s) := by
  unfold answerFailedSent
  split
  · exact .refl s
  · dsimp only
    split
    · exact (staysFree_setJob _ _).trans (staysFree_transferFault _ _ _ _)
    · split
      · exact (staysFree_setJob _ _).trans (staysFree_rollbackNext _ _ _ _)
      · exact staysFree_rollbackFailed _ _ _ _
    · exact .refl s

theorem staysFree_reportFailure (c : Current) (changed : List (Fin 32)) (s : State) :
    StaysFree s (reportFailure c changed s) := by
  unfold reportFailure
  split
  · exact staysFree_answerFailedSent _ _ _
  · exact staysFree_engineSensed _ _

theorem staysFree_disturbDriven (e : Fin 8) (posted : List (Fin 32)) (s : State) (i : Fin 32) :
    StaysFree s (disturbDriven e posted s i) := by
  rw [disturbDriven_eq]
  split
  · exact .of_bus (by simp [disturb])
  · exact .refl s

theorem staysFree_autoExitReading (x : Svc) (l : List (Fin 32)) (s : State) : StaysFree s (autoExitReading x l s) := by
  unfold autoExitReading
  split
  · exact .of_bus (autoExit_bus _ _)
  · exact .refl s

/-! ## A failed transaction to an OK expander -/

/-- An expander FAULTED: its lines' values discarded (R15). -/
def faultedExpander : Expander :=
  { health := .faulted, lines := Vector.replicate 16 ⟨none, none⟩, confirm := .none }

/-- The first step of a failure: the expander FAULTED, its confirmation read no longer called for, and EXPANDER_FAULT
(R15). -/
def faultPosted (c : Current) (e : Fin 8) (s : State) : State :=
  post (.expanderFault e (failedOpOf c))
    { s with
      exps := s.exps.set e faultedExpander
      bus := { s.bus with queue := s.bus.queue.filter fun q => !isStepOf (· == .confirmInput) e q } }

/-- A failure's points judged, the engine told, and the points driven from the expander disturbed (R15). -/
theorem failOk_eq {c : Current} {e : Fin 8} {s t : State} (ht : t = faultPosted c e s) :
    failOk c e s =
      autoExitReading .b (changedPoints t) (autoExitReading .a (changedPoints t)
        ((List.finRange 32).foldl (disturbDriven e ((changedPoints t).filter (isDisturbed (withSensed t))))
          (reportFailure c (changedPoints t) (judgePoints (changedPoints t) (withSensed t))))) := by
  subst ht
  simp only [failOk, rederive_eq]
  rfl

theorem keepsSite_answerFailedSent (ts : List (Fin 32 × Pos)) (changed : List (Fin 32)) (s : State) :
    KeepsSite s (answerFailedSent ts changed s) := by
  unfold answerFailedSent
  split
  · exact .refl s
  · dsimp only
    split
    · exact (keepsSite_setJob _ _).trans (keepsSite_transferFault _ _ _ _)
    · split
      · exact (keepsSite_setJob _ _).trans (keepsSite_rollbackNext _ _ _ _)
      · exact keepsSite_rollbackFailed _ _ _ _
    · exact .refl s

theorem keepsSite_reportFailure (c : Current) (changed : List (Fin 32)) (s : State) :
    KeepsSite s (reportFailure c changed s) := by
  unfold reportFailure
  split
  · exact keepsSite_answerFailedSent _ _ _
  · exact keepsSite_engineSensed _ _

theorem keepsSite_disturbDriven (e : Fin 8) (posted : List (Fin 32)) (s : State) (i : Fin 32) :
    KeepsSite s (disturbDriven e posted s i) := by
  rw [disturbDriven_eq]
  split
  · exact keepsSite_disturb _ _
  · exact .refl s

/-- All that follows the derivation at a failure leaves the site alone (R15). -/
theorem keepsSite_failOk (c : Current) (e : Fin 8) (s : State) :
    KeepsSite (withSensed (faultPosted c e s)) (failOk c e s) := by
  rw [failOk_eq rfl]
  exact ((((keepsSite_judgePoints _ _).trans (keepsSite_reportFailure _ _ _)).trans
    (.foldl (fun _ _ => keepsSite_disturbDriven _ _ _ _) _ _)).trans (keepsSite_autoExitReading _ _ _)).trans
    (keepsSite_autoExitReading _ _ _)

theorem staysFree_judgePoints (l : List (Fin 32)) (s : State) : StaysFree s (judgePoints l s) :=
  .foldl (fun _ _ => .of_bus (judgePoint_bus _ _)) l s

theorem staysFree_failOk (c : Current) (e : Fin 8) (s : State) : StaysFree s (failOk c e s) := by
  have first : StaysFree s (withSensed (faultPosted c e s)) := .of_current (by simp [withSensed, faultPosted])
  rw [failOk_eq rfl]
  exact ((((first.trans (staysFree_judgePoints _ _)).trans (staysFree_reportFailure _ _ _)).trans
    (.foldl (fun _ _ => staysFree_disturbDriven _ _ _ _) _ _)).trans (staysFree_autoExitReading _ _ _)).trans
    (staysFree_autoExitReading _ _ _)

/-- With no point changed the engine is told nothing. -/
theorem engineSensed_nil (s : State) : engineSensed [] s = s := by
  cases hj : s.job with
  | none => exact engineSensed_of_none hj
  | some j =>
    cases hk : j.stage with
    | none => exact engineSensed_of_other hj (.inl hk)
    | some k =>
      have none_changed (ms : List Move) : [] = ms.filter fun m => ([] : List (Fin 32)).contains m.point := by simp
      cases hp : j.phase with
      | muting => exact engineSensed_of_other hj (.inr (.inl hp))
      | paused d => exact engineSensed_of_other hj (.inr (.inr (.inl ⟨d, hp⟩)))
      | transfer => exact (engineSensed_transfer hj hk hp (none_changed _)).1 rfl
      | rollback =>
        cases ha : j.awaiting with
        | true => exact engineSensed_of_other hj (.inr (.inr (.inr ⟨hp, ha⟩)))
        | false => exact (engineSensed_rollback hj hk hp ha (none_changed _)).1 rfl

theorem reportFailure_nil {c : Current} (h : ∀ f ts, c.txn ≠ .drive f ts true) (s : State) : reportFailure c [] s = s := by
  unfold reportFailure
  split
  · next ts htxn => exact absurd htxn (h _ _)
  · exact engineSensed_nil s

/-! ## A failed transaction by the expander's health -/

/-- A failed transaction for an expander: the bus is recovered, its result handed on unless it is discarded, and then what
a WRITE_POINT queued may have ended with it (R6, R15, R57). -/
theorem exec_failed {s : State} {c : Current} {e : Fin 8} (hc : s.bus.current = some c) (he : txnExp c.txn = some e) :
    exec .expanderTransactionFailed s =
      .next (finish (afterTxn c (if c.discarded then recoverBus s else expanderFailed c e (recoverBus s)))) := by
  have handed : expanderTxnFailed c (recoverBus s) = expanderFailed c e (recoverBus s) := by
    simp only [expanderTxnFailed, he]
  rw [← handed]
  exact congrArg _ (endWith_some hc (by simp [he]))

/-- A time-out is a failure at its moment (R6). -/
theorem exec_timeout_failed {s : State} {c : Current} {e : Fin 8} (hc : s.bus.current = some c)
    (he : txnExp c.txn = some e) :
    exec .busTransactionTimeout s = exec .expanderTransactionFailed { s with now := max s.now (c.grantedAt + 10) } := by
  have handed (t : State) : txnFailed c t = expanderFailed c e t := by simp only [txnFailed, he]
  rw [exec_timeout hc, handed, exec_failed (by exact hc) he]
  rfl

theorem expanderFailed_ok {s : State} {c : Current} {e : Fin 8} (h : (s.exp e).health = .ok) :
    expanderFailed c e s = failOk c e s := by
  simp only [expanderFailed, h]

theorem expanderFailed_init {s : State} {c : Current} {e : Fin 8} (h : (s.exp e).health = .init) :
    expanderFailed c e s = failInit c e s := by
  simp only [expanderFailed, h]

theorem expanderFailed_faulted {s : State} {c : Current} {e : Fin 8} (h : (s.exp e).health = .faulted) :
    expanderFailed c e s = failFaulted c e s := by
  simp only [expanderFailed, h]

/-- A failure at a FAULTED expander that is not of a drive write: a restore step takes the rest of its restore with it
(R15, R16). -/
theorem failFaulted_eq {c : Current} (h : ∀ f ts, c.txn ≠ .drive f ts true) (e : Fin 8) (s : State) :
    failFaulted c e s = if isSeq isRestoreStep c then dropClaims (isStepOf isRestoreStep e) s else s :=
  reportFailure_nil h _

/-- The bus stays free at a failure that is reported by its record alone. -/
theorem staysFree_failInit (c : Current) (e : Fin 8) (s : State) : StaysFree s (failInit c e s) := by
  rw [failInit_eq]
  refine .of_current ?_
  split <;> simp [dropClaims, forgetCommands]

/-- A failure in INIT: the rest of the initialisation unsent, and its points without a commanded position where its readback
has not completed (R8, R15). -/
theorem failInit_state (c : Current) (e : Fin 8) (s : State) :
    failInit c e s =
      post (.expanderFault e (failedOpOf c))
        { s with
          exps := s.exps.set e faultedExpander
          points := if readbackOutstanding c e s = true then (forgetCommands e s).points else s.points
          bus := { s.bus with
            queue := s.bus.queue.filter fun q => !isStepOf isInitStep e q && !isStepOf (· == .confirmInput) e q } } := by
  have both : (s.bus.queue.filter fun q => !isStepOf isInitStep e q).filter (fun q => !isStepOf (· == .confirmInput) e q) =
      s.bus.queue.filter fun q => !isStepOf isInitStep e q && !isStepOf (· == .confirmInput) e q := by
    rw [List.filter_filter]
    exact congrArg (List.filter · _) (funext fun q => Bool.and_comm _ _)
  have dropped (t : State) (hq : t.bus.queue = s.bus.queue) :
      dropClaims (isStepOf (· == .confirmInput) e)
          ((dropClaims (isStepOf isInitStep e) t).setExp e { health := .faulted, lines := noLines, confirm := .none }) =
        { t with
          exps := t.exps.set e faultedExpander
          bus := { t.bus with
            queue := s.bus.queue.filter fun q => !isStepOf isInitStep e q && !isStepOf (· == .confirmInput) e q } } := by
    rw [← both, ← hq]
    rfl
  rw [failInit_eq, dropped _ (by split <;> rfl)]
  refine congrArg (post _) ?_
  by_cases h : readbackOutstanding c e s = true
  · rw [if_pos h, if_pos h]
    simp only [forgetCommands, State.mapPoints]
  · rw [if_neg h, if_neg h]

/-- The points a failed initialisation leaves without a commanded position. -/
theorem forgetCommands_points (e : Fin 8) (s : State) :
    (forgetCommands e s).points =
      Vector.ofFn fun i : Fin 32 =>
        match s.pointRec i with
        | some r => if r.drive.exp = e then { s.point i with commanded := none } else s.point i
        | none => s.point i := by
  refine congrArg Vector.ofFn (funext fun i => ?_)
  have from_iff : drivenFrom s.cfg.points e i = true ↔ ∃ r, s.pointRec i = some r ∧ r.drive.exp = e := by
    unfold drivenFrom State.pointRec
    split
    · next r hr => simp [hr]
    · next hr => simp [hr]
  cases hr : s.pointRec i with
  | none => exact if_neg (by simp [from_iff, hr])
  | some r => exact ite_congr (propext (by simp [from_iff, hr])) (fun _ => rfl) (fun _ => rfl)

/-- A step of an initialisation is not its readback, and none waits, exactly where the commands are known (R8). -/
theorem readbackOutstanding_iff {c : Current} {e : Fin 8} {s : State} (hc : txnExp c.txn = some e) :
    readbackOutstanding c e s = true ↔
      ∃ r4, c.txn = .seq .initReadback e r4 ∨ .seq .initReadback e r4 ∈ s.bus.queue := by
  have current : isSeq (· == .initReadback) c = true ↔ ∃ r4, c.txn = .seq .initReadback e r4 := by
    cases ht : c.txn with
    | seq step f r4 =>
      have hf : f = e := by simpa [ht, txnExp] using hc
      simp [isSeq, ht, hf]
    | _ => simp [isSeq, ht]
  have waiting : s.bus.queue.any (isStepOf (· == .initReadback) e) = true ↔ ∃ r4, .seq .initReadback e r4 ∈ s.bus.queue := by
    rw [List.any_eq_true]
    constructor
    · rintro ⟨q, hq, his⟩
      cases q with
      | seq step f r4 =>
        obtain ⟨rfl, rfl⟩ : step = .initReadback ∧ f = e := by simpa [isStepOf] using his
        exact ⟨r4, hq⟩
      | drive f ts => simp [isStepOf] at his
    · rintro ⟨r4, hq⟩
      exact ⟨_, hq, by simp [isStepOf]⟩
  rw [readbackOutstanding, Bool.or_eq_true, current, waiting, exists_or]

theorem pointRec_failOk (c : Current) (e : Fin 8) (s : State) (i : Fin 32) :
    (failOk c e s).pointRec i = s.pointRec i := by
  have cfg : (failOk c e s).cfg = s.cfg := (keepsSite_failOk c e s).cfg.trans (by simp [withSensed, faultPosted])
  rw [State.pointRec, State.pointRec, cfg]

theorem failOk_exp (c : Current) (e : Fin 8) (s : State) (n : Fin 8) :
    (failOk c e s).exp n = if n = e then faultedExpander else s.exp n := by
  have exps : (failOk c e s).exps = s.exps.set e faultedExpander :=
    (keepsSite_failOk c e s).exps.trans (by simp [withSensed, faultPosted])
  rw [State.exp, exps, Fin.getElem_fin, Vector.getElem_set]
  simp only [Fin.ext_iff, eq_comm (a := n.val)]
  rfl

/-- A point with a sense line on a FAULTED expander is UNKNOWN (R13, R14). -/
theorem sensedNow_faulted {s : State} {e : Fin 8} {i : Fin 32} {r : PointRec} (he : s.exp e = faultedExpander)
    (hr : s.pointRec i = some r) (hline : r.sense1.exp = e ∨ r.sense2.exp = e) : sensedNow s i = .unknown := by
  have unread (l : Line) (hl : l.exp = e) : lineValue s l = none := by
    simp only [lineValue, hl, he, faultedExpander, Fin.getElem_fin, Vector.getElem_replicate]
  have derived : sensedNow s i = sensedOf (lineValue s r.sense1) (lineValue s r.sense2) := by
    simp only [sensedNow, hr, deriveSensed]
  rw [derived]
  rcases hline with h | h
  · rw [unread _ h]
    rfl
  · rw [unread _ h]
    rcases lineValue s r.sense1 with _ | _ | _ <;> rfl

end Sys2Proof.Machine

namespace Sys2Proof.Proofs

open Sys2Proof.Machine

/-- Settles O33: the steps of R15 in their order, and a failure by the expander's health. -/
theorem failureFaultsAnExpander : Obligations.FailureFaultsAnExpander := by
  refine ⟨fun c e s => ⟨fun hc hd he hok after hafter => ?_, fun t u v changed posted ht hu hchanged hposted hv => ?_, fun n => ?_,
      fun i r hr hline => ?_⟩,
    fun c e s after hc he hafter => ⟨fun hd => ?_, ?_, fun hd hh hstep => ?_, fun hd hh hlive => ⟨fun hstep => ?_, fun hstep => ?_⟩⟩,
    fun kind e f step r4 ts => ⟨rfl, rfl, ?_, ?_⟩⟩
  · have health : ((busRecovered s).exp e).health = .ok := hok
    have ended (t : State) (ht : (t.exp e).health = .ok) (hfree : t.bus.current = none) :
        afterTxn c (if c.discarded then t else expanderFailed c e t) = after (failOk c e t) := by
      rw [hd, hafter, ← afterTxn_of_free (staysFree_failOk c e t hfree), ← expanderFailed_ok ht]
      rfl
    refine ⟨?_, ?_⟩
    · rw [exec_failed hc he]
      exact congrArg (fun u => Host.Outcome.next (finish u)) (ended (busRecovered s) hok rfl)
    · rw [exec_timeout_failed hc he, exec_failed (by exact hc) he]
      exact congrArg (fun u => Host.Outcome.next (finish u))
        (ended { busRecovered s with now := max s.now (c.grantedAt + 10) } hok rfl)
  · have first : t = faultPosted c e s := by
      refine ht.trans ?_
      rcases c with ⟨txn, op, _, _, _, _⟩
      cases txn <;> cases op <;> rfl
    have points : t.points = s.points := by simp [first, faultPosted]
    have cfg : t.cfg = s.cfg := by simp [first, faultPosted]
    have derived : u = withSensed t := withSensed_eq points (fun i => by rw [State.pointRec, State.pointRec, cfg]) hu
    have moved : changed = changedPoints t := hchanged.trans (changedPoints_eq derived points)
    have disturbed : posted = (changedPoints t).filter (isDisturbed (withSensed t)) := by
      rw [hposted, moved, ← derived]
      refine congrArg (List.filter · _) (funext fun i => Bool.eq_iff_iff.2 ?_)
      rw [decide_eq_true_iff, isDisturbed_iff, ← not_or, ← agrees_iff, Bool.not_eq_true]
    have told : v = reportFailure c (changedPoints t) (judgePoints (changedPoints t) (withSensed t)) := by
      rw [← moved, ← derived]
      refine hv.trans ?_
      rcases c with ⟨txn, _, _, _, _, _⟩
      cases txn with
      | drive f ts sent => cases sent <;> rfl
      | _ => rfl
    have each (l : List (Fin 32)) : disturbDriven e l = fun w i =>
        if drivenFrom w.cfg.points e i = true ∧ (w.point i).underDrive = false ∧ i ∉ l then disturb i w else w :=
      funext fun w => funext fun i => disturbDriven_eq e l w i
    rw [failOk_eq first, each, moved, told, disturbed]
  · exact failOk_exp c e s n
  · rw [(keepsSite_failOk c e s).sensed i, point_withSensed]
    exact sensedNow_faulted (by simp [faultPosted, State.exp]) (by simpa [faultPosted, State.pointRec] using hr) hline
  · rw [exec_failed hc he, hd, hafter, if_pos rfl, afterTxn_of_free rfl]
    rfl
  · exact exec_timeout_failed hc he
  · obtain ⟨step, r4, ht⟩ := hstep
    have health : ((recoverBus s).exp e).health = .init := hh
    have failedOp : failedOpOf c = (match c.op with
        | .writeDirection _ => .directionWrite
        | .writeOutput _ => .outputWrite
        | .readOutput => .outputReadback
        | _ => .inputRead) := by
      rcases c with ⟨txn, op, _, _, _, _⟩
      subst ht
      cases op <;> rfl
    have points : (if readbackOutstanding c e (recoverBus s) = true then (forgetCommands e (recoverBus s)).points
        else (recoverBus s).points) =
        if (∃ r4, c.txn = .seq .initReadback e r4 ∨ .seq .initReadback e r4 ∈ s.bus.queue) then
          Vector.ofFn fun i : Fin 32 =>
            match s.pointRec i with
            | some r => if r.drive.exp = e then { s.point i with commanded := none } else s.point i
            | none => s.point i
        else s.points :=
      ite_congr (propext (readbackOutstanding_iff he)) (fun _ => forgetCommands_points e s) (fun _ => rfl)
    rw [exec_failed hc he, hd, if_neg Bool.false_ne_true, expanderFailed_init health,
      afterTxn_of_free (staysFree_failInit c e _ rfl), ← hafter, failInit_state, failedOp, points]
    rfl
  · obtain ⟨step, r4, ht, hr⟩ := hstep
    have health : ((recoverBus s).exp e).health = .faulted := hh
    rw [exec_failed hc he, hd, if_neg Bool.false_ne_true, expanderFailed_faulted health, failFaulted_eq hlive,
      if_pos ((isSeq_of_seq ht).trans hr), hafter, afterTxn_of_free rfl]
    rfl
  · have health : ((recoverBus s).exp e).health = .faulted := hh
    have other : isSeq isRestoreStep c = false := by
      unfold isSeq
      split
      · next step f r4 ht =>
        have hf : f = e := by simpa [ht, txnExp] using he
        exact hstep step r4 (hf ▸ ht)
      · rfl
    rw [exec_failed hc he, hd, if_neg Bool.false_ne_true, expanderFailed_faulted health, failFaulted_eq hlive, other,
      if_neg Bool.false_ne_true, hafter, afterTxn_of_free rfl]
    rfl
  · cases step <;> simp [isInitStep]
  · cases step <;> simp [isRestoreStep]

end Sys2Proof.Proofs
end

section
/-! PROOFS. The stages of a job (O42): what stands in the way of a stage, its beginning, its test for completion, and the
endings that release. -/

namespace Sys2Proof.Machine

/-! ## The services of a job and the interlocks that block it -/

theorem isChanging_iff {j : Job} {x : Svc} : isChanging j x = true ↔ ∃ c ∈ j.changing, c.svc = x := by
  simp [isChanging]

theorem mem_mutedSvcs {j : Job} {x : Svc} : x ∈ mutedSvcs j ↔ (∃ c ∈ j.changing, c.svc = x) ∨ j.collateral = some x := by
  have one : x ∈ [Svc.a, Svc.b] := by cases x <;> simp
  rw [mutedSvcs, List.mem_filter, Bool.or_eq_true, isChanging_iff, beq_iff_eq]
  exact and_iff_right one

theorem pairwise_mutedSvcs (j : Job) : (mutedSvcs j).Pairwise fun x y => x = .a ∧ y = .b :=
  List.Pairwise.filter _ (by simp)

/-- Whether an interlock's effective mask includes a muted service of the job (R94). -/
def coversJob (s : State) (j : Job) (k : Fin 4) : Bool := (mutedSvcs j).any (interlockCovers s k)

theorem coversJob_iff {s : State} {j : Job} {k : Fin 4} :
    coversJob s j k = true ↔ ∃ c x, s.interlockRec k = some c ∧ x ∈ mutedSvcs j ∧ effHas s c.mask x = true := by
  simp only [coversJob, List.any_eq_true, interlockCovers_iff]
  exact ⟨fun ⟨x, hx, c, hc, he⟩ => ⟨c, x, hc, hx, he⟩, fun ⟨c, x, hc, hx, he⟩ => ⟨x, hx, c, hc, he⟩⟩

/-- Whether an interlock blocks a job (R93). -/
def blocksJob (s : State) (j : Job) (k : Fin 4) : Prop :=
  coversJob s j k = true ∧ (s.interlock k).state ≠ .closed ∧ ∃ c, s.interlockRec k = some c ∧ c.motionInhibit = true

/-- The test `blocking` makes of one interlock. -/
def blocksTest (s : State) (j : Job) (k : Fin 4) : Bool :=
  effectiveOpen s k && coversJob s j k &&
    match s.interlockRec k with
    | some c => c.motionInhibit
    | none => false

theorem blocksTest_iff {s : State} {j : Job} {k : Fin 4} : blocksTest s j k = true ↔ blocksJob s j k := by
  unfold blocksTest blocksJob effectiveOpen
  cases s.interlockRec k with
  | none => simp
  | some c =>
    simp only [Option.isSome_some, Bool.true_and, Bool.and_eq_true, bne_iff_ne, ne_eq, Option.some.injEq, exists_eq_left']
    tauto

theorem blocking_eq_some {s : State} {j : Job} {k : Fin 4} :
    blocking s j = some k ↔ blocksJob s j k ∧ ∀ m < k, ¬ blocksJob s j m := by
  have test : blocking s j = (List.finRange 4).find? (blocksTest s j) := rfl
  rw [test, find_finRange]
  simp only [← Bool.not_eq_true, blocksTest_iff]

theorem blocking_eq_none {s : State} {j : Job} : blocking s j = none ↔ ∀ k, ¬ blocksJob s j k := by
  have test : blocking s j = (List.finRange 4).find? (blocksTest s j) := rfl
  rw [test, find_finRange_none]
  simp only [← Bool.not_eq_true, blocksTest_iff]

/-! ## A stage begins -/

/-- The first reason found, and its entry: in ascending point order no entry with a reason is lower. -/
theorem firstReason_some_spec {f : Move → Option FaultReason} {ms : List Move} {i : Fin 32} {r : FaultReason}
    (h : firstReason f ms = some (i, r)) :
    (∃ m ∈ ms, m.point = i ∧ f m = some r) ∧
      (ms.Pairwise (fun a b => a.point < b.point) → ∀ n ∈ ms, f n ≠ none → i ≤ n.point) := by
  obtain ⟨left, m, right, rfl, hm, hleft⟩ := List.findSome?_eq_some_iff.1 h
  obtain ⟨_, hr, heq⟩ := Option.map_eq_some_iff.1 hm
  obtain ⟨rfl, rfl⟩ := Prod.mk.inj heq
  refine ⟨⟨m, by simp, rfl, hr⟩, fun asc n hn hne => ?_⟩
  rw [List.mem_append, List.mem_cons] at hn
  rcases hn with hn | rfl | hn
  · exact absurd (Option.map_eq_none_iff.1 (hleft n hn)) hne
  · exact le_rfl
  · exact (List.rel_of_pairwise_cons (List.pairwise_append.1 asc).2.1 hn).le

theorem beginReason_eq_some {s : State} {m : Move} {r : FaultReason} :
    beginReason s m = some r ↔
      r = .conflict ∧ (s.point m.point).sensed = .conflict ∨ r = .expander ∧ (s.point m.point).sensed = .unknown := by
  unfold beginReason
  cases (s.point m.point).sensed <;> simp [eq_comm]

theorem beginReason_eq_none {s : State} {m : Move} :
    beginReason s m = none ↔ (s.point m.point).sensed ≠ .conflict ∧ (s.point m.point).sensed ≠ .unknown := by
  unfold beginReason
  cases (s.point m.point).sensed <;> simp

/-- The writes requested, one for each expander concerned, and their points under drive (R86, R97). -/
theorem requestWrites_eq (ts : List (Fin 32 × Pos)) (s : State) :
    requestWrites ts s =
      { s with
        points := Vector.ofFn fun i : Fin 32 =>
          { s.point i with underDrive := (s.point i).underDrive || (ts.map Prod.fst).contains i }
        bus := { s.bus with
          queue := s.bus.queue ++ (List.finRange 8).filterMap fun e =>
            let l := ts.filter fun t => drivenFrom s.cfg.points e t.1
            if l = [] then none else some (.drive e l) } } := by
  have claims : (List.finRange 8).filterMap (fun e =>
      match targetsOn s ts e with
      | [] => none
      | l => some (Claim.drive e l)) =
      (List.finRange 8).filterMap fun e =>
        let l := ts.filter fun t => drivenFrom s.cfg.points e t.1
        if l = [] then none else some (.drive e l) := by
    refine congrArg (List.filterMap · _) (funext fun e => ?_)
    simp only [targetsOn]
    cases ts.filter fun t => drivenFrom s.cfg.points e t.1 <;> simp
  rw [← claims]
  rfl

theorem beginStage_of_blocked {j : Job} {k i : Fin 4} {s : State} (h : blocking s j = some i) :
    beginStage j k s =
      postEach (mutedSvcs j) (fun x => .transferPaused x i k)
        { s with job := some { j with stage := some k, phase := .paused .transfer } } := by
  simp only [beginStage, h] <;> rfl

theorem beginStage_of_clear {j : Job} {k : Fin 4} {s : State} (h : blocking s j = none)
    (hr : firstReason (beginReason s) (stageMoves j k) = none) :
    beginStage j k s =
      requestWrites ((stageMoves j k).map fun m => (m.point, m.toPos))
        { s with job := some { j with stage := some k, phase := .transfer } } := by
  simp only [beginStage, h, hr] <;> rfl

theorem beginStage_of_barred {j : Job} {k : Fin 4} {s : State} {i : Fin 32} {r : FaultReason} (h : blocking s j = none)
    (hr : firstReason (beginReason s) (stageMoves j k) = some (i, r)) :
    beginStage j k s =
      transferFault { j with stage := some k } i r { s with job := some { j with stage := some k } } := by
  simp only [beginStage, h, hr] <;> rfl

/-! ## A change of an interlock at the engine -/

theorem engineInterlock_eq {k l : Fin 4} {s : State} {j : Job} (hj : s.job = some j) (hl : j.stage = some l) :
    engineInterlock k s =
      match j.phase with
      | .paused dir =>
          if coversJob s j k = true ∧ blocking s j = none then
            match dir with
            | .transfer =>
                beginStage { j with phase := .transfer } l (postEach (mutedSvcs j) (fun x => .transferResumed x l) s)
            | .rollback => runRollbackStage j l (postEach (mutedSvcs j) (fun x => .transferResumed x l) s)
          else s
      | _ => s := by
  cases hp : j.phase with
  | paused dir =>
    simp only [engineInterlock, hj, hp, hl, coversJob, Bool.and_eq_true, Option.isNone_iff_eq_none] <;>
      cases dir <;> rfl
  | _ => simp only [engineInterlock, hj, hp, hl]

/-! ## A stage tested -/

theorem mem_stageMoves {j : Job} {k : Fin 4} {m : Move} : m ∈ stageMoves j k ↔ m ∈ j.moves ∧ m.stage = k := by
  simp [stageMoves]

theorem stageMoves_isEmpty {j : Job} {k : Fin 4} : (stageMoves j k).isEmpty = false ↔ ∃ m ∈ j.moves, m.stage = k := by
  simp [stageMoves]

theorem nextStage_eq_none {j : Job} {n : Nat} : nextStage j n = none ↔ ∀ m ∈ j.moves, m.stage.val < n := by
  rw [nextStage, find_finRange_none]
  constructor
  · intro h m hm
    have hk := stageMoves_isEmpty.2 ⟨m, hm, rfl⟩
    simpa [hk] using h m.stage
  · intro h k
    rw [Bool.and_eq_false_iff, decide_eq_false_iff_not, Bool.not_eq_false', or_iff_not_imp_left, not_not]
    intro hk
    by_contra hne
    obtain ⟨m, hm, rfl⟩ := stageMoves_isEmpty.1 (Bool.eq_false_iff.2 hne)
    exact absurd (h m hm) (not_lt.2 hk)

/-- The next stage is the lowest from the bound upward that has an entry (R84, R88). -/
theorem nextStage_eq_some {j : Job} {n : Nat} {l : Fin 4} (hl : n ≤ l.val) (hm : ∃ m ∈ j.moves, m.stage = l)
    (low : ∀ m ∈ j.moves, m.stage.val < n ∨ l ≤ m.stage) : nextStage j n = some l := by
  rw [nextStage, find_finRange]
  refine ⟨by simp [hl, stageMoves_isEmpty.2 hm], fun k hk => ?_⟩
  rw [Bool.and_eq_false_iff, decide_eq_false_iff_not, Bool.not_eq_false', or_iff_not_imp_left, not_not]
  intro hn
  by_contra hne
  obtain ⟨m, hmem, rfl⟩ := stageMoves_isEmpty.1 (Bool.eq_false_iff.2 hne)
  rcases low m hmem with h | h
  · exact absurd h (not_lt.2 hn)
  · exact absurd hk (not_lt.2 h)

theorem nextStage_stopTimers (j : Job) (n : Nat) : nextStage (stopTimers j) n = nextStage j n := by
  refine congrArg (List.find? · _) (funext fun k => ?_)
  have same : (stageMoves (stopTimers j) k).isEmpty = (stageMoves j k).isEmpty := by
    rw [Bool.eq_iff_iff, ← not_iff_not, Bool.not_eq_true, Bool.not_eq_true, stageMoves_isEmpty, stageMoves_isEmpty]
    simp [stopTimers]
  rw [same]

theorem confirmedAt_iff {s : State} {m : Move} {pos : Pos} :
    confirmedAt s m pos = true ↔ m.timer ≠ .off ∧ sensedAt (s.point m.point).sensed pos = true := by
  simp [confirmedAt]

theorem confirmedAt_eq_false {s : State} {m : Move} {pos : Pos} :
    confirmedAt s m pos = false ↔ m.timer = .off ∨ sensedAt (s.point m.point).sensed pos = false := by
  rw [confirmedAt, Bool.and_eq_false_iff, bne_eq_false_iff_eq]

/-- A stage whose entries are all confirmed (R88). -/
def stageConfirmed (s : State) (j : Job) (k : Fin 4) : Prop := ∀ m ∈ stageMoves j k, confirmedAt s m m.toPos = true

/-- The state at which a stage has completed: its timers stopped, no point under drive (R88, R97). -/
def stageDone (j : Job) (s : State) : State := clearMarks (s.setJob (stopTimers j))

theorem testStage_waits {j : Job} {k : Fin 4} {s : State} (hk : j.stage = some k) (h : ¬ stageConfirmed s j k) :
    testStage j s = s := by
  have waits : ((stageMoves j k).all fun m => confirmedAt s m m.toPos) ≠ true := by simpa [stageConfirmed] using h
  simp only [testStage, hk]
  exact if_neg waits

theorem testStage_confirmed {j : Job} {k : Fin 4} {s : State} (hk : j.stage = some k) (h : stageConfirmed s j k) :
    testStage j s =
      match nextStage j (k.val + 1) with
      | some l => beginStage (stopTimers j) l (stageDone j s)
      | none => succeed (stopTimers j) (stageDone j s) := by
  have done : ((stageMoves j k).all fun m => confirmedAt s m m.toPos) = true := by simpa [stageConfirmed] using h
  rw [← nextStage_stopTimers]
  simp only [testStage, hk]
  rw [if_pos done]
  rfl

/-! ## Release -/

theorem releaseAll_eq (j : Job) (s : State) :
    releaseAll j s =
      (let v := (mutedSvcs j).foldl (fun t x => throughEntryCheck x t) s
       { v with
         points := Vector.ofFn fun i : Fin 32 => { v.point i with underDrive := false }
         job := none }) := by
  simp only [releaseAll, clearMarks, State.mapPoints]
  rfl

theorem applyChange_of_ne {c : Changing} {s : State} (h : (s.svc c.svc).inForce ≠ some c.target) :
    applyChange c s =
      { s with
        svcs := s.svcs.set c.svc
          { s.svc c.svc with
            inForce := some c.target, previous := (s.svc c.svc).inForce, revertMark := c.revert } } := by
  simp only [applyChange, if_neg h]
  rfl

theorem applyChange_of_eq {c : Changing} {s : State} (h : (s.svc c.svc).inForce = some c.target) :
    applyChange c s = { s with svcs := s.svcs.set c.svc { s.svc c.svc with revertMark := c.revert } } := by
  simp only [applyChange, if_pos h]
  rfl

/-- After a change the service has its target in force (R44). -/
theorem applyChange_inForce (c : Changing) (s : State) : ((applyChange c s).svc c.svc).inForce = some c.target := by
  by_cases h : (s.svc c.svc).inForce = some c.target
  · rw [applyChange_of_eq h]
    simpa [State.svc] using h
  · rw [applyChange_of_ne h]
    simp [State.svc]

end Sys2Proof.Machine

namespace Sys2Proof.Proofs

open Sys2Proof.Machine

/-- Settles O42: a stage's beginning, its pause and its completion, and the endings that release. -/
theorem stagesRunInOrder : Obligations.StagesRunInOrder := by
  refine ⟨fun j k s => ⟨fun i hi => beginStage_of_blocked hi, fun hb hclear => ?begin, fun m hm hb hbad => ?barred⟩,
    fun j k l s covers blocks hcovers hblocks => ?pause, fun j k s hk => ⟨fun hwait => ?_, fun hdone j' t hj' ht => ?tested⟩,
    fun c s => ⟨applyChange_of_ne, applyChange_of_eq⟩, fun j s release hrel => ?release⟩
  case begin =>
    have noReason := firstReason_eq_none.2 fun m hm => beginReason_eq_none.2 (hclear m hm)
    rw [beginStage_of_clear hb noReason, requestWrites_eq, List.map_map]
    rfl
  case barred =>
    have reason (n : Move) : beginReason s n ≠ none ↔
        (s.point n.point).sensed = .conflict ∨ (s.point n.point).sensed = .unknown := by
      rw [ne_eq, beginReason_eq_none, not_and_or, not_not, not_not]
    cases hr : firstReason (beginReason s) (stageMoves j k) with
    | none => exact absurd (firstReason_eq_none.1 hr m hm) ((reason m).2 hbad)
    | some ir =>
      obtain ⟨i, r⟩ := ir
      obtain ⟨⟨n, hn, rfl, hnr⟩, low⟩ := firstReason_some_spec hr
      exact ⟨n.point, r, beginReason_eq_some.1 hnr, ⟨n, hn, rfl⟩, fun asc => low asc m hm ((reason m).2 hbad),
        beginStage_of_barred hb hr⟩
  case pause =>
    have covers_iff (n : Fin 4) : covers n ↔ coversJob s j n = true := (hcovers n).trans coversJob_iff.symm
    have blocks_iff (n : Fin 4) : blocks n ↔ blocksJob s j n := by rw [hblocks, covers_iff, blocksJob]
    refine ⟨fun n => ?_, ?_, fun hj hl => ⟨fun hc hb hp => ?_, fun hc hb hp => ?_, fun hno => ?_⟩⟩
    · simp only [blocks_iff, blocking_eq_some]
    · simp only [blocks_iff, blocking_eq_none]
    · rw [engineInterlock_eq hj hl, hp]
      exact if_pos ⟨(covers_iff k).1 hc, hb⟩
    · rw [engineInterlock_eq hj hl, hp]
      exact if_pos ⟨(covers_iff k).1 hc, hb⟩
    · rw [engineInterlock_eq hj hl]
      split
      · next dir hp =>
        refine if_neg fun ⟨hc, hb⟩ => ?_
        rcases hno with h | h | h
        · exact h ((covers_iff k).2 hc)
        · exact h hb
        · exact h dir hp
      · rfl
  · refine testStage_waits hk fun h => ?_
    obtain ⟨m, hm, hbad⟩ := hwait
    rw [← confirmedAt_eq_false, ← Bool.not_eq_true] at hbad
    exact hbad (h m hm)
  case tested =>
    have confirmed : stageConfirmed s j k := fun m hm => confirmedAt_iff.2 (hdone m hm)
    have job : j' = stopTimers j := hj'
    have state : t = stageDone j s := by
      rw [ht, job]
      rfl
    rw [job, state]
    refine ⟨fun hlast => ?_, fun l hkl hl hlow => ?_⟩
    · have next : nextStage j (k.val + 1) = none :=
        nextStage_eq_none.2 fun m hm => Nat.lt_succ_of_le (Fin.le_def.1 (hlast m hm))
      rw [testStage_confirmed hk confirmed, next]
    · have next : nextStage j (k.val + 1) = some l :=
        nextStage_eq_some (Fin.lt_def.1 hkl) hl fun m hm =>
          (hlow m hm).imp (fun h => Nat.lt_succ_of_le (Fin.le_def.1 h)) id
      rw [testStage_confirmed hk confirmed, next]
  case release =>
    have released (u : State) : releaseAll j u = release u := by rw [releaseAll_eq, hrel]
    refine ⟨?_, fun reason => released _, fun cause hcause => ?_, fun x => mem_mutedSvcs, pairwise_mutedSvcs j⟩
    · rw [← released]
      refine congrArg (releaseAll j) (congrArg (fun f => List.foldl f s j.changing) (funext fun t => funext fun c => ?_))
      exact congrArg (fun o => post (.transferDone c.svc o _) (applyChange c t)) (applyChange_inForce c t)
    · rw [← released, rollbackDone, hcause]
      rfl

end Sys2Proof.Proofs
end

section
/-! PROOFS. Faults and rollback (O43): events posted for several services, the rollback stages and their test, and the
rollback failure. -/

namespace Sys2Proof.Machine

/-! ## Events posted for several services -/

/-- What no posted event touches, a list of them leaves. -/
theorem postEach_keeps {β : Sort _} {g : State → β} (hg : ∀ e s, g (post e s) = g s) (xs : List Svc) (f : Svc → Event)
    (s : State) : g (postEach xs f s) = g s := by
  induction xs generalizing s with
  | nil => rfl
  | cons x xs ih => exact (ih (post (f x) s)).trans (hg _ _)

theorem postEach_bus (xs : List Svc) (f : Svc → Event) (s : State) : (postEach xs f s).bus = s.bus :=
  postEach_keeps (g := State.bus) post_bus xs f s

theorem postEach_points (xs : List Svc) (f : Svc → Event) (s : State) : (postEach xs f s).points = s.points :=
  postEach_keeps (g := State.points) post_points xs f s

theorem postEach_svcs (xs : List Svc) (f : Svc → Event) (s : State) : (postEach xs f s).svcs = s.svcs :=
  postEach_keeps (g := State.svcs) post_svcs xs f s

theorem postEach_blocking (xs : List Svc) (f : Svc → Event) (s : State) (j : Job) :
    blocking (postEach xs f s) j = blocking s j :=
  postEach_keeps (g := fun t => blocking t j) (fun e t => blocking_post e t j) xs f s

theorem blocking_of_site {s t : State} (j : Job) (site : KeepsSite s t) : blocking t j = blocking s j := by
  have covers (k : Fin 4) : interlockCovers t k = interlockCovers s k := by
    funext x
    simp only [interlockCovers, State.interlockRec, site.cfg, effHas_of_site _ x site]
  refine congrArg (List.find? · _) (funext fun k => ?_)
  simp only [effectiveOpen, State.interlockRec, State.interlock, site.cfg, site.interlocks, covers]

theorem driveOnBus_of_bus {s t : State} (h : t.bus = s.bus) : driveOnBus t = driveOnBus s := by
  unfold driveOnBus
  rw [h]

/-! ## A transit limit that runs out -/

theorem transitExpired_eq {i : Fin 32} {s : State} {j : Job} {m : Move} (hj : s.job = some j)
    (hm : j.moves.find? (fun m => m.point == i) = some m) :
    exec (.transitLimitExpiry i) s =
      .next (match timerDue m.timer with
        | some due =>
            finish (limitExpired (spendTimer j i) m { s with now := max s.now due, job := some (spendTimer j i) })
        | none => s) := by
  have expired : transitExpired i s =
      match timerDue m.timer with
      | some due =>
          finish (limitExpired (spendTimer j i) m { s with now := max s.now due, job := some (spendTimer j i) })
      | none => s := by
    simp only [transitExpired, hj, hm]
    rfl
  exact congrArg _ expired

theorem timerDue_eq_none {t : PointTimer} (h : ∀ d, t ≠ .running d) : timerDue t = none := by
  cases t with
  | running d => exact absurd rfl (h d)
  | off => rfl
  | spent => rfl

theorem limitExpired_transfer {j : Job} {m : Move} {s : State} (h : j.phase = .transfer) :
    limitExpired j m s =
      if sensedAt (s.point m.point).sensed m.toPos = true then s else transferFault j m.point .noArrival s := by
  simp only [limitExpired, h, forwardExpired]

theorem limitExpired_rollback {j : Job} {m : Move} {s : State} (h : j.phase = .rollback) :
    limitExpired j m s =
      if sensedAt (s.point m.point).sensed (backPos m) = true then s
      else rollbackFailed j m.point (if (s.point m.point).sensed = .conflict then .conflict else .noArrival) s := by
  simp only [limitExpired, h, backwardExpired]
  split
  · rfl
  · split <;> rfl

/-! ## Rollback stages -/

theorem mem_rollbackMoves {j : Job} {k : Fin 4} {m : Move} :
    m ∈ rollbackMoves j k ↔ m ∈ j.moves ∧ m.stage = k ∧ m.driven = true ∧ m.fromPos ≠ none := by
  simp [rollbackMoves, and_assoc, Option.isSome_iff_ne_none]

theorem rollbackMoves_eq (j : Job) (k : Fin 4) :
    rollbackMoves j k = j.moves.filter fun m => decide (m.stage = k ∧ m.driven = true ∧ m.fromPos ≠ none) :=
  congrArg (List.filter · _) (funext fun m => Bool.eq_iff_iff.2 (by simp [and_assoc, Option.isSome_iff_ne_none]))

theorem backPos_of_some {m : Move} {pos : Pos} (h : m.fromPos = some pos) : backPos m = pos := by simp [backPos, h]

theorem nextRollback_stopTimers (j : Job) (n : Nat) : nextRollback (stopTimers j) n = nextRollback j n := by
  refine congrArg (List.find? · _) (funext fun k => ?_)
  have same : (rollbackMoves (stopTimers j) k).isEmpty = (rollbackMoves j k).isEmpty := by
    rw [Bool.eq_iff_iff, ← not_iff_not, Bool.not_eq_true, Bool.not_eq_true, rollbackMoves_isEmpty, rollbackMoves_isEmpty]
    simp [stopTimers, driveBack]
  rw [same]

theorem runRollbackStage_eq (j : Job) (k : Fin 4) (s : State) :
    runRollbackStage j k s =
      { s with
        job := some { j with
          phase := .rollback, stage := some k, awaiting := false
          moves := j.moves.map fun m => { m with timer := .off } }
        points := Vector.ofFn fun i : Fin 32 =>
          { s.point i with underDrive := (s.point i).underDrive || ((rollbackMoves j k).map Move.point).contains i }
        bus := { s.bus with
          queue := s.bus.queue ++ (List.finRange 8).filterMap fun e =>
            let ts := ((rollbackMoves j k).map fun m => (m.point, m.fromPos.getD m.toPos)).filter fun t =>
              drivenFrom s.cfg.points e t.1
            if ts = [] then none else some (.drive e ts) } } := by
  rw [runRollbackStage, requestWrites_eq, List.map_map]
  rfl

/-- A rollback stage whose entries are all back (R97). -/
def stageBack (s : State) (j : Job) (k : Fin 4) : Prop := ∀ m ∈ rollbackMoves j k, confirmedAt s m (backPos m) = true

theorem testRollback_waits {j : Job} {k : Fin 4} {s : State} (hk : j.stage = some k) (h : ¬ stageBack s j k) :
    testRollback j s = s := by
  have waits : ((rollbackMoves j k).all fun m => confirmedAt s m (backPos m)) ≠ true := by simpa [stageBack] using h
  simp only [testRollback, hk]
  exact if_neg waits

theorem testRollback_back {j : Job} {k : Fin 4} {s : State} (hk : j.stage = some k) (h : stageBack s j k) :
    testRollback j s = rollbackNext (stopTimers j) k.val false (stageDone j s) := by
  have back : ((rollbackMoves j k).all fun m => confirmedAt s m (backPos m)) = true := by simpa [stageBack] using h
  simp only [testRollback, hk]
  exact if_pos back

/-! ## A rollback failure -/

/-- The drive write on the bus no longer a job's (R101). -/
theorem disownWrite_eq (s : State) :
    disownWrite s =
      { s with bus := { s.bus with
          current := s.bus.current.map fun c => match c.txn with
            | .drive e ts _ => { c with txn := .drive e ts false }
            | _ => c } } := by
  obtain ⟨_, _, _, _, _, _, _, _, ⟨_, _, cur, _, _⟩, _⟩ := s
  cases cur with
  | none => rfl
  | some c =>
    obtain ⟨txn, _, _, _, _, _⟩ := c
    cases txn <;> rfl

/-- A service's record once a rollback failure has taken it (R49, R101). -/
def failedRecord (j : Job) (x : Svc) (v : Service) : Service :=
  if isChanging j x = true then
    { v with
      state := .undetermined, inForce := none, revertMark := false, hold := none, causes := ⟨false, false, false, false⟩
      permit := false, ceiling := 0, cut := false, edges := edgesTo v false false }
  else
    { v with
      state := .held, hold := some .transferFault, causes := ⟨false, false, false, false⟩, permit := false, cut := false
      ceiling := 0, edges := edgesTo v false false }

/-- What a rollback failure does to one service of the job. -/
theorem failService_eq (j : Job) (x : Svc) (s : State) :
    failService j x s =
      if isChanging j x then
        outputs x
          { s with
            svcs := s.svcs.set x
              { s.svc x with
                state := .undetermined, inForce := none, revertMark := false, hold := none
                causes := ⟨false, false, false, false⟩ } }
      else toHeld x .transferFault s := by
  simp only [failService, toUndetermined, State.svc_setSvc_same]
  simp only [State.setSvc, Per.set_set]
  rfl

theorem failService_svc_same (j : Job) (x : Svc) (s : State) : (failService j x s).svc x = failedRecord j x (s.svc x) := by
  rw [failService_eq, failedRecord]
  split
  · refine (congrArg (State.svc · x) (outputs_of_low (v := { s.svc x with
      state := .undetermined, inForce := none, revertMark := false, hold := none
      causes := ⟨false, false, false, false⟩ }) (by exact Per.get_set_same _ _ _) rfl)).trans ?_
    dsimp only
    split <;> simp [edgesTo]
  · exact toHeld_svc_same _ _ _

theorem failService_svc_other (j : Job) {x y : Svc} (s : State) (h : x ≠ y) : (failService j x s).svc y = s.svc y := by
  rw [failService_eq]
  split
  · exact (outputs_svc_other _ h).trans (State.svc_setSvc_other s _ h)
  · exact toHeld_svc_other _ _ h

theorem failService_points (j : Job) (x : Svc) (s : State) : (failService j x s).points = s.points := by
  rw [failService_eq]
  split
  · exact outputs_points _ _
  · exact toHeld_points _ _ _

theorem failService_bus (j : Job) (x : Svc) (s : State) : (failService j x s).bus = s.bus := by
  rw [failService_eq]
  split
  · exact outputs_bus _ _
  · exact toHeld_bus _ _ _

/-- Several services taken by a rollback failure: each keeps its own record but for what the failure writes. -/
theorem foldl_failService (j : Job) (l : List Svc) (hl : l.Nodup) (s : State) :
    (l.foldl (fun t x => failService j x t) s).points = s.points ∧
      (l.foldl (fun t x => failService j x t) s).bus = s.bus ∧
      ∀ x, (l.foldl (fun t x => failService j x t) s).svc x =
        if x ∈ l then failedRecord j x (s.svc x) else s.svc x := by
  induction l generalizing s with
  | nil => exact ⟨rfl, rfl, fun x => rfl⟩
  | cons y l ih =>
    obtain ⟨hy, hl⟩ := List.nodup_cons.1 hl
    obtain ⟨points, bus, svc⟩ := ih hl (failService j y s)
    refine ⟨points.trans (failService_points _ _ _), bus.trans (failService_bus _ _ _), fun x => (svc x).trans ?_⟩
    rcases eq_or_ne y x with rfl | hx
    · simp [hy, failService_svc_same]
    · simp [failService_svc_other j s hx, Ne.symm hx]

theorem nodup_mutedSvcs (j : Job) : (mutedSvcs j).Nodup :=
  (pairwise_mutedSvcs j).imp fun ⟨ha, hb⟩ heq => by rw [ha, hb] at heq; cases heq

/-- The first part of a rollback failure: the writes withdrawn, the one on the bus disowned, the events posted (R101). -/
def failurePosted (j : Job) (i : Fin 32) (reason : FaultReason) (s : State) : State :=
  postEach (mutedSvcs j) (fun x => .rollbackFailed x i reason) (disownWrite (withdrawWrites s))

/-- The services of the job taken by its rollback failure. -/
def failureTaken (j : Job) (i : Fin 32) (reason : FaultReason) (s : State) : State :=
  (mutedSvcs j).foldl (fun t x => failService j x t) (failurePosted j i reason s)

/-- The engine IDLE, with no point under drive (R101, R102). -/
def ended (s : State) : State := { clearMarks s with job := none }

theorem ended_eq (s : State) :
    ended s =
      { s with job := none, points := Vector.ofFn fun n : Fin 32 => { s.point n with underDrive := false } } := by
  simp only [ended, clearMarks, State.mapPoints] <;> rfl

theorem ended_point (s : State) (n : Fin 32) : (ended s).point n = { s.point n with underDrive := false } := by
  simp [ended_eq, State.point]

theorem ended_svc (s : State) (x : Svc) : (ended s).svc x = s.svc x := by simp only [ended_eq, State.svc]

theorem ended_bus (s : State) : (ended s).bus = s.bus := by rw [ended_eq]

theorem rollbackFailed_eq (j : Job) (i : Fin 32) (reason : FaultReason) (s : State) :
    rollbackFailed j i reason s = ended (failureTaken j i reason s) := by
  unfold rollbackFailed failureTaken
  rfl

theorem failureTaken_points (j : Job) (i : Fin 32) (reason : FaultReason) (s : State) :
    (failureTaken j i reason s).points = s.points := by
  rw [failureTaken]
  refine ((foldl_failService j _ (nodup_mutedSvcs j) _).1.trans (postEach_points _ _ _)).trans ?_
  rw [disownWrite_eq]
  rfl

theorem failureTaken_queue (j : Job) (i : Fin 32) (reason : FaultReason) (s : State) :
    (failureTaken j i reason s).bus.queue = (withdrawWrites s).bus.queue := by
  rw [failureTaken]
  refine (congrArg Bus.queue ((foldl_failService j _ (nodup_mutedSvcs j) _).2.1.trans (postEach_bus _ _ _))).trans ?_
  rw [disownWrite_eq]

theorem failureTaken_svc (j : Job) (i : Fin 32) (reason : FaultReason) (s : State) (x : Svc) :
    (failureTaken j i reason s).svc x = if x ∈ mutedSvcs j then failedRecord j x (s.svc x) else s.svc x := by
  have before : (failurePosted j i reason s).svc x = s.svc x := by
    rw [State.svc, failurePosted, postEach_svcs, disownWrite_eq]
    rfl
  rw [← before, failureTaken]
  exact (foldl_failService j _ (nodup_mutedSvcs j) _).2.2 x

theorem rollbackFailed_job (j : Job) (i : Fin 32) (reason : FaultReason) (s : State) :
    (rollbackFailed j i reason s).job = none := by rw [rollbackFailed_eq, ended_eq]

theorem rollbackFailed_point (j : Job) (i : Fin 32) (reason : FaultReason) (s : State) (n : Fin 32) :
    (rollbackFailed j i reason s).point n = { s.point n with underDrive := false } := by
  rw [rollbackFailed_eq, ended_point, State.point, failureTaken_points, State.point]

theorem rollbackFailed_queue (j : Job) (i : Fin 32) (reason : FaultReason) (s : State) :
    (rollbackFailed j i reason s).bus.queue = (withdrawWrites s).bus.queue := by
  rw [rollbackFailed_eq, ended_bus, failureTaken_queue]

theorem rollbackFailed_svc (j : Job) (i : Fin 32) (reason : FaultReason) (s : State) (x : Svc) :
    (rollbackFailed j i reason s).svc x = if x ∈ mutedSvcs j then failedRecord j x (s.svc x) else s.svc x := by
  rw [rollbackFailed_eq, ended_svc, failureTaken_svc]

end Sys2Proof.Machine

namespace Sys2Proof.Proofs

open Sys2Proof.Machine

/-- Settles O43: a limit by the phase, the fault's rollback, the rollback stages in their order, and the failure of a
rollback. -/
theorem faultsRollTheJobBack : Obligations.FaultsRollTheJobBack := by
  refine ⟨fun i due j m s hj hm => ⟨fun hoff => ?_, fun hrun j' t hj' ht => ?limit⟩, fun j i reason s j' t hj' ht => ?fault,
    fun j x s => ⟨fun c hc => ?_, fun hc => ?_⟩, fun j k s back hback => ⟨?_, fun hk => ⟨fun hwait => ?_, fun hdone j' t hj' ht => ?tested⟩⟩,
    fun j i reason s => ?failed⟩
  · rw [transitExpired_eq hj hm, timerDue_eq_none hoff]
  case limit =>
    have point : m.point = i := by simpa using List.find?_some hm
    have job : j' = spendTimer j i := hj'
    have run : exec (.transitLimitExpiry i) s = .next (finish (limitExpired j' m t)) := by
      rw [transitExpired_eq hj hm, hrun, ht, job]
      rfl
    have sensed : t.point m.point = s.point i := by rw [ht, point]; rfl
    have phase : j'.phase = j.phase := by rw [job]; rfl
    rw [run]
    refine ⟨fun hp => ⟨fun h => ?_, fun h => ?_⟩, fun hp => ⟨fun h => ?_, fun h => ?_⟩⟩
    · rw [limitExpired_transfer (phase.trans hp), sensed, if_pos h]
    · rw [limitExpired_transfer (phase.trans hp), sensed, if_neg (by simp [h]), point]
    · rw [limitExpired_rollback (phase.trans hp), sensed, if_pos h]
    · rw [limitExpired_rollback (phase.trans hp), sensed, if_neg (by simp [h]), point]
  case fault =>
    obtain ⟨-, -, roll⟩ := abortChangeActsByPhase
    have bus := postEach_bus (mutedSvcs j) (fun x => .transferFault x (faultSlot j s x) i reason) s
    have points := postEach_points (mutedSvcs j) (fun x => .transferFault x (faultSlot j s x) i reason) s
    obtain ⟨-, waiting, free⟩ := roll j j' .fault false
      (postEach (mutedSvcs j) (fun x => .transferFault x (faultSlot j s x) i reason) s) t hj'
      (ht.trans (by simp only [State.point, bus, points]))
    rw [driveOnBus_of_bus bus] at waiting free
    rw [postEach_blocking] at free
    refine ⟨waiting, fun hb => ⟨(free hb).1, fun k hk hhigh => ⟨((free hb).2 k hk hhigh).1, fun n hn => ?_⟩⟩⟩
    exact ((free hb).2 k hk hhigh).2 n _ hn rfl
  · simp only [faultSlot, hc]
  · have none_found : j.changing.find? (fun c => c.svc == x) = none := by simpa using hc
    simp only [faultSlot, none_found]
  · rw [runRollbackStage_eq, rollbackMoves_eq, ← hback]
  · refine testRollback_waits hk fun h => ?_
    obtain ⟨m, hm, hbad⟩ := hwait
    have hmem : m ∈ rollbackMoves j k := by rwa [rollbackMoves_eq, ← hback]
    obtain ⟨pos, hpos⟩ := Option.ne_none_iff_exists'.1 (mem_rollbackMoves.1 hmem).2.2.2
    obtain ⟨htimer, hsensed⟩ := confirmedAt_iff.1 (h m hmem)
    rw [backPos_of_some hpos] at hsensed
    rcases hbad with hoff | hout
    · exact htimer hoff
    · rw [hout pos hpos] at hsensed
      cases hsensed
  case tested =>
    have back_in : stageBack s j k := fun m hm => by
      obtain ⟨pos, hpos⟩ := Option.ne_none_iff_exists'.1 (mem_rollbackMoves.1 hm).2.2.2
      obtain ⟨htimer, hat⟩ := hdone m (by rwa [hback, ← rollbackMoves_eq])
      exact confirmedAt_iff.2 ⟨htimer, by rw [backPos_of_some hpos]; exact hat pos hpos⟩
    have job : j' = stopTimers j := hj'
    have state : t = stageDone j s := by
      rw [ht, job]
      rfl
    have unmoved : blocking (stageDone j s) (stopTimers j) = blocking s j :=
      blocking_of_site (stopTimers j) ((keepsSite_setJob _ _).trans (keepsSite_clearMarks _))
    rw [job, state, testRollback_back hk back_in]
    refine ⟨fun hlast => ?_, fun l hlk hl hlow => ⟨fun hb => ?_, fun i hb => ?_⟩⟩
    · refine rollbackNext_of_none ((nextRollback_stopTimers j _).trans (nextRollback_eq_none.2 fun m hm hlt hd => ?_))
      exact absurd (Fin.le_def.1 (hlast m hm hd.1 hd.2)) (not_le.2 hlt)
    all_goals
      have next : nextRollback (stopTimers j) k.val = some l :=
        (nextRollback_stopTimers j _).trans (nextRollback_eq_some (Fin.lt_def.1 hlk) hl fun m hm hd hlt =>
          (hlow m hm hd.1 hd.2).resolve_right fun h => absurd (Fin.le_def.1 h) (not_le.2 hlt))
    · exact rollbackNext_of_clear next (unmoved.trans hb)
    · rw [rollbackNext_of_blocked next (unmoved.trans hb)]
      rfl
  case failed =>
    refine ⟨rollbackFailed_job j i reason s, fun n => ?_, fun q hq e ts hqd => ?_,
      fun x => ⟨fun hx => ?_, fun hx hc => ?_, fun hx hc => ?_⟩, fun t u ht hu => ?_⟩
    · rw [rollbackFailed_point]
      exact ⟨rfl, rfl⟩
    · rw [rollbackFailed_queue] at hq
      subst hqd
      simp [withdrawWrites, State.setBus] at hq
    · rw [rollbackFailed_svc, if_pos (mem_mutedSvcs.2 (.inl (isChanging_iff.1 hx))), failedRecord, if_pos hx]
      exact ⟨rfl, rfl, rfl, rfl, rfl⟩
    · rw [rollbackFailed_svc, if_pos (mem_mutedSvcs.2 (.inr hc)), failedRecord, if_neg (by simp [hx])]
      exact ⟨rfl, rfl, rfl⟩
    · rw [rollbackFailed_svc, if_neg]
      rw [mem_mutedSvcs, ← isChanging_iff, hx]
      simpa using hc
    · have posted : t = failurePosted j i reason s := by
        rw [ht, failurePosted, disownWrite_eq]
        rfl
      have taken : u = failureTaken j i reason s := by
        rw [hu, failureTaken, posted]
        exact congrArg (fun f => List.foldl f _ _) (funext fun v => funext fun x => (failService_eq j x v).symm)
      rw [rollbackFailed_eq, ended_eq, taken]

end Sys2Proof.Proofs
end

section
/-! PROOFS. Formation at the head of the arrival order (O39), and muting (O41). -/

namespace Sys2Proof.Machine

/-! ## The screen and the compatibility of patterns -/

theorem screen_of_empty {s : State} {x : Svc} {r : Request} (h : s.pattern x r.target = none) :
    screen s x r = some .patternEmpty := by simp only [screen, h]

theorem screen_of_pattern {s : State} {x : Svc} {r : Request} {p : Pattern} (h : s.pattern x r.target = some p) :
    screen s x r =
      if patternValid s p = false then some .patternInvalid
      else if inForceOnAir s x r.target = true then some .alreadyInForce else none := by
  simp only [screen, h, Bool.not_eq_true']

theorem screen_of_sound {s : State} {x : Svc} {r : Request} {p : Pattern} (h : s.pattern x r.target = some p)
    (hv : patternValid s p = true) (ha : inForceOnAir s x r.target = false) : screen s x r = none := by
  rw [screen_of_pattern h, if_neg (by simp [hv]), if_neg (by simp [ha])]

theorem patternValid_iff {s : State} {p : Pattern} :
    patternValid s p = true ↔ ∀ i : Fin 32, p.map[i] ≠ none → s.cfg.points[i] ≠ none := by
  rw [patternValid, Option.isNone_iff_eq_none, firstAbsent_eq_none]
  exact forall_congr' fun i => not_and

theorem compatible_iff {p q : Pattern} :
    compatible p q = true ↔ ∀ (i : Fin 32) (a b : Pos), p.map[i] = some a → q.map[i] = some b → a = b := by
  rw [compatible, List.all_eq_true]
  refine forall_congr' fun i => ?_
  rcases hp : p.map[i] with _ | a <;> rcases hq : q.map[i] with _ | b <;> simp

/-- The head's target agrees with the other service's in-force pattern exactly where no in-force pattern is against it
(R73). -/
theorem fitsOther_iff {s : State} {x : Svc} {k : Fin 4} {p : Pattern} (h : s.pattern x k = some p) :
    fitsOther s x k = true ↔ ∀ q, inForcePattern s (otherSvc x) = some q → compatible p q = true := by
  unfold fitsOther
  rw [h]
  cases inForcePattern s (otherSvc x) <;> simp

theorem targetsFit_eq {s : State} {x y : Svc} {k l : Fin 4} {p q : Pattern} (hp : s.pattern x k = some p)
    (hq : s.pattern y l = some q) : targetsFit s x k y l = compatible p q := by
  simp only [targetsFit, hp, hq]

theorem changingFor_eq (s : State) (x : Svc) (r : Request) :
    changingFor s x r =
      { svc := x, target := r.target, source := r.source, revert := r.revert
        reassert := decide ((s.svc x).inForce = some r.target) } := by
  have same : ((s.svc x).inForce == some r.target) = decide ((s.svc x).inForce = some r.target) :=
    Bool.eq_iff_iff.2 (by simp)
  rw [changingFor, same]

/-! ## The cases of one formation pass -/

theorem formationPass_screened {s : State} {x : Svc} {rest : List Svc} {r : Request} {reason : DropReason}
    (ha : s.arrival = x :: rest) (hr : (s.svc x).request = some r) (h : screen s x r = some reason) :
    formationPass s = dropRequest x reason s := by
  simp only [formationPass, ha, hr, h]

theorem formationPass_single {s : State} {x : Svc} {rest : List Svc} {r : Request} (ha : s.arrival = x :: rest)
    (hr : (s.svc x).request = some r) (h : screen s x r = none) (ho : (s.svc (otherSvc x)).request = none) :
    formationPass s = formSingle x r s := by
  simp only [formationPass, ha, hr, h, ho]

theorem formationPass_otherScreened {s : State} {x : Svc} {rest : List Svc} {r q : Request} {reason : DropReason}
    (ha : s.arrival = x :: rest) (hr : (s.svc x).request = some r) (h : screen s x r = none)
    (hq : (s.svc (otherSvc x)).request = some q) (ho : screen s (otherSvc x) q = some reason) :
    formationPass s = formSingle x r (dropRequest (otherSvc x) reason s) := by
  simp only [formationPass, ha, hr, h, hq, ho]

theorem formationPass_pair {s : State} {x : Svc} {rest : List Svc} {r q : Request} (ha : s.arrival = x :: rest)
    (hr : (s.svc x).request = some r) (h : screen s x r = none) (hq : (s.svc (otherSvc x)).request = some q)
    (ho : screen s (otherSvc x) q = none) : formationPass s = formPair x r q s := by
  simp only [formationPass, ha, hr, h, hq, ho]

/-- A head taken alone, by the other service's in-force pattern (R73). -/
theorem formSingle_cases {s : State} {x : Svc} {r : Request} {p : Pattern} (hp : s.pattern x r.target = some p) :
    (∀ q, inForcePattern s (otherSvc x) = some q → compatible p q = false →
      formSingle x r s = dropRequest x .incompatible s) ∧
      ((∀ q, inForcePattern s (otherSvc x) = some q → compatible p q = true) →
        formSingle x r s = startJob [{ svc := x, target := r.target, source := r.source, revert := r.revert
                                       reassert := decide ((s.svc x).inForce = some r.target) }] s) := by
  refine ⟨fun q hq hno => if_neg fun hfits => ?_, fun hall => ?_⟩
  · rw [(fitsOther_iff hp).1 hfits q hq] at hno
    cases hno
  · rw [← changingFor_eq]
    exact if_pos ((fitsOther_iff hp).2 hall)

theorem dropRequest_inForce (x y : Svc) (reason : DropReason) (s : State) :
    ((dropRequest y reason s).svc x).inForce = (s.svc x).inForce := by
  unfold dropRequest
  split
  · rw [removeRequest_eq]
    cases x <;> cases y <;> simp [State.svc, Per.set, Per.get]
  · rfl

theorem dropRequest_pattern (x y : Svc) (k : Fin 4) (reason : DropReason) (s : State) :
    (dropRequest y reason s).pattern x k = s.pattern x k := by
  rw [State.pattern, (keepsSite_dropRequest y reason s).cfg, State.pattern]

theorem dropRequest_inForcePattern (x y : Svc) (reason : DropReason) (s : State) :
    inForcePattern (dropRequest y reason s) x = inForcePattern s x := by
  rw [inForcePattern, dropRequest_inForce, inForcePattern]
  exact congrArg _ (funext fun k => dropRequest_pattern x y k reason s)

/-! ## Muting -/

/-- The next stage, where there is one, is the lowest from the bound upward that has an entry. -/
theorem nextStage_iff {j : Job} {n : Nat} {l : Fin 4} :
    nextStage j n = some l ↔ n ≤ l.val ∧ (∃ m ∈ j.moves, m.stage = l) ∧ ∀ m ∈ j.moves, m.stage.val < n ∨ l ≤ m.stage := by
  refine ⟨fun h => ?_, fun ⟨hl, hm, low⟩ => nextStage_eq_some hl hm low⟩
  obtain ⟨hl, low⟩ := find_finRange.1 h
  simp only [Bool.and_eq_true, decide_eq_true_iff, Bool.not_eq_true', stageMoves_isEmpty] at hl
  refine ⟨hl.1, hl.2, fun m hm => or_iff_not_imp_left.2 fun hn => not_lt.1 fun hlt => ?_⟩
  have passed := low m.stage hlt
  rw [stageMoves_isEmpty.2 ⟨m, hm, rfl⟩] at passed
  exact hn (by simpa using passed)

theorem isSettled_iff {st : Option Settle} :
    isSettled st = true ↔ st = none ∨ st = some .notNeeded ∨ st = some .settled := by
  rcases st with _ | st
  · simp [isSettled]
  · cases st <;> simp [isSettled]

theorem testSettled_waits {j : Job} {s : State} {x : Svc} {d : Nat}
    (h : j.settle.get x = some (.delay d) ∨ j.settle.get x = some (.confirm d)) : testSettled j s = s := by
  have waits : isSettled (j.settle.get x) = false := by rcases h with h | h <;> rw [h] <;> rfl
  refine if_neg fun hall => ?_
  obtain ⟨ha, hb⟩ := Bool.and_eq_true_iff.1 hall
  cases x with
  | a => exact absurd ha (by rw [show j.settle.a = j.settle.get .a from rfl, waits]; decide)
  | b => exact absurd hb (by rw [show j.settle.b = j.settle.get .b from rfl, waits]; decide)

theorem testSettled_ends {j : Job} {s : State}
    (h : ∀ x, j.settle.get x = none ∨ j.settle.get x = some .notNeeded ∨ j.settle.get x = some .settled) :
    testSettled j s =
      match nextStage j 0 with
      | none => succeed j s
      | some k => beginStage j k s :=
  if_pos (Bool.and_eq_true_iff.2 ⟨isSettled_iff.2 (h .a), isSettled_iff.2 (h .b)⟩)

theorem settleExpired_eq {x : Svc} {s : State} {j : Job} {due : Nat} (hj : s.job = some j) (hp : j.phase = .muting)
    (hx : j.settle.get x = some (.delay due)) :
    settleExpired x s = finish (settleSvc j x { s with now := max s.now due }) := by
  simp only [settleExpired, hj, hp, hx, State.reach]

theorem settleExpired_none {x : Svc} {s : State}
    (h : ∀ j d, s.job = some j → j.phase = .muting → j.settle.get x ≠ some (.delay d)) : settleExpired x s = s := by
  unfold settleExpired
  split
  · next j hj =>
    split
    · next d hp hx => exact absurd hx (h j d hj hp)
    · rfl
  · rfl

theorem muteExpired_eq {x : Svc} {s : State} {j : Job} {due : Nat} (hj : s.job = some j) (hp : j.phase = .muting)
    (hx : j.settle.get x = some (.confirm due)) :
    muteExpired x s = finish (cancelJob j (.muteTimeout x) { s with now := max s.now due }) := by
  simp only [muteExpired, hj, hp, hx, State.reach]

theorem muteExpired_none {x : Svc} {s : State}
    (h : ∀ j d, s.job = some j → j.phase = .muting → j.settle.get x ≠ some (.confirm d)) : muteExpired x s = s := by
  unfold muteExpired
  split
  · next j hj =>
    split
    · next d hp hx => exact absurd hx (h j d hj hp)
    · rfl
  · rfl

theorem confirmSettled_eq {x : Svc} {s : State} {j : Job} {d : Nat} (hj : s.job = some j) (hp : j.phase = .muting)
    (hx : j.settle.get x = some (.confirm d)) : confirmSettled x s = finish (settleSvc j x s) := by
  simp only [confirmSettled, hj, hp, hx]

theorem confirmSettled_none {x : Svc} {s : State}
    (h : ∀ j d, s.job = some j → j.phase = .muting → j.settle.get x ≠ some (.confirm d)) : confirmSettled x s = s := by
  unfold confirmSettled
  split
  · next j hj =>
    split
    · next d hp hx => exact absurd hx (h j d hj hp)
    · rfl
  · rfl

theorem exec_rfdownAccepted {x : Svc} {s : State} (hl : loadEnded s = true) (hp : present s x = true) :
    exec (.rfdownAccepted x) s = .next (confirmSettled x { s with rfdown := s.rfdown.set x true }) :=
  congrArg _ (if_pos (Bool.and_eq_true_iff.2 ⟨hl, hp⟩))

end Sys2Proof.Machine

namespace Sys2Proof.Proofs

open Sys2Proof.Machine

/-- Settles O39: the head by its screen, alone or with the other service's request, and what the screen judges. -/
theorem formationJudgesTheHead : Obligations.FormationJudgesTheHead := by
  refine ⟨fun x rest r s ha hr => ⟨fun hp => formationPass_screened ha hr (screen_of_empty hp), fun p hp => ⟨fun hv => ?_,
      fun hv hair => ?_, fun hv hair ho => ?_⟩⟩,
    fun x k p s => ⟨patternValid_iff, inForceOnAir_iff s x k⟩, fun x reason s => ⟨fun h => ?_, fun r hr => ?_⟩,
    fun x rest r q p s u reason ha hr hq hp hv hair hreason hu => ?otherScreened,
    fun x rest r q p pq s ha hr hq hp hv hair hpq hvq hairq entry hentry => ?pair,
    fun p q => ⟨compatible_iff, ?_, ?_, fun hnone => ?_⟩⟩
  · exact formationPass_screened ha hr (by rw [screen_of_pattern hp, if_pos hv])
  · exact formationPass_screened ha hr (by rw [screen_of_pattern hp, if_neg (by simp [hv]), if_pos hair])
  · rw [formationPass_single ha hr (screen_of_sound hp hv hair) ho]
    exact formSingle_cases hp
  · simp only [dropRequest, h]
  · rw [dropRequest_some reason hr, removeRequest_eq]
  case otherScreened =>
    have screened : screen s (otherSvc x) q = some reason := by
      rcases hreason with ⟨hpq, rfl⟩ | ⟨pq, hpq, ⟨hvq, rfl⟩ | ⟨hvq, hairq, rfl⟩⟩
      · exact screen_of_empty hpq
      · rw [screen_of_pattern hpq, if_pos hvq]
      · rw [screen_of_pattern hpq, if_neg (by simp [hvq]), if_pos hairq]
    rw [formationPass_otherScreened ha hr (screen_of_sound hp hv hair) hq screened, ← hu]
    have alone := formSingle_cases (s := u) (x := x) (r := r) (p := p) (by rw [hu, dropRequest_pattern, hp])
    rwa [hu, dropRequest_inForcePattern, dropRequest_inForce, ← hu] at alone
  case pair =>
    have entry_eq (y : Svc) (v : Request) : entry y v = changingFor s y v := by rw [hentry, changingFor_eq]
    rw [formationPass_pair ha hr (screen_of_sound hp hv hair) hq (screen_of_sound hpq hvq hairq)]
    unfold formPair
    rw [targetsFit_eq hp hpq]
    refine ⟨fun hc hx => ?_, fun hc hx => ?_, fun hc => ?_⟩
    · rw [if_pos hc, entry_eq, entry_eq]
      subst hx
      rfl
    · rw [if_pos hc, entry_eq, entry_eq]
      subst hx
      rfl
    · rw [if_neg (by simp [hc]), hentry]
      exact formSingle_cases hp
  · rw [Bool.eq_iff_iff, compatible_iff, compatible_iff]
    exact ⟨fun h i a b hb ha => (h i b a ha hb).symm, fun h i a b ha hb => (h i b a hb ha).symm⟩
  · exact compatible_iff.2 fun i a b ha hb => Option.some.inj (ha.symm.trans hb)
  · exact compatible_iff.2 fun i a b ha => by rw [hnone i] at ha; cases ha

/-- Settles O41: the settle timers, the test of MUTING, and the levels of RFDOWN_x. -/
theorem mutingEndsOrIsCancelled : Obligations.MutingEndsOrIsCancelled := by
  refine ⟨fun x due s => ⟨fun j hj hp => ⟨fun hx => ⟨?_, ?_⟩, fun hx => ⟨?_, ?_⟩⟩, fun hj => ⟨?_, ?_⟩,
      fun j => ⟨fun hall => ⟨fun hm => ?_, fun m ms hms => ?_⟩, fun y d => testSettled_waits⟩⟩,
    fun x s => ⟨fun hl hpr => ⟨?_, fun hno => ?_, fun j d hj hp hx => ?_⟩, fun hno => ⟨?_, ?_⟩⟩⟩
  · exact congrArg _ (settleExpired_eq hj hp hx)
  · refine congrArg _ (muteExpired_none fun j' d hj' _ => ?_)
    rw [← Option.some.inj (hj.symm.trans hj'), hx]
    simp
  · exact congrArg _ (muteExpired_eq hj hp hx)
  · refine congrArg _ (settleExpired_none fun j' d hj' _ => ?_)
    rw [← Option.some.inj (hj.symm.trans hj'), hx]
    simp
  · exact congrArg _ (settleExpired_none fun j' d hj' => by rw [hj] at hj'; cases hj')
  · exact congrArg _ (muteExpired_none fun j' d hj' => by rw [hj] at hj'; cases hj')
  · have last : nextStage j 0 = none := nextStage_eq_none.2 (by simp [hm])
    rw [testSettled_ends hall, last]
  · cases hk : nextStage j 0 with
    | none => exact absurd (nextStage_eq_none.1 hk m (by simp [hms])) (Nat.not_lt_zero _)
    | some k =>
      obtain ⟨-, -, low⟩ := nextStage_iff.1 hk
      exact ⟨k, rfl, fun n hn => (low n hn).resolve_left (Nat.not_lt_zero _), by rw [testSettled_ends hall, hk]⟩
  · exact congrArg _ (if_pos (Bool.and_eq_true_iff.2 ⟨hl, hpr⟩))
  · exact (exec_rfdownAccepted hl hpr).trans (congrArg _ (confirmSettled_none hno))
  · exact (exec_rfdownAccepted hl hpr).trans (congrArg _ (confirmSettled_eq (by exact hj) hp hx))
  all_goals
    have unsampled : ¬ rfdownSampled s x = true := by
      rcases hno with h | h <;> simp [rfdownSampled, h]
    exact congrArg _ (if_neg unsampled)

end Sys2Proof.Proofs
end

section
/-! PROOFS. The move list and the start of a job (O40). -/

namespace Sys2Proof.Machine

/-! ## The move list -/

theorem listedBy_eq_some {s : State} {c : Changing} {i : Fin 32} {pos : Pos} :
    listedBy s c i = some pos ↔ ∃ p, (s.cfg.patterns.get c.svc)[c.target] = some p ∧ p.map[i] = some pos := by
  have pattern : s.pattern c.svc c.target = (s.cfg.patterns.get c.svc)[c.target] := rfl
  unfold listedBy
  rw [pattern]
  cases (s.cfg.patterns.get c.svc)[c.target] <;> simp

theorem calledFor_iff {s : State} {c : Changing} {i : Fin 32} {r : PointRec} (hr : s.pointRec i = some r) :
    calledFor s c i = true ↔
      ∃ q, listedBy s c i = some q ∧
        ((s.point i).commanded ≠ some q ∨ c.reassert = true ∧ sensedAt (s.point i).sensed q = false) := by
  unfold calledFor
  cases listedBy s c i <;> simp [sensedInPlace, hr]

theorem moveFor_eq_some {s : State} {cs : List Changing} {i : Fin 32} {m : Move} :
    moveFor s cs i = some m ↔
      ∃ r pos, s.pointRec i = some r ∧ cs.findSome? (fun c => listedBy s c i) = some pos ∧
        (∃ c ∈ cs, ∃ q, listedBy s c i = some q ∧
          ((s.point i).commanded ≠ some q ∨ c.reassert = true ∧ sensedAt (s.point i).sensed q = false)) ∧
        m = { point := i, fromPos := (s.point i).commanded, toPos := pos, stage := r.stage, driven := false
              timer := .off } := by
  cases hr : s.pointRec i with
  | none => simp [moveFor, hr]
  | some r =>
    cases hpos : cs.findSome? (fun c => listedBy s c i) with
    | none => simp [moveFor, hr, hpos]
    | some pos =>
      have called : (cs.any fun c => calledFor s c i) = true ↔ ∃ c ∈ cs, ∃ q, listedBy s c i = some q ∧
          ((s.point i).commanded ≠ some q ∨ c.reassert = true ∧ sensedAt (s.point i).sensed q = false) := by
        simp only [List.any_eq_true, calledFor_iff hr]
      simp only [moveFor, hr, hpos, Option.some.injEq, exists_eq_left', exists_and_left]
      rw [← called]
      split
      · next h => simp [h, eq_comm]
      · next h => simp [h]

theorem moveFor_point {s : State} {cs : List Changing} {i : Fin 32} {m : Move} (h : moveFor s cs i = some m) :
    m.point = i := by
  obtain ⟨_, _, _, _, _, rfl⟩ := moveFor_eq_some.1 h
  rfl

theorem mem_moveList {s : State} {cs : List Changing} {m : Move} :
    m ∈ moveList s cs ↔ moveFor s cs m.point = some m := by
  simp only [moveList, List.mem_flatMap, List.mem_filter, List.mem_filterMap, List.mem_finRange, true_and, beq_iff_eq]
  constructor
  · rintro ⟨k, ⟨i, hi⟩, -⟩
    rwa [moveFor_point hi]
  · exact fun h => ⟨m.stage, ⟨m.point, h⟩, rfl⟩

/-- The entries stand in ascending stage, and within a stage in ascending point index (R75). -/
theorem pairwise_moveList (s : State) (cs : List Changing) :
    (moveList s cs).Pairwise fun a b => a.stage < b.stage ∨ a.stage = b.stage ∧ a.point < b.point := by
  have entries : ((List.finRange 32).filterMap (moveFor s cs)).Pairwise fun a b => a.point < b.point := by
    refine List.Pairwise.filterMap _ (fun i i' h m hm m' hm' => ?_) (List.pairwise_lt_finRange 32)
    rwa [moveFor_point hm, moveFor_point hm']
  refine List.pairwise_flatMap.2 ⟨fun k _ => ?_, (List.pairwise_lt_finRange 4).imp fun {k l} hkl a ha b hb => ?_⟩
  · refine (entries.filter _).imp_of_mem fun {a b} ha hb hab => .inr ⟨?_, hab⟩
    simp only [List.mem_filter, beq_iff_eq] at ha hb
    exact ha.2.trans hb.2.symm
  · simp only [List.mem_filter, beq_iff_eq] at ha hb
    exact .inl (by rwa [ha.2, hb.2])

/-! ## The job formed -/

/-- The test formation makes of a collateral service (R76). -/
def collateralTest (s : State) (cs : List Changing) (ms : List Move) (y : Svc) : Bool :=
  !(cs.any fun c => c.svc == y) && onOrNearAir (s.svc y).state && ms.any fun m => hotHas s m.point y

theorem collateralTest_iff {s : State} {cs : List Changing} {ms : List Move} {y : Svc} :
    collateralTest s cs ms y = true ↔
      (∀ c ∈ cs, c.svc ≠ y) ∧ ((s.svc y).state = .verifying ∨ (s.svc y).state = .onAir) ∧
        ∃ m ∈ ms, hotHas s m.point y = true := by
  rw [collateralTest, Bool.and_eq_true, Bool.and_eq_true, Bool.not_eq_true', List.any_eq_false, onOrNearAir_iff,
    List.any_eq_true, and_assoc]
  simp

theorem collateralOf_eq_some {s : State} {cs : List Changing} {ms : List Move} {y : Svc} (hne : cs ≠ []) :
    collateralOf s cs ms = some y ↔
      present s y = true ∧ (∀ c ∈ cs, c.svc ≠ y) ∧ ((s.svc y).state = .verifying ∨ (s.svc y).state = .onAir) ∧
        ∃ m ∈ ms, hotHas s m.point y = true := by
  have find : collateralOf s cs ms = (presentSvcs s).find? (collateralTest s cs ms) := rfl
  rw [find, ← mem_presentSvcs, ← collateralTest_iff]
  constructor
  · exact fun h => ⟨List.mem_of_find?_eq_some h, List.find?_some h⟩
  · rintro ⟨hy, hp⟩
    obtain ⟨c, hc⟩ := List.exists_mem_of_ne_nil cs hne
    obtain ⟨z, hz⟩ := Option.isSome_iff_exists.1 (List.find?_isSome.2 ⟨y, hy, hp⟩)
    have other {w : Svc} (hw : collateralTest s cs ms w = true) : w = otherSvc c.svc := by
      have hne := (collateralTest_iff.1 hw).1 c hc
      cases w <;> cases hcs : c.svc <;> simp_all [otherSvc]
    rw [other hp, ← other (List.find?_some hz)]
    exact hz

theorem formedJob_settle (s : State) (cs : List Changing) (x : Svc) :
    (formedJob s cs).settle.get x =
      if x ∈ mutedSvcs (formedJob s cs) then some (settleAtStart s x (s.svc x).permit) else none := by
  have entry : (formedJob s cs).settle.get x = settleEntry s (formedJob s cs) x := by cases x <;> rfl
  rw [entry, settleEntry]
  simp only [List.contains_iff_mem]

theorem settleAtStart_eq (s : State) (x : Svc) (high : Bool) :
    settleAtStart s x high =
      if high = false then .notNeeded
      else match (s.cfg.settings.get x).muteConfirm with
        | .fixed => .delay (s.now + (s.cfg.settings.get x).settle)
        | .confirm => if s.rfdown.get x then .settled else .confirm (s.now + (s.cfg.settings.get x).muteTimeout) := by
  cases high
  · rfl
  · simp only [settleAtStart, State.settings]
    rfl

theorem formedJob_stage (s : State) (cs : List Changing) : (formedJob s cs).stage = nextStage (formedJob s cs) 0 := rfl

/-! ## The start of a job -/

/-- The state with the service records, the tables, the arrival order and the job replaced. -/
def recast (s : State) (svcs : Per Service) (tables : Per ConfTable) (arrival : List Svc) (job : Option Job) : State :=
  { s with svcs := svcs, tables := tables, arrival := arrival, job := job }

theorem post_recast (e : Event) (s : State) (svcs : Per Service) (tables : Per ConfTable) (arrival : List Svc)
    (job : Option Job) : post e (recast s svcs tables arrival job) = recast (post e s) svcs tables arrival job := by
  unfold post recast
  split <;> rfl

theorem foldl_post_recast {α : Type} (f : α → Event) (l : List α) (s : State) (svcs : Per Service) (tables : Per ConfTable)
    (arrival : List Svc) (job : Option Job) :
    l.foldl (fun t a => post (f a) t) (recast s svcs tables arrival job) =
      recast (l.foldl (fun t a => post (f a) t) s) svcs tables arrival job := by
  induction l generalizing s with
  | nil => rfl
  | cons a l ih =>
    rw [List.foldl_cons, post_recast, ih]
    rfl

/-- A state that another one differs from in its ports alone. -/
def PortsOf (s t : State) : Prop := t = { s with ports := t.ports }

theorem PortsOf.refl (s : State) : PortsOf s s := rfl

theorem PortsOf.post {s t : State} (e : Event) (h : PortsOf s t) : PortsOf s (post e t) := by
  unfold PortsOf at *
  rw [post_eq, h]

theorem PortsOf.foldl {α : Type} {f : State → α → State} (hf : ∀ s t a, PortsOf s t → PortsOf s (f t a)) (l : List α)
    {s t : State} (h : PortsOf s t) : PortsOf s (l.foldl f t) := by
  induction l generalizing t with
  | nil => exact h
  | cons a l ih => exact ih (hf s t a h)

theorem PortsOf.recast {s t : State} (h : PortsOf s t) (svcs : Per Service) (tables : Per ConfTable) (arrival : List Svc)
    (job : Option Job) :
    recast t svcs tables arrival job =
      { s with svcs := svcs, tables := tables, arrival := arrival, job := job, ports := t.ports } := by
  rw [h]
  rfl

/-- The requests of the changing services taken (R78). -/
theorem foldl_removeRequest (cs : List Changing) (s : State) :
    cs.foldl (fun t c => removeRequest c.svc t) s =
      { s with
        svcs :=
          ⟨{ s.svcs.a with request := if (cs.any fun c => c.svc == .a) = true then none else s.svcs.a.request },
            { s.svcs.b with request := if (cs.any fun c => c.svc == .b) = true then none else s.svcs.b.request }⟩
        arrival := s.arrival.filter fun x => !(cs.any fun c => c.svc == x) } := by
  induction cs generalizing s with
  | nil => simp
  | cons c cs ih =>
    rw [List.foldl_cons, ih, removeRequest_eq]
    cases hc : c.svc <;> simp [Per.set, Per.get, hc, List.filter_filter]
    all_goals
      refine List.filter_congr fun x _ => ?_
      cases x <;> exact Bool.and_comm _ _

/-- A ceiling that a job takes down is posted (R53). -/
def ceilingTaken (v : Service) (x : Svc) (s : State) : State :=
  if v.ceiling = 0 then s else post (.ceilingChanged x v.inForce 0) s

theorem PortsOf.ceilingTaken {s t : State} (v : Service) (x : Svc) (h : PortsOf s t) :
    PortsOf s (ceilingTaken v x t) := by
  unfold Machine.ceilingTaken
  split
  · exact h
  · exact h.post _

/-- A muted service's record once its job has taken it (R49). -/
def takenRecord (j : Job) (x : Svc) (v : Service) : Service :=
  { v with
    state := if isChanging j x = true then .changing else .standby
    hold := none, causes := ⟨false, false, false, false⟩, ceiling := 0, permit := false, cut := false
    edges := edgesTo v false false }

theorem takeMuted_recast (j : Job) (x : Svc) (s : State) (svcs : Per Service) (tables : Per ConfTable) (arrival : List Svc)
    (job : Option Job) :
    takeMuted j (recast s svcs tables arrival job) x =
      recast (ceilingTaken (svcs.get x) x s) (svcs.set x (takenRecord j x (svcs.get x)))
        (tables.set x { tables.get x with window := none }) arrival job := by
  have low : onOrNearAir (if isChanging j x = true then SvcState.changing else .standby) = false := by split <;> rfl
  refine (outputs_of_low (v := { svcs.get x with
    state := if isChanging j x = true then .changing else .standby, hold := none
    causes := ⟨false, false, false, false⟩ }) (by exact Per.get_set_same _ _ _) low).trans ?_
  simp only [ceilingTaken, takenRecord]
  by_cases hc : (svcs.get x).ceiling = 0
  · simp only [if_pos hc.symm, if_pos hc]
    simp [recast, State.setSvc, closeWindow, State.setTable, State.table]
    rfl
  · simp only [if_neg fun e => hc (Eq.symm e), if_neg hc]
    rw [← post_recast]
    refine congrArg (post _) ?_
    simp [recast, State.setSvc, closeWindow, State.setTable, State.table]
    rfl

theorem mutedSvcs_cases (j : Job) :
    mutedSvcs j = [] ∨ mutedSvcs j = [.a] ∨ mutedSvcs j = [.b] ∨ mutedSvcs j = [.a, .b] := by
  unfold mutedSvcs
  cases ha : isChanging j .a || j.collateral == some .a <;> cases hb : isChanging j .b || j.collateral == some .b <;>
    simp [List.filter, ha, hb]

/-- The muted services taken, A before B: their records, their windows closed, and the ceilings posted (R49, R78). -/
theorem foldl_takeMuted (j : Job) (s : State) (svcs : Per Service) (tables : Per ConfTable) (arrival : List Svc)
    (job : Option Job) :
    (mutedSvcs j).foldl (takeMuted j) (recast s svcs tables arrival job) =
      recast ((mutedSvcs j).foldl (fun w x => ceilingTaken (svcs.get x) x w) s)
        ⟨if .a ∈ mutedSvcs j then takenRecord j .a svcs.a else svcs.a,
          if .b ∈ mutedSvcs j then takenRecord j .b svcs.b else svcs.b⟩
        ⟨if .a ∈ mutedSvcs j then { tables.a with window := none } else tables.a,
          if .b ∈ mutedSvcs j then { tables.b with window := none } else tables.b⟩ arrival job := by
  rcases mutedSvcs_cases j with h | h | h | h <;> simp [h, takeMuted_recast, Per.get, Per.set]

/-- The events of a job's start, posted over the state before it: CHANGE_STARTED and STANDBY_ENTERED (R78). -/
def startPosted (j : Job) (s : State) : State :=
  match j.collateral with
  | some y => post (.standbyEntered y (s.svc y).inForce)
      (j.changing.foldl (fun t c => post (.changeStarted c.svc c.target j.moves.length) t) s)
  | none => j.changing.foldl (fun t c => post (.changeStarted c.svc c.target j.moves.length) t) s

theorem portsOf_startPosted (j : Job) (s : State) : PortsOf s (startPosted j s) := by
  have changes := PortsOf.foldl (f := fun t (c : Changing) => post (.changeStarted c.svc c.target j.moves.length) t)
    (fun _ _ _ h => h.post _) j.changing (.refl s)
  unfold startPosted
  split
  · exact changes.post _
  · exact changes

/-- The service records at a job's start, the requests of the changing services taken. -/
def requestsTaken (cs : List Changing) (s : State) : Per Service :=
  ⟨{ s.svcs.a with request := if (cs.any fun c => c.svc == .a) = true then none else s.svcs.a.request },
    { s.svcs.b with request := if (cs.any fun c => c.svc == .b) = true then none else s.svcs.b.request }⟩

theorem startJob_eq (cs : List Changing) (s : State) (j : Job) (hj : j = formedJob s cs) :
    startJob cs s =
      testSettled j ((mutedSvcs j).foldl (takeMuted j)
        (recast (startPosted j s) (requestsTaken cs s) s.tables
          (s.arrival.filter fun x => !(cs.any fun c => c.svc == x)) (some j))) := by
  have changing : j.changing = cs := by rw [hj]; rfl
  have base : (cs.foldl (fun t c => removeRequest c.svc t) s).setJob j =
      recast s (requestsTaken cs s) s.tables (s.arrival.filter fun x => !(cs.any fun c => c.svc == x)) (some j) := by
    rw [foldl_removeRequest]
    rfl
  unfold startJob
  dsimp only
  rw [← hj, base, foldl_post_recast, startPosted, changing]
  cases hy : j.collateral with
  | none => rfl
  | some y =>
    dsimp only
    rw [← post_recast]
    refine congrArg (fun o => testSettled j ((mutedSvcs j).foldl (takeMuted j) (post (.standbyEntered y o) _))) ?_
    cases y <;> rfl

end Sys2Proof.Machine

namespace Sys2Proof.Proofs

open Sys2Proof.Machine

/-- Settles O40: the move list entry by entry, the job as formed, and all that its start does. -/
theorem jobsAreFormedAndStarted : Obligations.JobsAreFormedAndStarted := by
  refine ⟨fun cs s => ⟨fun m => mem_moveList.trans moveFor_eq_some, pairwise_moveList s cs⟩,
    fun c i pos s => listedBy_eq_some, fun cs s j hne hj => ?_⟩
  have changing : j.changing = cs := by rw [hj]; rfl
  have stage : j.stage = nextStage j 0 := by rw [hj]; rfl
  have collateral : j.collateral = collateralOf s cs j.moves := by rw [hj]; rfl
  refine ⟨changing, by rw [hj]; rfl, by rw [hj]; rfl, fun y => by rw [collateral]; exact collateralOf_eq_some hne, fun x => ?_,
    ⟨by rw [hj]; rfl, by rw [hj]; rfl, fun k => ?_⟩, fun x => by rw [isChanging_iff, changing], rfl,
    fun t u v taken ht hu htaken hv => ?start⟩
  · rw [hj, formedJob_settle, settleAtStart_eq] <;> rfl
  · rw [stage, nextStage_iff]
    simp
  case start =>
    have posted : u = startPosted j s := by
      rw [hu, ht, startPosted, changing] <;> rfl
    have started : startJob cs s = testSettled j v := by
      have ports := PortsOf.foldl (f := fun w x => ceilingTaken ((requestsTaken cs s).get x) x w)
        (fun _ _ _ h => h.ceilingTaken _ _) (mutedSvcs j) (portsOf_startPosted j s)
      have step : (fun w x => ceilingTaken ((requestsTaken cs s).get x) x w) =
          fun w x => if (s.svc x).ceiling = 0 then w else post (.ceilingChanged x (s.svc x).inForce 0) w :=
        funext fun w => funext fun x => by cases x <;> rfl
      have record (x : Svc) : taken x =
          if x ∈ mutedSvcs j then takenRecord j x ((requestsTaken cs s).get x) else (requestsTaken cs s).get x := by
        have taken_request : (requestsTaken cs s).get x =
            { s.svc x with request := if isChanging j x = true then none else (s.svc x).request } := by
          rw [isChanging, changing]
          cases x <;> rfl
        rw [htaken, taken_request]
        by_cases hx : x ∈ mutedSvcs j
        · rw [if_pos hx, if_pos hx]
          rfl
        · rw [if_neg hx, if_neg hx, if_neg fun h => hx (mem_mutedSvcs.2 (.inl (isChanging_iff.1 h)))]
      have left : (fun x => !isChanging j x) = fun x => !(cs.any fun c => c.svc == x) := by
        rw [← changing]
        rfl
      rw [startJob_eq cs s j hj, foldl_takeMuted, ports.recast, hv, posted, record, record, left, step]
      rfl
    rw [started]
    refine ⟨rfl, fun ⟨x, d, hx⟩ => testSettled_waits hx, fun hall => ⟨fun hm => ?_, fun k hk => ?_⟩⟩
    · have last : nextStage j 0 = none := nextStage_eq_none.2 (by simp [hm])
      rw [testSettled_ends hall, last]
    · rw [testSettled_ends hall, ← stage, hk]

end Sys2Proof.Proofs
end

section
/-! PROOFS. The end of an event (O44): what follows, one thing at a time, and the grant of the bus. -/

namespace Sys2Proof.Machine

theorem keepsSite_settleFor (n : Nat) (s : State) : KeepsSite s (settleFor n s) := by
  induction n generalizing s with
  | zero => exact .refl s
  | succ n ih =>
    cases h : advance s with
    | none => rw [settleFor_of_none h]; exact .refl s
    | some t => rw [settleFor_of_advance h]; exact (keepsSite_of_advance h).trans (ih t)

/-- Once nothing follows any more, the event has come to its end. -/
theorem finish_of_settled {s : State} {n : Nat} (hn : n ≤ 64) (h : advance (settleFor n s) = none) :
    finish s = settleFor n s := by
  have split : finish s = settleFor (64 - n) (settleFor n s) := by
    rw [← settleFor_add, Nat.add_sub_cancel' hn, finish]
  rw [split, settleFor_of_none h]

theorem formationReady_iff {s : State} : formationReady s = true ↔ s.job = none ∧ s.phase = .running ∧ s.arrival ≠ [] := by
  simp [formationReady, and_assoc]

theorem allCommanded_iff {s : State} {e : Fin 8} :
    allCommanded s e = true ↔ ∀ i : Fin 32, drivenFrom s.cfg.points e i = true → (s.point i).commanded ≠ none := by
  simp [allCommanded, Option.isSome_iff_ne_none, or_iff_not_imp_left]

theorem grantNext_eq_none {s : State} :
    grantNext s = none ↔
      s.bus.current ≠ none ∨
        s.bus.queue = [] ∧ s.bus.eeprom = none ∧
          ∀ items, s.bus.scanner.pass = some items → ∀ i ∈ items, eligible s i = false := by
  have passed (l : List ScanItem) : (l.dropWhile fun i => !eligible s i) = [] ↔ ∀ i ∈ l, eligible s i = false := by
    simp [List.dropWhile_eq_nil_iff]
  by_cases hc : s.bus.current = none
  · have free : ¬ s.bus.current ≠ none := not_not.2 hc
    rw [or_iff_right free]
    unfold grantNext
    rw [if_neg (by simp [hc])]
    cases hq : s.bus.queue with
    | cons c rest => simp
    | nil =>
      have items : (∀ i ∈ s.bus.scanner.pass.getD [], eligible s i = false) ↔
          ∀ items, s.bus.scanner.pass = some items → ∀ i ∈ items, eligible s i = false := by
        cases s.bus.scanner.pass <;> simp
      rw [← items, ← passed]
      cases (s.bus.scanner.pass.getD []).dropWhile fun i => !eligible s i with
      | cons item rest => simp
      | nil => cases s.bus.eeprom <;> simp
  · exact iff_of_true (grantNext_of_busy hc) (.inl hc)

/-- A transaction taken on the bus, as its record has it (R5, R6). -/
theorem occupy_eq {s : State} {c : Current} {e : Fin 8} (ha : c.address = s.cfg.base + e.val) (hsp : c.speed = s.cfg.speed)
    (hg : c.grantedAt = s.now) (hd : c.discarded = false) :
    occupy c.txn c.op (expAddress s e) s = { s with bus := { s.bus with current := some c } } := by
  obtain ⟨txn, op, address, speed, grantedAt, discarded⟩ := c
  dsimp only at ha hsp hg hd
  subst ha hsp hg hd
  rfl

theorem seqOp_eq (s : State) (step : SeqStep) (e : Fin 8) :
    seqOp s step e =
      match step with
      | .initDirection | .restoreDirection | .rewriteDirection => .writeDirection (directionWord s e)
      | .rewriteOutput => .writeOutput (outputWord s e)
      | .restoreOutput =>
          if ∀ i : Fin 32, drivenFrom s.cfg.points e i = true → (s.point i).commanded ≠ none then
            .writeOutput (outputWord s e)
          else .readOutput
      | .initReadback => .readOutput
      | .initInput | .restoreInput | .confirmInput => .readInput := by
  cases step with
  | restoreOutput => exact ite_congr (propext allCommanded_iff) (fun _ => rfl) (fun _ => rfl)
  | _ => rfl

end Sys2Proof.Machine

namespace Sys2Proof.Proofs

open Sys2Proof.Machine

/-- Settles O44: the site kept, the order of what follows, and the grants. -/
theorem endOfEventKeepsTheSite : Obligations.EndOfEventKeepsTheSite := by
  refine ⟨fun s => ⟨keepsSite_settleFor 64 s, fun h => settleFor_of_none h 64⟩, fun s => ⟨fun ha => ?_, fun ha hs => ?_,
      fun ha hs hp => ?_, fun ha hs hp hf => ?_, fun ha hs hp hf => ?_, formationReady_iff,
      fun t h => ⟨settleFor_of_advance h 63, settleFor_of_advance h⟩, rfl, fun n h => settleFor_of_none h n,
      fun n => finish_of_settled⟩,
    fun s => ⟨grantNext_eq_none, fun e => ⟨beq_iff_eq, beq_iff_eq, fun ts => rfl,
      fun step r4 c ha hsp hg hd => ⟨fun ht ho => ?_, fun ht ho => ?_, fun ht ho => ?_⟩⟩⟩⟩
  · simp only [advance, ha, if_true]
  · simp only [advance, ha, hs, Bool.false_eq_true, if_false, if_true]
  · simp only [advance, ha, hs, hp, Bool.false_eq_true, if_false, if_true]
  · simp only [advance, ha, hs, hp, hf, Bool.false_eq_true, if_false, if_true]
  · simp only [advance, ha, hs, hp, hf, Bool.false_eq_true, if_false]
  · rw [← occupy_eq ha hsp hg hd, ht, ho, grantScan]
  · rw [← occupy_eq ha hsp hg hd, ht, ho, grantScan]
  · have op : seqOp s step e = c.op := by
      refine (seqOp_eq s step e).trans (Eq.trans ?_ ho.symm)
      cases step <;> rfl
    rw [← occupy_eq ha hsp hg hd, ht, ← op, grantClaim]

end Sys2Proof.Proofs
end

section
/-! PROOFS. The bus side of a configuration write (O19, O20): expanders that go out of use, come into use, change their
drive lines or start again, as equations on the expanders, the queue and the transaction on the bus. -/

namespace Sys2Proof.Machine

/-! ## Chosen expanders -/

/-- The expanders of a list that a condition chooses. -/
def chosen (l : List (Fin 8)) (p : Fin 8 → Bool) (n : Fin 8) : Bool := l.contains n && p n

theorem chosen_nil (p : Fin 8 → Bool) : chosen [] p = fun _ => false := rfl

theorem chosen_cons_of_false {l : List (Fin 8)} {p : Fin 8 → Bool} {e : Fin 8} (h : p e = false) :
    chosen (e :: l) p = chosen l p := by
  funext n
  rcases eq_or_ne n e with rfl | hn
  · simp [chosen, h]
  · simp [chosen, hn]

theorem chosen_cons_of_true {l : List (Fin 8)} {p : Fin 8 → Bool} {e : Fin 8} (h : p e = true) (n : Fin 8) :
    chosen (e :: l) p n = (n == e || chosen l p n) := by
  rcases eq_or_ne n e with rfl | hn
  · simp [chosen, h]
  · simp [chosen, hn]

theorem chosen_finRange (p : Fin 8 → Bool) : chosen (List.finRange 8) p = p := by
  funext n
  simp [chosen]

theorem exp_set (s : State) (e n : Fin 8) (v : Expander) :
    ({ s with exps := s.exps.set e v } : State).exp n = if n = e then v else s.exp n := by
  rw [State.exp, Fin.getElem_fin, Vector.getElem_set]
  simp only [Fin.ext_iff, eq_comm (a := n.val)]
  rfl

/-! ## The bus without some expanders -/

/-- The bus with the claims of some expanders gone and the result of a transaction on it for one of them discarded. -/
def dropBus (p : Fin 8 → Bool) (b : Bus) : Bus :=
  { b with
    queue := b.queue.filter fun q => !p (claimExp q)
    current := b.current.map fun c =>
      { c with
        discarded := c.discarded || match txnExp c.txn with
          | some e => p e
          | none => false } }

theorem dropBus_none (b : Bus) : dropBus (fun _ => false) b = b := by
  obtain ⟨queue, eeprom, cur, scanner, recovered⟩ := b
  rcases cur with _ | c
  · simp [dropBus]
  · rcases h : txnExp c.txn with _ | e <;> simp [dropBus, h]

theorem dropBus_dropBus (p q : Fin 8 → Bool) (b : Bus) : dropBus q (dropBus p b) = dropBus (fun n => p n || q n) b := by
  obtain ⟨queue, eeprom, cur, scanner, recovered⟩ := b
  have claims : (queue.filter fun c => !p (claimExp c)).filter (fun c => !q (claimExp c)) =
      queue.filter fun c => !(p (claimExp c) || q (claimExp c)) := by
    rw [List.filter_filter]
    exact List.filter_congr fun c _ => by rw [Bool.not_or, Bool.and_comm]
  rcases cur with _ | c
  · simp [dropBus, claims]
  · rcases h : txnExp c.txn with _ | e <;> simp [dropBus, claims, h, Bool.or_assoc]

theorem toUnused_exp (e n : Fin 8) (s : State) :
    (toUnused e s).exp n = if n = e then { health := .unused, lines := noLines, confirm := .none } else s.exp n := by
  rw [toUnused_eq]
  exact exp_set _ _ _ _

theorem toUnused_bus (e : Fin 8) (s : State) : (toUnused e s).bus = dropBus (fun n => n == e) s.bus := by
  rw [toUnused_eq]
  refine congrArg (fun f => { s.bus with
    queue := s.bus.queue.filter fun q => !(claimExp q == e), current := s.bus.current.map f }) (funext fun c => ?_)
  cases txnExp c.txn <;> simp

theorem toUnused_cfg (e : Fin 8) (s : State) : (toUnused e s).cfg = s.cfg := by rw [toUnused_eq]

/-! ## A write of the site map -/

/-- An expander that goes out of use (R4). -/
def goesOut (old new : Vector (Option PointRec) 32) (e : Fin 8) : Bool := inUse old e && !inUse new e

/-- An expander that comes into use (R4). -/
def comesIn (old new : Vector (Option PointRec) 32) (e : Fin 8) : Bool := !inUse old e && inUse new e

/-- An expander that stays in use with other drive lines (R4). -/
def rewired (old new : Vector (Option PointRec) 32) (e : Fin 8) : Bool :=
  inUse old e && inUse new e && driveLinesChange old new e

/-- The initialisations of some expanders, in ascending index (R4, R5). -/
def initSteps (r4 : Bool) (l : List (Fin 8)) : List Claim :=
  l.flatMap fun e => [.seq .initDirection e r4, .seq .initReadback e r4, .seq .initInput e r4]

theorem foldl_dropUnused (old new : Vector (Option PointRec) 32) (l : List (Fin 8)) (s : State) (hs : s.cfg.points = new) :
    (l.foldl (dropUnused old) s).cfg = s.cfg ∧
      (∀ n, (l.foldl (dropUnused old) s).exp n =
        if chosen l (goesOut old new) n = true then { health := .unused, lines := noLines, confirm := .none } else s.exp n) ∧
      (l.foldl (dropUnused old) s).bus = dropBus (chosen l (goesOut old new)) s.bus := by
  induction l generalizing s with
  | nil => exact ⟨rfl, fun n => rfl, (dropBus_none _).symm⟩
  | cons e l ih =>
    rw [List.foldl_cons]
    cases hp : goesOut old new e with
    | false =>
      have stays : dropUnused old s e = s := if_neg (by rw [hs]; exact Bool.eq_false_iff.1 hp)
      rw [stays, chosen_cons_of_false hp]
      exact ih s hs
    | true =>
      have goes : dropUnused old s e = toUnused e s := if_pos (by rw [hs]; exact hp)
      obtain ⟨cfg, exps, bus⟩ := ih (toUnused e s) ((congrArg ConfigRam.points (toUnused_cfg e s)).trans hs)
      rw [goes]
      refine ⟨cfg.trans (toUnused_cfg e s), fun n => (exps n).trans ?_, bus.trans ?_⟩
      · rw [chosen_cons_of_true hp, toUnused_exp]
        by_cases hn : n = e <;> simp [hn]
      · rw [toUnused_bus, dropBus_dropBus]
        exact congrArg (dropBus · _) (funext fun n => (chosen_cons_of_true hp n).symm)

theorem foldl_startNewlyUsed (old new : Vector (Option PointRec) 32) (l : List (Fin 8)) (s : State)
    (hs : s.cfg.points = new) :
    (l.foldl (startNewlyUsed old) s).cfg = s.cfg ∧
      (∀ n, (l.foldl (startNewlyUsed old) s).exp n =
        if chosen l (comesIn old new) n = true then { s.exp n with health := .init } else s.exp n) ∧
      (l.foldl (startNewlyUsed old) s).bus =
        { s.bus with queue := s.bus.queue ++ initSteps true (l.filter (comesIn old new)) } := by
  induction l generalizing s with
  | nil => exact ⟨rfl, fun n => rfl, by simp [initSteps]⟩
  | cons e l ih =>
    rw [List.foldl_cons]
    cases hp : comesIn old new e with
    | false =>
      have stays : startNewlyUsed old s e = s := if_neg (by rw [hs]; exact Bool.eq_false_iff.1 hp)
      rw [stays, chosen_cons_of_false hp, List.filter_cons_of_neg (by simp [hp])]
      exact ih s hs
    | true =>
      have starts : startNewlyUsed old s e = queueInit true e s := if_pos (by rw [hs]; exact hp)
      obtain ⟨cfg, exps, bus⟩ := ih (queueInit true e s) hs
      have exp (n : Fin 8) : (queueInit true e s).exp n = if n = e then { s.exp e with health := .init } else s.exp n :=
        exp_set s e n _
      rw [starts]
      refine ⟨cfg, fun n => (exps n).trans ?_, bus.trans ?_⟩
      · rw [chosen_cons_of_true hp, exp]
        by_cases hn : n = e <;> simp [hn]
      · rw [List.filter_cons_of_pos hp]
        simp [queueInit_eq, initSteps]

theorem foldl_rewriteChanged (old new : Vector (Option PointRec) 32) (l : List (Fin 8)) (s : State)
    (hs : s.cfg.points = new) :
    (l.foldl (rewriteChanged old) s).exps = s.exps ∧
      (l.foldl (rewriteChanged old) s).bus =
        { s.bus with
          queue := s.bus.queue ++ (l.filter (rewired old new)).flatMap fun e =>
            [.seq .rewriteDirection e true, .seq .rewriteOutput e true] } := by
  induction l generalizing s with
  | nil => exact ⟨rfl, by simp⟩
  | cons e l ih =>
    rw [List.foldl_cons]
    cases hp : rewired old new e with
    | false =>
      have stays : rewriteChanged old s e = s := if_neg (by rw [hs]; exact Bool.eq_false_iff.1 hp)
      rw [stays, List.filter_cons_of_neg (by simp [hp])]
      exact ih s hs
    | true =>
      have writes : rewriteChanged old s e = queueRewrite e s := if_pos (by rw [hs]; exact hp)
      obtain ⟨exps, bus⟩ := ih (queueRewrite e s) hs
      rw [writes]
      refine ⟨exps, bus.trans ?_⟩
      rw [List.filter_cons_of_pos hp]
      simp [queueRewrite_eq]

/-- The bus side of a write of the site map: each expander by what the write does to its use, and the bus (R4). -/
theorem followMap_exp (old : Vector (Option PointRec) 32) (s : State) (n : Fin 8) :
    (followMap old s).exp n =
      if goesOut old s.cfg.points n = true then { health := .unused, lines := noLines, confirm := .none }
      else if comesIn old s.cfg.points n = true then { s.exp n with health := .init } else s.exp n := by
  obtain ⟨cfg, exps, -⟩ := foldl_dropUnused old s.cfg.points (List.finRange 8) s rfl
  obtain ⟨cfg', exps', -⟩ := foldl_startNewlyUsed old s.cfg.points (List.finRange 8) _ (congrArg ConfigRam.points cfg)
  obtain ⟨exps'', -⟩ := foldl_rewriteChanged old s.cfg.points (List.finRange 8) _
    (congrArg ConfigRam.points (cfg'.trans cfg))
  refine (congrArg (·[n]) exps'').trans ((exps' n).trans ?_)
  rw [exps, chosen_finRange, chosen_finRange]
  cases ho : goesOut old s.cfg.points n with
  | false => rfl
  | true =>
    have stays : comesIn old s.cfg.points n = false := by
      obtain ⟨was, will⟩ := Bool.and_eq_true_iff.1 ho
      simp [comesIn, was]
    rw [stays]
    rfl

theorem followMap_bus (old : Vector (Option PointRec) 32) (s : State) :
    (followMap old s).bus =
      { dropBus (goesOut old s.cfg.points) s.bus with
        queue := (s.bus.queue.filter fun q => !goesOut old s.cfg.points (claimExp q)) ++
          initSteps true ((List.finRange 8).filter (comesIn old s.cfg.points)) ++
          ((List.finRange 8).filter (rewired old s.cfg.points)).flatMap fun e =>
            [.seq .rewriteDirection e true, .seq .rewriteOutput e true] } := by
  obtain ⟨cfg, -, bus⟩ := foldl_dropUnused old s.cfg.points (List.finRange 8) s rfl
  obtain ⟨cfg', -, bus'⟩ := foldl_startNewlyUsed old s.cfg.points (List.finRange 8) _ (congrArg ConfigRam.points cfg)
  obtain ⟨-, bus''⟩ := foldl_rewriteChanged old s.cfg.points (List.finRange 8) _
    (congrArg ConfigRam.points (cfg'.trans cfg))
  rw [bus, chosen_finRange] at bus'
  rw [bus'] at bus''
  exact bus''

/-! ## A new base -/

theorem restart_exp (e n : Fin 8) (s : State) :
    (queueInit false e (toUnused e s)).exp n =
      if n = e then { health := .init, lines := noLines, confirm := .none } else s.exp n := by
  refine (exp_set (toUnused e s) e n _).trans ?_
  rw [toUnused_exp, toUnused_exp, if_pos rfl]
  split <;> rfl

/-- The queue after some expanders have started again, in order: an expander's own steps stay, for it is not started
twice. -/
theorem queue_restarted {l : List (Fin 8)} {p : Fin 8 → Bool} {e : Fin 8} (he : e ∉ l) (hp : p e = true) (q : List Claim) :
    ((q.filter fun c => !(claimExp c == e)) ++ initSteps false [e]).filter (fun c => !chosen l p (claimExp c)) ++
        initSteps false (l.filter p) =
      (q.filter fun c => !chosen (e :: l) p (claimExp c)) ++ initSteps false ((e :: l).filter p) := by
  have own : chosen l p e = false := by simp [chosen, he]
  have waiting : (q.filter fun c => !(claimExp c == e)).filter (fun c => !chosen l p (claimExp c)) =
      q.filter fun c => !chosen (e :: l) p (claimExp c) := by
    rw [List.filter_filter]
    exact List.filter_congr fun c _ => by rw [chosen_cons_of_true hp, Bool.not_or, Bool.and_comm]
  rw [List.filter_append, waiting, List.filter_cons_of_pos hp]
  simp [initSteps, claimExp, own]

theorem foldl_restartExpander (points : Vector (Option PointRec) 32) (l : List (Fin 8)) (hl : l.Nodup) (s : State)
    (hs : s.cfg.points = points) :
    (∀ n, (l.foldl restartExpander s).exp n =
      if chosen l (inUse points) n = true then { health := .init, lines := noLines, confirm := .none } else s.exp n) ∧
      (l.foldl restartExpander s).bus =
        { dropBus (chosen l (inUse points)) s.bus with
          queue := (s.bus.queue.filter fun q => !chosen l (inUse points) (claimExp q)) ++
            initSteps false (l.filter (inUse points)) } := by
  induction l generalizing s with
  | nil =>
    refine ⟨fun n => rfl, ?_⟩
    rw [chosen_nil, dropBus_none]
    simp [initSteps]
  | cons e l ih =>
    obtain ⟨he, hl⟩ := List.nodup_cons.1 hl
    rw [List.foldl_cons]
    cases hp : inUse points e with
    | false =>
      have stays : restartExpander s e = s := if_neg (by rw [hs, hp]; decide)
      rw [stays, chosen_cons_of_false hp, List.filter_cons_of_neg (by simp [hp])]
      exact ih hl s hs
    | true =>
      have starts : restartExpander s e = queueInit false e (toUnused e s) := if_pos (by rw [hs, hp])
      obtain ⟨exps, bus⟩ := ih hl (queueInit false e (toUnused e s))
        ((congrArg ConfigRam.points (toUnused_cfg e s)).trans hs)
      have bus_first : (queueInit false e (toUnused e s)).bus =
          { dropBus (fun n => n == e) s.bus with
            queue := (s.bus.queue.filter fun q => !(claimExp q == e)) ++ initSteps false [e] } := by
        rw [queueInit_eq, toUnused_bus]
        rfl
      have twice := dropBus_dropBus (fun n => n == e) (chosen l (inUse points)) s.bus
      have all : (fun n => n == e || chosen l (inUse points) n) = chosen (e :: l) (inUse points) :=
        funext fun n => (chosen_cons_of_true hp n).symm
      rw [starts]
      refine ⟨fun n => (exps n).trans ?_, bus.trans ?_⟩
      · rw [chosen_cons_of_true hp, restart_exp]
        by_cases hn : n = e <;> simp [hn]
      · rw [bus_first, ← queue_restarted he hp, ← all, ← twice]
        rfl

/-- The state in which a new base has started every expander in use again, before the changes are reported (R5). -/
def rebased (s : State) : State :=
  { s with
    exps := Vector.ofFn fun e : Fin 8 =>
      if inUse s.cfg.points e then { health := .init, lines := noLines, confirm := .none } else s.exp e
    bus := { dropBus (inUse s.cfg.points) s.bus with
      queue := (s.bus.queue.filter fun q => !inUse s.cfg.points (claimExp q)) ++
        initSteps false ((List.finRange 8).filter (inUse s.cfg.points)) } }

theorem rebase_eq (s : State) : rebase s = reportSensed (rebased s) := by
  have only (t : State) (e : Fin 8) :
      restartExpander t e = { t with exps := (restartExpander t e).exps, bus := (restartExpander t e).bus } := by
    unfold restartExpander
    split
    · rw [queueInit_eq, toUnused_eq]
    · rfl
  obtain ⟨exps, bus⟩ := foldl_restartExpander s.cfg.points (List.finRange 8) (List.nodup_finRange 8) s rfl
  rw [chosen_finRange] at exps bus
  have all : ((List.finRange 8).foldl restartExpander s).exps = Vector.ofFn fun e : Fin 8 =>
      if inUse s.cfg.points e then { health := .init, lines := noLines, confirm := .none } else s.exp e :=
    Vector.ext fun n hn => (exps ⟨n, hn⟩).trans (by simp)
  refine congrArg reportSensed ((foldl_exps_bus only _ s).trans ?_)
  rw [bus, all, rebased]

/-! ## What is reported leaves the bus to the engine -/

theorem toHeld_job (x : Svc) (c : HoldCause) (s : State) : (toHeld x c s).job = s.job := by
  rw [toHeld_eq]
  dsimp only
  split <;> simp

theorem disturb_job (i : Fin 32) (s : State) : (disturb i s).job = s.job := by
  have one (x : Svc) (t : State) : (disturbService i x t).job = t.job := by
    rw [disturbService_eq]
    split
    · exact toHeld_job _ _ _
    · rfl
  exact ((one .b _).trans (one .a _)).trans (post_job _ _)

theorem judgePoints_job (l : List (Fin 32)) (s : State) : (judgePoints l s).job = s.job := by
  induction l generalizing s with
  | nil => rfl
  | cons i l ih =>
    refine (ih _).trans ?_
    unfold judgePoint
    split
    · exact disturb_job _ _
    · rfl

theorem judgePoints_bus (l : List (Fin 32)) (s : State) : (judgePoints l s).bus = s.bus := by
  induction l generalizing s with
  | nil => rfl
  | cons i l ih => exact (ih _).trans (judgePoint_bus _ _)

theorem autoExitReading_bus (x : Svc) (l : List (Fin 32)) (s : State) : (autoExitReading x l s).bus = s.bus := by
  unfold autoExitReading
  split
  · exact autoExit_bus _ _
  · rfl

/-- With the engine IDLE a report leaves the bus as it is. -/
theorem reportSensed_bus {s : State} (h : s.job = none) : (reportSensed s).bus = s.bus := by
  have derived : (withSensed s).job = none ∧ (withSensed s).bus = s.bus := by
    simp only [withSensed, h, and_self]
  have idle : (judgePoints (changedPoints s) (withSensed s)).job = none := (judgePoints_job _ _).trans derived.1
  rw [reportSensed_eq, engineSensed_of_none idle, autoExitReading_bus, autoExitReading_bus, judgePoints_bus,
    derived.2]

end Sys2Proof.Machine
end


section
/-! PROOFS. WRITE_POINT's installation and WRITE_SITE_BUS_RECORD (O19, O20). -/

namespace Sys2Proof.Machine

/-! ## What a map puts in use -/

theorem inUse_iff {points : Vector (Option PointRec) 32} {e : Fin 8} :
    inUse points e = true ↔
      ∃ (i : Fin 32) (r : PointRec), points[i] = some r ∧ (r.drive.exp = e ∨ r.sense1.exp = e ∨ r.sense2.exp = e) := by
  simp only [inUse, List.any_eq_true, List.mem_finRange, true_and, liesOn_iff]

theorem isDriveLine_iff {points : Vector (Option PointRec) 32} {e : Fin 8} {n : Fin 16} :
    isDriveLine points e n = true ↔ ∃ (i : Fin 32) (r : PointRec), points[i] = some r ∧ r.drive = ⟨e, n⟩ := by
  simp only [isDriveLine, List.any_eq_true, List.mem_finRange, true_and]
  refine exists_congr fun i => ?_
  cases points[i] <;> simp

theorem drivenFrom_iff {points : Vector (Option PointRec) 32} {e : Fin 8} {i : Fin 32} :
    drivenFrom points e i = true ↔ ∃ r, points[i] = some r ∧ r.drive.exp = e := by
  unfold drivenFrom
  cases points[i] <;> simp

theorem driveLinesChange_iff {old new : Vector (Option PointRec) 32} {e : Fin 8} :
    driveLinesChange old new e = true ↔ ∃ n : Fin 16, isDriveLine old e n ≠ isDriveLine new e n := by
  simp [driveLinesChange]

/-! ## A record installed -/

/-- The configuration and the point as the write leaves them, before the bus follows (R4). -/
def mapBase (i : Fin 32) (new : Option PointRec) (s : State) : State :=
  { s with
    cfg := { s.cfg with points := s.cfg.points.set i new }
    dirty := true
    points := s.points.set i { commanded := writtenCommand s i new, sensed := .unknown, underDrive := false } }

/-- The state once the expanders and the bus have followed the map (R4). -/
def mapWritten (i : Fin 32) (new : Option PointRec) (s : State) : State := followMap s.cfg.points (mapBase i new s)

theorem mapWritten_eq (i : Fin 32) (new : Option PointRec) (s : State) :
    mapWritten i new s =
      { mapBase i new s with exps := (mapWritten i new s).exps, bus := (mapWritten i new s).bus } := followMap_eq _ _

theorem mapWritten_pointRec (i : Fin 32) (new : Option PointRec) (s : State) : (mapWritten i new s).pointRec i = new := by
  rw [mapWritten_eq]
  simp [State.pointRec, mapBase]

/-- The state in which the written point's sensed state has been derived, before it is judged (R4). -/
def pointDerived (i : Fin 32) (new : Option PointRec) (s : State) : State :=
  match new with
  | some r => (mapWritten i new s).setPoint i
      { (mapWritten i new s).point i with sensed := deriveSensed (mapWritten i new s) r }
  | none => mapWritten i new s

theorem installPoint_none (i : Fin 32) (s : State) : installPoint i none s = autoExitAll (mapWritten i none s) := by
  have judged : judgeWritten i (mapWritten i none s) = mapWritten i none s := by
    simp only [judgeWritten, mapWritten_pointRec]
  exact congrArg autoExitAll judged

theorem installPoint_some (i : Fin 32) (r : PointRec) (s : State) :
    installPoint i (some r) s = autoExitAll (judgePoint (pointDerived i (some r) s) i) := by
  have judged : judgeWritten i (mapWritten i (some r) s) = judgePoint (pointDerived i (some r) s) i := by
    simp only [judgeWritten, mapWritten_pointRec, pointDerived]
  exact congrArg autoExitAll judged

theorem keepsSite_installPoint (i : Fin 32) (new : Option PointRec) (s : State) :
    KeepsSite (pointDerived i new s) (installPoint i new s) := by
  cases new with
  | none => rw [installPoint_none]; exact keepsSite_autoExitAll _
  | some r => rw [installPoint_some]; exact (keepsSite_judgePoints [i] _).trans (keepsSite_autoExitAll _)

theorem installPoint_points (i : Fin 32) (new : Option PointRec) (s : State) :
    (installPoint i new s).points = (pointDerived i new s).points := by
  cases new with
  | none => rw [installPoint_none, autoExitAll_points]; rfl
  | some r => rw [installPoint_some, autoExitAll_points, judgePoint_points]

theorem installPoint_bus (i : Fin 32) (new : Option PointRec) (s : State) :
    (installPoint i new s).bus = (mapWritten i new s).bus := by
  cases new with
  | none => rw [installPoint_none, autoExitAll_bus]
  | some r => rw [installPoint_some, autoExitAll_bus, judgePoint_bus]; rfl

theorem installPoint_exps (i : Fin 32) (new : Option PointRec) (s : State) :
    (installPoint i new s).exps = (mapWritten i new s).exps :=
  (keepsSite_installPoint i new s).exps.trans (by cases new <;> rfl)

theorem pointDerived_cfg (i : Fin 32) (new : Option PointRec) (s : State) :
    (pointDerived i new s).cfg = { s.cfg with points := s.cfg.points.set i new } := by
  cases new <;> exact congrArg State.cfg (mapWritten_eq i _ s)

theorem pointDerived_dirty (i : Fin 32) (new : Option PointRec) (s : State) : (pointDerived i new s).dirty = true := by
  cases new <;> exact congrArg State.dirty (mapWritten_eq i _ s)

theorem pointDerived_points (i : Fin 32) (new : Option PointRec) (s : State) :
    (pointDerived i new s).points = s.points.set i
      { commanded := writtenCommand s i new
        sensed := (new.map (deriveSensed (mapWritten i new s))).getD .unknown
        underDrive := false } := by
  have base : (mapWritten i new s).points = (mapBase i new s).points := by rw [mapWritten_eq]
  cases new with
  | none => exact base
  | some r => simp [pointDerived, State.setPoint, State.point, base, mapBase]

theorem installPoint_point_same (i : Fin 32) (new : Option PointRec) (s : State) :
    (installPoint i new s).point i =
      { commanded := writtenCommand s i new
        sensed := (new.map (deriveSensed (mapWritten i new s))).getD .unknown
        underDrive := false } := by
  rw [State.point, installPoint_points, pointDerived_points]
  simp

theorem installPoint_point_other {i n : Fin 32} (hn : n ≠ i) (new : Option PointRec) (s : State) :
    (installPoint i new s).point n = s.point n := by
  have hne : i.val ≠ n.val := fun h => hn (Fin.ext h.symm)
  rw [State.point, installPoint_points, pointDerived_points]
  exact Vector.getElem_set_ne _ _ hne

theorem deriveSensed_of_exps {s t : State} (h : t.exps = s.exps) (r : PointRec) : deriveSensed t r = deriveSensed s r := by
  simp only [deriveSensed, lineValue, State.exp, h]

theorem writtenCommand_eq (s : State) (i : Fin 32) (new : Option PointRec) :
    writtenCommand s i new =
      match s.pointRec i, new with
      | some o, some n =>
          if o.drive = n.drive then (s.point i).commanded
          else if inUse s.cfg.points n.drive.exp then some .one else none
      | none, some n => if inUse s.cfg.points n.drive.exp then some .one else none
      | _, none => none := by
  unfold writtenCommand sameDrive
  rcases s.pointRec i with _ | o <;> rcases new with _ | n <;> simp

/-! ## The site bus record -/

theorem speedOfCode_eq_none {c : Byte} (h : 1 < c.toNat) : speedOfCode c = none := by
  have zero : c ≠ 0 := by rintro rfl; exact absurd h (by decide)
  have one : c ≠ 1 := by rintro rfl; exact absurd h (by decide)
  rw [speedOfCode, if_neg zero, if_neg one]

theorem siteBusOf_eq_some {base speed : Byte} {debounce : Half} {sp : BusSpeed} (hsp : speedOfCode speed = some sp)
    (hb : baseValid base.toNat = true) :
    siteBusOf base speed debounce = some (base.toNat, sp, clampDebounce debounce) := by
  simp [siteBusOf, hsp, keepIf, hb]

theorem siteBusOf_eq_none {base speed : Byte} {debounce : Half} (h : baseValid base.toNat = false ∨ 1 < speed.toNat) :
    siteBusOf base speed debounce = none := by
  rcases h with h | h
  · cases hsp : speedOfCode speed <;> simp [siteBusOf, hsp, keepIf, h]
  · simp [siteBusOf, speedOfCode_eq_none h]

theorem installSiteBus_same {base : Nat} {sp : BusSpeed} {d : Nat} {s : State} (h : base = s.cfg.base) :
    installSiteBus base sp d s =
      autoExitAll { s with cfg := { s.cfg with base := base, speed := sp, debounce := d }, dirty := true } :=
  congrArg autoExitAll (if_pos h)

theorem installSiteBus_new {base : Nat} {sp : BusSpeed} {d : Nat} {s : State} (h : base ≠ s.cfg.base) :
    installSiteBus base sp d s =
      autoExitAll (rebase { s with cfg := { s.cfg with base := base, speed := sp, debounce := d }, dirty := true }) :=
  congrArg autoExitAll (if_neg h)

/-- An accepted site bus record, by its clamp and its base (R5). -/
theorem writeSiteBus_taken {tag base speed : Byte} {debounce : Half} {s : State} {sp : BusSpeed} {d : Nat}
    {effect : State → State} (h : SiteTakes s) (hq : siteLive s = false) (hb : baseValid base.toNat = true)
    (hsp : speedOfCode speed = some sp)
    (hd : d = max 4 (min debounce.toNat 64) - max 4 (min debounce.toNat 64) % 4)
    (he : finish (installSiteBus base.toNat sp d (windowShut .site 8 s)) = effect (windowShut .site 8 s)) :
    exec (.writeSiteBusRecord .site tag base speed debounce) s =
      .next (answered .site 8 (shortFrame (if d = debounce.toNat then 0 else 2) tag) effect s) := by
  have clamp : clampDebounce debounce = d := by rw [hd, clampDebounce, clampTo, Nat.min_comm]
  have status : (if d = debounce.toNat then (0 : Byte) else 2) = statusCode (clampStatus (d != debounce.toNat)) := by
    rw [statusCode_clampStatus]
    by_cases hc : d = debounce.toNat <;> simp [hc]
  rw [status]
  refine congrArg _ (site_taken h _ ?_)
  rw [answerWriteSiteBus, whileQuiet_of_quiet (by exact hq), siteBusOf_eq_some hsp hb, inRange_some, clamp]
  exact congrArg (fun u => whileUnsaved _ (taken _ u)) he

/-- Of the steps of several expanders, those of one. -/
theorem filter_initSteps {l : List (Fin 8)} (hl : l.Nodup) {e : Fin 8} (he : e ∈ l) (r4 : Bool) :
    (initSteps r4 l).filter (fun c => claimExp c == e) = initSteps r4 [e] := by
  have own : (initSteps r4 l).filter (fun c => claimExp c == e) = initSteps r4 (l.filter (· == e)) := by
    clear hl he
    induction l with
    | nil => rfl
    | cons n l ih =>
      have step : initSteps r4 (n :: l) = initSteps r4 [n] ++ initSteps r4 l := rfl
      rw [step, List.filter_append, ih]
      by_cases hn : n = e
      · rw [List.filter_cons_of_pos (by simp [hn])]
        simp [initSteps, claimExp, hn]
      · rw [List.filter_cons_of_neg (by simp [hn])]
        simp [initSteps, claimExp, hn]
  rw [own, List.filter_beq, List.count_eq_one_of_mem hl he, List.replicate_one]

end Sys2Proof.Machine

namespace Sys2Proof.Proofs

open Sys2Proof.Machine

/-- Settles O19: the point as written, the expanders and the bus as they follow, and the judgement at the end. -/
theorem installedPointIsWrittenAfresh : Obligations.InstalledPointIsWrittenAfresh := by
  refine ⟨fun i new s => ?installed, fun i new s t ht => ?judged,
    fun points e n => ⟨inUse_iff, isDriveLine_iff, fun i => drivenFrom_iff, fun ts step flag => ⟨rfl, rfl, rfl, rfl, rfl, rfl, rfl⟩⟩⟩
  case installed =>
    have site := keepsSite_installPoint i new s
    have written : mapWritten i new s = followMap s.cfg.points (mapBase i new s) := rfl
    refine ⟨site.cfg.trans (pointDerived_cfg i new s), site.dirty.trans (pointDerived_dirty i new s), ?_, ?_, fun r hr => ?_,
      fun n hn => ?_, fun was will moved hwas hwill hmoved => ⟨fun e => ?_, ?_⟩⟩
    · rw [installPoint_point_same]
    · refine (congrArg PointState.commanded (installPoint_point_same i new s)).trans ((writtenCommand_eq s i new).trans ?_)
      cases s.pointRec i <;> cases new <;> rfl
    · rw [installPoint_point_same, hr, deriveSensed_of_exps (installPoint_exps i (some r) s)]
      rfl
    · rw [installPoint_point_other hn]
      exact ⟨rfl, rfl⟩
    · rw [hwas, hwill]
      refine (congrArg (·[e]) (installPoint_exps i new s)).trans ?_
      rw [written]
      exact followMap_exp s.cfg.points (mapBase i new s) e
    · obtain rfl : was = inUse s.cfg.points := funext hwas
      obtain rfl : will = inUse (s.cfg.points.set i new) := funext hwill
      obtain rfl : moved = driveLinesChange s.cfg.points (s.cfg.points.set i new) :=
        funext fun e => Bool.eq_iff_iff.2 ((hmoved e).trans driveLinesChange_iff.symm)
      rw [installPoint_bus, written, followMap_bus]
      rfl
  case judged =>
    have written : t = mapWritten i new s := by
      rw [ht, installPoint_point_same, installPoint_exps, installPoint_bus, mapWritten_eq]
      rfl
    refine ⟨fun hnew => ?_, fun r hr => ?_⟩
    · rw [written, hnew, installPoint_none]
    · rw [written, hr, installPoint_some]
      rfl

/-- Settles O20: the record stored or refused, and the restart of the expanders on a new base. -/
theorem writeSiteBusStoresTheRecord : Obligations.WriteSiteBusStoresTheRecord := by
  refine ⟨fun tag base speed debounce s h => ⟨fun hl => ?_, fun hq => ⟨fun sp d hb hsp hd => ⟨fun hbase => ?_, fun hbase => ?_⟩,
      fun hbad => ?_⟩⟩,
    ⟨fun s e hjob => ⟨fun hu => ⟨?_, fun n => ?_, ?_⟩, fun hu => ?_⟩, fun s t used hused ht => ?_⟩, fun base => ?_⟩
  · refine congrArg _ (site_refused h .siteLive ?_)
    rw [answerWriteSiteBus, whileQuiet_of_live (by exact hl)]
  · exact writeSiteBus_taken h hq hb hsp hd (congrArg finish (installSiteBus_same hbase))
  · exact writeSiteBus_taken h hq hb hsp hd (congrArg finish (installSiteBus_new hbase))
  · refine congrArg _ (site_refused h .badField ?_)
    have refused : baseValid base.toNat = false ∨ 1 < speed.toNat := by
      rw [← Bool.not_eq_true, baseValid_iff]
      omega
    rw [answerWriteSiteBus, whileQuiet_of_quiet (by exact hq), siteBusOf_eq_none refused, inRange_none]
  · rw [rebase_eq, State.exp, (keepsSite_reportSensed _).exps, withSensed_exps]
    simp [rebased, hu]
  · rw [rebase_eq, State.exp, (keepsSite_reportSensed _).exps, withSensed_exps]
    simp [rebased, hu, noLines]
  · have gone : (s.bus.queue.filter fun q => !inUse s.cfg.points (claimExp q)).filter (fun c => claimExp c == e) = [] := by
      rw [List.filter_filter, List.filter_eq_nil_iff]
      rintro q - hq
      obtain ⟨hqe, hout⟩ := Bool.and_eq_true_iff.1 hq
      rw [beq_iff_eq.1 hqe, hu] at hout
      cases hout
    have mem : e ∈ (List.finRange 8).filter (inUse s.cfg.points) := List.mem_filter.2 ⟨List.mem_finRange e, hu⟩
    rw [rebase_eq, reportSensed_bus (by exact hjob), rebased, List.filter_append, gone,
      filter_initSteps ((List.nodup_finRange 8).filter _) mem]
    rfl
  · rw [rebase_eq, State.exp, (keepsSite_reportSensed _).exps, withSensed_exps]
    simp [rebased, hu]
  · obtain rfl : used = inUse s.cfg.points := funext hused
    rw [rebase_eq, ht]
    rfl
  · exact baseValid_iff base

end Sys2Proof.Proofs
end

section
/-! PROOFS. Which images are invalid (O56): each reader of an image answers none exactly where the bytes it reads say so. -/

namespace Sys2Proof.Machine

/-! ## Readers that answer none -/

/-- A field read first makes the reading fail, or what follows does, where that does not depend on its value. -/
theorem bind_eq_none_of_const {α β : Type} {o : Option α} {f : α → Option β} {q : Prop} (h : ∀ a, f a = none ↔ q) :
    o.bind f = none ↔ o = none ∨ q := by
  cases o <;> simp [h]

theorem within_eq_false {low high n : Nat} : within low high n = false ↔ n < low ∨ high < n := by
  rw [← Bool.not_eq_true, within_iff]
  omega

theorem getLsbD_zero_iff (b : Byte) : b.getLsbD 0 = true ↔ b.toNat % 2 = 1 := by
  revert b
  decide

theorem modeOfCode_eq_none {c : Byte} : modeOfCode c = none ↔ 1 < c.toNat := by
  revert c
  decide

theorem muteConfirmOfCode_eq_none {c : Byte} : muteConfirmOfCode c = none ↔ 1 < c.toNat := by
  revert c
  decide

theorem baudOfCode_eq_none {c : Byte} : baudOfCode c = none ↔ 2 < c.toNat := by
  revert c
  decide

theorem maskOfBits_eq_none {b : Byte} {start : Nat} :
    maskOfCode (bits b start 2) = none ↔ b.toNat / 2 ^ start % 4 = 0 := by
  rw [maskOfCode_eq_none, bits_toNat b _ 2 (by decide)]
  omega

theorem toNat_halfAt (img : List Byte) (i : Nat) :
    (halfAt img i).toNat = 256 * (byteAt img i).toNat + (byteAt img (i + 1)).toNat := toNat_halfOf _ _

/-! ## Points -/

theorem pointOfImage_of_absent {img : List Byte} {i : Nat} (h : (byteAt img i).toNat % 2 ≠ 1) :
    pointOfImage img i = some none := by
  have clear : (byteAt img i).getLsbD 0 = false := by rwa [← Bool.not_eq_true, getLsbD_zero_iff]
  exact if_pos (by rw [clear]; rfl)

theorem pointOfImage_of_present {img : List Byte} {i : Nat} (h : (byteAt img i).toNat % 2 = 1) :
    pointOfImage img i =
      (indexOf 4 (bits (byteAt img i) 1 2)).bind fun stage =>
        (maskOfCode (bits (byteAt img i) 3 2)).bind fun hot =>
          (lineOfByte (byteAt img (i + 1))).bind fun drive =>
            (lineOfByte (byteAt img (i + 2))).bind fun sense1 =>
              (lineOfByte (byteAt img (i + 3))).bind fun sense2 =>
                keepIf (within 5 200 (byteAt img (i + 4)).toNat)
                  (some { drive := drive, sense1 := sense1, sense2 := sense2, hot := hot, stage := stage
                          transit := (byteAt img (i + 4)).toNat * 10 }) := by
  have set_ : (byteAt img i).getLsbD 0 = true := (getLsbD_zero_iff _).2 h
  exact if_neg (by rw [set_]; decide)

theorem pointOfImage_eq_none {img : List Byte} {i : Nat} :
    pointOfImage img i = none ↔
      (byteAt img i).toNat % 2 = 1 ∧
        ((byteAt img i).toNat / 8 % 4 = 0 ∨ 128 ≤ (byteAt img (i + 1)).toNat ∨ 128 ≤ (byteAt img (i + 2)).toNat ∨
          128 ≤ (byteAt img (i + 3)).toNat ∨ (byteAt img (i + 4)).toNat < 5 ∨ 200 < (byteAt img (i + 4)).toNat) := by
  by_cases h : (byteAt img i).toNat % 2 = 1
  · have stage : ¬ indexOf 4 (bits (byteAt img i) 1 2) = none := by
      rw [indexOf_eq_none, bits_toNat _ _ 2 (by decide)]
      omega
    rw [pointOfImage_of_present h, and_iff_right h]
    refine (bind_eq_none_of_const fun stage => bind_eq_none_of_const fun hot => bind_eq_none_of_const fun drive =>
      bind_eq_none_of_const fun sense1 => bind_eq_none_of_const fun sense2 => keepIf_eq_none).trans ?_
    rw [or_iff_right stage, maskOfBits_eq_none, lineOfByte_eq_none, lineOfByte_eq_none, lineOfByte_eq_none,
      within_eq_false, show 2 ^ 3 = 8 from rfl]
  · rw [pointOfImage_of_absent h]
    exact iff_of_false (by simp) fun hp => h hp.1

/-- The line a record has at one of its three places, 1 to 3: drive, sense 1, sense 2. -/
def lineAt (r : PointRec) : Nat → Line
  | 1 => r.drive
  | 2 => r.sense1
  | _ => r.sense2

theorem lineOfByte_of_point {img : List Byte} {i : Nat} {r : PointRec} (h : pointOfImage img i = some (some r)) :
    ∀ k, 1 ≤ k → k ≤ 3 → lineOfByte (byteAt img (i + k)) = some (lineAt r k) := by
  by_cases hp : (byteAt img i).toNat % 2 = 1
  · simp only [pointOfImage_of_present hp, Option.bind_eq_some_iff, keepIf_eq_some, Option.some.injEq] at h
    obtain ⟨_, _, _, _, drive, hd, sense1, ha, sense2, hb, _, rfl⟩ := h
    intro k h1 h3
    obtain rfl | rfl | rfl : k = 1 ∨ k = 2 ∨ k = 3 := by omega
    · exact hd
    · exact ha
    · exact hb
  · rw [pointOfImage_of_absent hp] at h
    cases h

theorem point_present_iff {img : List Byte} {i : Nat} {o : Option PointRec} (h : pointOfImage img i = some o) :
    (byteAt img i).toNat % 2 = 1 ↔ ∃ r, o = some r := by
  by_cases hp : (byteAt img i).toNat % 2 = 1
  · refine iff_of_true hp ?_
    simp only [pointOfImage_of_present hp, Option.bind_eq_some_iff, keepIf_eq_some] at h
    obtain ⟨_, _, _, _, _, _, _, _, _, _, _, rfl⟩ := h
    exact ⟨_, rfl⟩
  · rw [pointOfImage_of_absent hp] at h
    obtain rfl := Option.some.inj h
    exact iff_of_false hp (by simp)

theorem lineOfByte_eq_some {b : Byte} {l : Line} :
    lineOfByte b = some l ↔ b.toNat = 16 * l.exp.val + l.line.val := by
  have high : (b >>> 4).toNat = b.toNat / 16 := by
    rw [BitVec.toNat_ushiftRight, Nat.shiftRight_eq_div_pow]
  have low : (b &&& 0x0F).toNat = b.toNat % 16 := by
    rw [BitVec.toNat_and]
    exact Nat.and_two_pow_sub_one_eq_mod b.toNat 4
  obtain ⟨e, n⟩ := l
  have fields : lineOfByte b = some ⟨e, n⟩ ↔ indexOf 8 (b >>> 4) = some e ∧ indexOf 16 (b &&& 0x0F) = some n := by
    unfold lineOfByte
    cases indexOf 8 (b >>> 4) <;> simp [and_comm]
  have hn := n.isLt
  rw [fields, indexOf_eq_some, indexOf_eq_some, high, low]
  dsimp only
  omega

theorem lineOfByte_inj {b c : Byte} {l : Line} (hb : lineOfByte b = some l) (hc : lineOfByte c = some l) : b = c :=
  BitVec.eq_of_toNat_eq ((lineOfByte_eq_some.1 hb).trans (lineOfByte_eq_some.1 hc).symm)

/-! ## The line rule -/

theorem siteMapValid_iff {points : Vector (Option PointRec) 32} : siteMapValid points = true ↔ linesDistinct points := by
  refine ⟨linesDistinct_of_siteMapValid, fun ⟨hself, hpair⟩ => ?_⟩
  rw [siteMapValid, noRepeats_iff, mapLines, List.nodup_flatMap]
  refine ⟨fun i _ => ?_, (List.nodup_finRange 32).imp fun {i j} hij l hi hj => ?_⟩
  · split
    · next r hr => exact (nodup_recLines_iff r).2 (hself i r hr)
    · exact List.nodup_nil
  · cases hr : points[i] with
    | none => simp [hr] at hi
    | some r =>
      cases hq : points[j] with
      | none => simp [hq] at hj
      | some q => exact hpair i j r q hij hr hq l (by simpa [hr] using hi) (by simpa [hq] using hj)

theorem mem_recLines {r : PointRec} {l : Line} : l ∈ recLines r ↔ ∃ k, 1 ≤ k ∧ k ≤ 3 ∧ lineAt r k = l := by
  constructor
  · intro h
    obtain rfl | rfl | rfl : l = r.drive ∨ l = r.sense1 ∨ l = r.sense2 := by simpa [recLines] using h
    · exact ⟨1, by decide, by decide, rfl⟩
    · exact ⟨2, by decide, by decide, rfl⟩
    · exact ⟨3, by decide, by decide, rfl⟩
  · rintro ⟨k, h1, h3, rfl⟩
    obtain rfl | rfl | rfl : k = 1 ∨ k = 2 ∨ k = 3 := by omega
    all_goals simp [recLines, lineAt]

/-- The line rule, line by line of the records. -/
theorem linesDistinct_iff {points : Vector (Option PointRec) 32} :
    linesDistinct points ↔
      ∀ (n m : Fin 32) (k l : Nat) (r q : PointRec), 1 ≤ k → k ≤ 3 → 1 ≤ l → l ≤ 3 → n ≠ m ∨ k ≠ l → points[n] = some r →
        points[m] = some q → lineAt r k ≠ lineAt q l := by
  constructor
  · rintro ⟨hself, hpair⟩ n m k l r q hk1 hk3 hl1 hl3 hne hr hq heq
    by_cases hnm : n = m
    · subst hnm
      obtain rfl : r = q := Option.some.inj (hr.symm.trans hq)
      obtain ⟨hd1, hd2, h12⟩ := hself n r hr
      obtain rfl | rfl | rfl : k = 1 ∨ k = 2 ∨ k = 3 := by omega
      all_goals obtain rfl | rfl | rfl : l = 1 ∨ l = 2 ∨ l = 3 := by omega
      all_goals simp_all [lineAt]
    · exact hpair n m r q hnm hr hq _ (mem_recLines.2 ⟨k, hk1, hk3, heq⟩) (mem_recLines.2 ⟨l, hl1, hl3, rfl⟩)
  · intro h
    refine ⟨fun i r hr => ⟨?_, ?_, ?_⟩, fun i j r q hij hr hq x hx hx' => ?_⟩
    · exact h i i 1 2 r r (by decide) (by decide) (by decide) (by decide) (.inr (by decide)) hr hr
    · exact h i i 1 3 r r (by decide) (by decide) (by decide) (by decide) (.inr (by decide)) hr hr
    · exact h i i 2 3 r r (by decide) (by decide) (by decide) (by decide) (.inr (by decide)) hr hr
    · obtain ⟨k, hk1, hk3, rfl⟩ := mem_recLines.1 hx
      obtain ⟨l, hl1, hl3, heq⟩ := mem_recLines.1 hx'
      exact h i j k l r q hk1 hk3 hl1 hl3 (.inl hij) hr hq heq.symm

/-! ## Interlocks, settings, routes -/

theorem interlockOfImage_eq_none {img : List Byte} {i : Nat} :
    interlockOfImage img i = none ↔ (byteAt img i).toNat % 2 = 1 ∧ (byteAt img i).toNat / 2 % 4 = 0 := by
  rw [← getLsbD_zero_iff]
  have mask := maskOfBits_eq_none (b := byteAt img i) (start := 1)
  simp only [interlockOfImage]
  cases (byteAt img i).getLsbD 0 with
  | false => simp
  | true =>
    refine (bind_eq_none_of_const (q := False) fun m => ?_).trans ?_
    · simp
    · rw [mask]
      simp

theorem settingsOfImage_eq_none {img : List Byte} {i : Nat} :
    settingsOfImage img i = none ↔
      1 < (byteAt img i).toNat ∨ 1 < (byteAt img (i + 1)).toNat ∨ (byteAt img (i + 2)).toNat < 5 ∨
        100 < (byteAt img (i + 2)).toNat ∨ (byteAt img (i + 3)).toNat < 1 ∨ 50 < (byteAt img (i + 3)).toNat ∨
        (byteAt img (i + 4)).toNat < 2 ∨ 60 < (byteAt img (i + 4)).toNat ∨ 2 < (byteAt img (i + 5)).toNat ∨
        (halfAt img (i + 6)).toNat = 0 := by
  have size := (halfAt img (i + 6)).isLt
  unfold settingsOfImage
  refine (bind_eq_none_of_const fun mode => bind_eq_none_of_const fun conf => bind_eq_none_of_const fun baud =>
    keepIf_eq_none).trans ?_
  simp only [modeOfCode_eq_none, muteConfirmOfCode_eq_none, baudOfCode_eq_none, Bool.and_eq_false_iff, within_eq_false]
  omega

/-! ## Places -/

/-- A list of places given by two vectors that follow one another. -/
theorem exists_lt_add_iff {a b : Nat} {p : Nat → Prop} :
    (∃ n, n < a + b ∧ p n) ↔ (∃ k : Fin a, p k.val) ∨ ∃ k : Fin b, p (a + k.val) := by
  constructor
  · rintro ⟨n, hn, h⟩
    by_cases ha : n < a
    · exact .inl ⟨⟨n, ha⟩, h⟩
    · refine .inr ⟨⟨n - a, by omega⟩, ?_⟩
      rwa [Nat.add_sub_cancel' (not_lt.1 ha)]
  · rintro (⟨k, h⟩ | ⟨k, h⟩)
    · exact ⟨k.val, by omega, h⟩
    · exact ⟨a + k.val, by omega, h⟩

/-- A list of places at equal distances. -/
theorem exists_place_iff {N a d : Nat} {q : Nat → Prop} :
    (∃ k : Fin N, q (a + d * k.val)) ↔ ∃ n p, n < N ∧ p = a + d * n ∧ q p := by
  constructor
  · rintro ⟨k, h⟩
    exact ⟨k.val, _, k.isLt, rfl, h⟩
  · rintro ⟨n, _, hn, rfl, h⟩
    exact ⟨⟨n, hn⟩, h⟩

/-- The places of service A's parts and of service B's behind them. -/
theorem exists_places_iff {N a d : Nat} {q : Nat → Prop} :
    ((∃ k : Fin N, q (a + d * k.val)) ∨ ∃ k : Fin N, q (a + d * N + d * k.val)) ↔
      ∃ n p, n < N + N ∧ p = a + d * n ∧ q p := by
  have shift (k : Nat) : a + d * N + d * k = a + d * (N + k) := by rw [Nat.mul_add, Nat.add_assoc]
  simp only [shift]
  refine (exists_lt_add_iff (p := fun n => q (a + d * n))).symm.trans (exists_congr fun n => ?_)
  simp

theorem exists_fin_iff {N : Nat} {q : Nat → Prop} : (∃ k : Fin N, q k.val) ↔ ∃ n, n < N ∧ q n :=
  ⟨fun ⟨k, h⟩ => ⟨k.val, k.isLt, h⟩, fun ⟨n, hn, h⟩ => ⟨⟨n, hn⟩, h⟩⟩

/-- The characters of a label stand from the byte behind its slot's first. -/
theorem exists_label_iff {i : Nat} {q : Nat → Prop} :
    (∃ k : Fin 8, q (i + 1 + k.val)) ↔ ∃ k, 1 ≤ k ∧ k ≤ 8 ∧ q (i + k) := by
  constructor
  · rintro ⟨k, h⟩
    exact ⟨1 + k.val, by omega, by omega, by rwa [← Nat.add_assoc]⟩
  · rintro ⟨k, h1, h8, h⟩
    refine ⟨⟨k - 1, by omega⟩, ?_⟩
    rwa [Nat.add_assoc, Nat.add_sub_cancel' h1]

/-! ## Pattern slots -/

theorem towerOfImage_eq_none {img : List Byte} {i : Nat} :
    towerOfImage img i = none ↔
      (byteAt img i).toNat % 2 = 1 ∧
        ((byteAt img i).toNat / 2 % 4 = 3 ∨ (byteAt img i).toNat / 8 % 4 = 3 ∨ (halfAt img (i + 1)).toNat = 0 ∨
          20000 < (halfAt img (i + 1)).toNat ∨
          1799 < (halfAt img (i + 3)).toNat ∧ (halfAt img (i + 3)).toNat < 65536 - 1800 ∨
          (halfAt img (i + 5)).toNat = 0 ∨ 500 < (halfAt img (i + 5)).toNat ∨ (halfAt img (i + 7)).toNat = 0 ∨
          900 < (halfAt img (i + 7)).toNat) := by
  have zero (h : Half) : h = 0 ↔ h.toNat = 0 := by rw [← BitVec.toNat_inj]; rfl
  have phase : (halfAt img (i + 3)).toInt < -1800 ∨ 1799 < (halfAt img (i + 3)).toInt ↔
      1799 < (halfAt img (i + 3)).toNat ∧ (halfAt img (i + 3)).toNat < 65536 - 1800 := by
    have size := (halfAt img (i + 3)).isLt
    rw [BitVec.toInt_eq_toNat_cond]
    split <;> omega
  rw [towerOfImage, towerOf_eq_none, getLsbD_zero_iff, ← phase, zero, zero, zero]
  exact and_congr_right fun _ => by omega

theorem slotOfImage_eq_none {img : List Byte} {i : Nat} :
    slotOfImage img i = none ↔
      1 < (byteAt img i).toNat ∨
        (byteAt img i).toNat = 1 ∧
          ((∃ k, 1 ≤ k ∧ k ≤ 8 ∧ ((byteAt img (i + k)).toNat < 0x20 ∨ 0x7E < (byteAt img (i + k)).toNat)) ∨
            (halfAt img (i + 9)).toNat = 0 ∨ 10000 < (halfAt img (i + 9)).toNat ∨ (byteAt img (i + 11)).toNat < 10 ∨
            90 < (byteAt img (i + 11)).toNat ∨ 11 < (byteAt img (i + 12)).toNat ∨ (byteAt img (i + 13)).toNat < 2 ∨
            120 < (byteAt img (i + 13)).toNat ∨ (byteAt img (i + 14)).toNat < 1 ∨ 15 < (byteAt img (i + 14)).toNat ∨
            2 < (byteAt img (i + 15)).toNat ∨ (∃ t q, t < 12 ∧ q = i + 16 + 9 * t ∧ towerOfImage img q = none) ∨
            ∃ m, m < 32 ∧ 2 < (byteAt img (i + 124 + m)).toNat) := by
  have code (n : Nat) (hn : n < 256) : byteAt img i = BitVec.ofNat 8 n ↔ (byteAt img i).toNat = n := by
    rw [← BitVec.toNat_inj, BitVec.toNat_ofNat, Nat.mod_eq_of_lt hn]
  have zero := code 0 (by decide)
  have one := code 1 (by decide)
  unfold slotOfImage
  by_cases h0 : byteAt img i = 0
  · rw [if_pos h0]
    have := zero.1 h0
    exact iff_of_false (by simp) (by omega)
  · have hne : (byteAt img i).toNat ≠ 0 := fun h => h0 (zero.2 h)
    rw [if_neg h0]
    by_cases h1 : byteAt img i = 1
    · have here := one.1 h1
      rw [if_neg (not_not.2 h1), or_iff_right (by omega), and_iff_right here]
      refine (bind_eq_none_of_const fun label => bind_eq_none_of_const fun ref => bind_eq_none_of_const fun policy =>
        bind_eq_none_of_const fun towers => bind_eq_none_of_const fun map => keepIf_eq_none).trans ?_
      simp only [allPresent_eq_none, labelChar_eq_none, indexOf_eq_none, policyOfCode_eq_none, mapOfByte_eq_none,
        Bool.and_eq_false_iff, within_eq_false]
      rw [exists_label_iff (q := fun i => (byteAt img i).toNat < 0x20 ∨ 0x7E < (byteAt img i).toNat),
        exists_place_iff (q := fun q => towerOfImage img q = none),
        exists_fin_iff (q := fun m => 2 < (byteAt img (i + 124 + m)).toNat)]
      generalize (∃ k, 1 ≤ k ∧ _) = label
      generalize (∃ t q, _) = towers
      generalize (∃ m, m < 32 ∧ _) = map
      by_cases hl : label
      · simp only [hl, true_or]
      · by_cases ht : towers
        · simp only [ht, true_or, or_true]
        · by_cases hm : map
          · simp only [hm, true_or, or_true]
          · simp only [hl, ht, hm, false_or, or_false]
            omega
    · have hne1 : (byteAt img i).toNat ≠ 1 := fun h => h1 (one.2 h)
      rw [if_pos h1]
      exact iff_of_true rfl (.inl (by omega))

/-! ## Month rows -/

/-- A month row read: its used entries, and unused ones behind them (R193). -/
theorem usedFirst_eq_some {l : List (Option RowEntry)} {row : List RowEntry} :
    usedFirst l = some row ↔ ∃ n, l = row.map some ++ List.replicate n none := by
  induction l generalizing row with
  | nil =>
    constructor
    · intro h
      obtain rfl := Option.some.inj h
      exact ⟨0, rfl⟩
    · rintro ⟨n, h⟩
      obtain ⟨hrow, -⟩ := List.append_eq_nil_iff.1 h.symm
      rw [List.map_eq_nil_iff.1 hrow]
      rfl
  | cons o l ih =>
    cases o with
    | none =>
      have unused : l.all Option.isNone = true ↔ ∃ n, l = List.replicate n none := by
        rw [List.all_eq_true]
        refine ⟨fun h => ⟨l.length, List.eq_replicate_iff.2 ⟨rfl, fun b hb => Option.isNone_iff_eq_none.1 (h b hb)⟩⟩, ?_⟩
        rintro ⟨n, rfl⟩ b hb
        rw [List.eq_of_mem_replicate hb]
        rfl
      rw [usedFirst, keepIf_eq_some, unused]
      constructor
      · rintro ⟨⟨n, rfl⟩, rfl⟩
        exact ⟨n + 1, rfl⟩
      · rintro ⟨n, h⟩
        cases row with
        | nil =>
          cases n with
          | zero => cases h
          | succ n => exact ⟨⟨n, (List.cons.inj h).2⟩, rfl⟩
        | cons e row => cases h
    | some e =>
      rw [usedFirst, Option.map_eq_some_iff]
      constructor
      · rintro ⟨row, hrow, rfl⟩
        obtain ⟨n, rfl⟩ := ih.1 hrow
        exact ⟨n, rfl⟩
      · rintro ⟨n, h⟩
        cases row with
        | nil => cases n <;> cases h
        | cons d row =>
          obtain ⟨hd, hl⟩ := List.cons.inj h
          obtain rfl := Option.some.inj hd
          exact ⟨row, ih.2 ⟨n, hl⟩, rfl⟩

/-- A list of entries whose used ones stand first, each below 1440 and above those before it (R154, R193). -/
def entriesAscend (l : List (Option RowEntry)) : Prop :=
  ∀ (k : Nat) (e : RowEntry), l[k]? = some (some e) →
    e.minute ≤ 1439 ∧ ∀ j < k, ∃ d : RowEntry, l[j]? = some (some d) ∧ d.minute < e.minute

theorem getElem?_used {row : List RowEntry} {n k : Nat} {e : RowEntry} :
    (row.map some ++ List.replicate n none)[k]? = some (some e) ↔ row[k]? = some e := by
  by_cases hk : k < row.length
  · rw [List.getElem?_append_left (by simpa using hk)]
    simp
  · rw [List.getElem?_append_right (by simpa using hk), List.getElem?_replicate, List.getElem?_eq_none (not_lt.1 hk)]
    split <;> simp

theorem rowSound_of_usedFirst {l : List (Option RowEntry)} (hl : l.length ≤ 4) :
    (∃ row, usedFirst l = some row ∧ rowSound row) ↔ entriesAscend l := by
  constructor
  · rintro ⟨row, hrow, -, hmin, hasc⟩ k e hk
    obtain ⟨n, rfl⟩ := usedFirst_eq_some.1 hrow
    obtain ⟨hklt, rfl⟩ := List.getElem?_eq_some_iff.1 (getElem?_used.1 hk)
    refine ⟨hmin _ (List.getElem_mem hklt), fun j hj => ⟨row[j], ?_, List.pairwise_iff_getElem.1 hasc j k _ hklt hj⟩⟩
    exact getElem?_used.2 (List.getElem?_eq_getElem _)
  · intro h
    induction l with
    | nil => exact ⟨[], rfl, by simp [rowSound]⟩
    | cons o l ih =>
      cases o with
      | none =>
        have unused : ∀ b ∈ l, b = none := by
          intro b hb
          obtain ⟨k, hk⟩ := List.mem_iff_getElem?.1 hb
          cases b with
          | none => rfl
          | some e =>
            obtain ⟨d, hd, -⟩ := (h (k + 1) e (by simpa using hk)).2 0 (Nat.succ_pos k)
            cases hd
        refine ⟨[], usedFirst_eq_some.2 ⟨l.length + 1, ?_⟩, by simp [rowSound]⟩
        rw [List.replicate_succ, ← List.eq_replicate_iff.2 ⟨rfl, unused⟩]
        rfl
      | some e =>
        have rest : entriesAscend l := fun k d hk => by
          obtain ⟨hmin, hasc⟩ := h (k + 1) d (by simpa using hk)
          exact ⟨hmin, fun j hj => by simpa using hasc (j + 1) (Nat.succ_lt_succ hj)⟩
        have shorter : l.length ≤ 3 := Nat.le_of_succ_le_succ hl
        obtain ⟨row, hrow, -, hmin, hasc⟩ := ih (by omega) rest
        obtain ⟨n, rfl⟩ := usedFirst_eq_some.1 hrow
        have first : ∀ d ∈ row, e.minute < d.minute := by
          intro d hd
          obtain ⟨k, hk⟩ := List.mem_iff_getElem?.1 hd
          obtain ⟨-, hasc⟩ := h (k + 1) d (getElem?_used (n := n).2 hk)
          obtain ⟨d, hd, hlt⟩ := hasc 0 (Nat.succ_pos k)
          obtain rfl : e = d := by simpa using hd
          exact hlt
        have here := (h 0 e rfl).1
        simp only [List.length_append, List.length_map] at shorter
        refine ⟨e :: row, usedFirst_eq_some.2 ⟨n, rfl⟩, ?_, ?_, List.pairwise_cons.2 ⟨first, hasc⟩⟩
        · rw [List.length_cons]
          omega
        · simpa [here] using hmin

theorem entryOfImage_eq_none {img : List Byte} {i : Nat} :
    entryOfImage img i = none ↔ 3 < (byteAt img (i + 2)).toNat ∧ (byteAt img (i + 2)).toNat ≠ 0xFF := by
  have unused : byteAt img (i + 2) = 0xFF ↔ (byteAt img (i + 2)).toNat = 0xFF := by rw [← BitVec.toNat_inj]; rfl
  unfold entryOfImage
  split
  · next h => exact iff_of_false (by simp) fun hn => hn.2 (unused.1 h)
  · next h =>
    rw [Option.map_eq_none_iff, indexOf_eq_none]
    exact ⟨fun hk => ⟨hk, fun hn => h (unused.2 hn)⟩, fun hk => hk.1⟩

theorem entryOfImage_eq_some {img : List Byte} {i : Nat} {e : RowEntry} :
    entryOfImage img i = some (some e) ↔
      (byteAt img (i + 2)).toNat ≠ 0xFF ∧ (byteAt img (i + 2)).toNat = e.slot.val ∧ e.minute = (halfAt img i).toNat := by
  have unused : byteAt img (i + 2) = 0xFF ↔ (byteAt img (i + 2)).toNat = 0xFF := by rw [← BitVec.toNat_inj]; rfl
  unfold entryOfImage
  split
  · next h => exact iff_of_false (by simp) fun hn => hn.1 (unused.1 h)
  · next h =>
    rw [Option.map_eq_some_iff, and_iff_right fun hn => h (unused.2 hn)]
    constructor
    · rintro ⟨k, hk, heq⟩
      obtain rfl := Option.some.inj heq
      exact ⟨indexOf_eq_some.1 hk, rfl⟩
    · rintro ⟨hk, hm⟩
      exact ⟨e.slot, indexOf_eq_some.2 hk, by rw [← hm]⟩

/-- The entries of a row place, read in order. -/
theorem entries_of_row {img : List Byte} {i : Nat} {es : List (Option RowEntry)}
    (h : (List.range 4).mapM (fun k => entryOfImage img (i + 3 * k)) = some es) (k : Nat) (o : Option RowEntry) :
    es[k]? = some o ↔ k < 4 ∧ entryOfImage img (i + 3 * k) = some o := by
  have read := congrArg (·[k]?) (mapM_eq_some.1 h)
  simp only [List.getElem?_map] at read
  by_cases hk : k < 4
  · rw [List.getElem?_range hk, Option.map_some] at read
    cases hes : es[k]? with
    | none => rw [hes] at read; cases read
    | some v =>
      rw [hes, Option.map_some] at read
      rw [Option.some.inj read, and_iff_right hk]
  · rw [List.getElem?_eq_none (by simpa using hk)] at read
    cases hes : es[k]? with
    | none => exact iff_of_false (by simp) fun hn => hk hn.1
    | some v => rw [hes] at read; cases read

theorem rowOfImage_eq_none {img : List Byte} {i : Nat} :
    rowOfImage img i = none ↔
      ∃ k, k < 4 ∧
        (3 < (byteAt img (i + 3 * k + 2)).toNat ∧ (byteAt img (i + 3 * k + 2)).toNat ≠ 0xFF ∨
          (byteAt img (i + 3 * k + 2)).toNat ≠ 0xFF ∧
            (1439 < (halfAt img (i + 3 * k)).toNat ∨
              ∃ l, l < k ∧ ((byteAt img (i + 3 * l + 2)).toNat = 0xFF ∨
                (halfAt img (i + 3 * k)).toNat ≤ (halfAt img (i + 3 * l)).toNat))) := by
  cases hes : (List.range 4).mapM fun k => entryOfImage img (i + 3 * k) with
  | none =>
    obtain ⟨k, hk, hnone⟩ := mapM_eq_none.1 hes
    refine iff_of_true ?_ ⟨k, List.mem_range.1 hk, .inl (entryOfImage_eq_none.1 hnone)⟩
    simp only [rowOfImage, bind, hes, Option.bind_none]
  | some es =>
    have entry := entries_of_row hes
    have length : es.length ≤ 4 := by rw [length_of_mapM hes]; exact le_rfl
    have slots {k : Nat} (hk : k < 4) :
        ¬(3 < (byteAt img (i + 3 * k + 2)).toNat ∧ (byteAt img (i + 3 * k + 2)).toNat ≠ 0xFF) := by
      rw [← entryOfImage_eq_none]
      intro hnone
      rw [mapM_eq_none.2 ⟨k, List.mem_range.2 hk, hnone⟩] at hes
      cases hes
    have valid : rowOfImage img i = none ↔ ¬ entriesAscend es := by
      rw [← rowSound_of_usedFirst length, Option.eq_none_iff_forall_ne_some]
      simp only [rowOfImage, bind, hes, Option.bind_some, Option.bind_eq_some_iff, keepIf_eq_some, rowValid_iff, ne_eq]
      constructor
      · rintro h ⟨row, hrow, hs⟩
        exact h row ⟨row, hrow, hs, rfl⟩
      · rintro h row ⟨r, hrow, hs, rfl⟩
        exact h ⟨r, hrow, hs⟩
    have ascend : entriesAscend es ↔ ∀ k < 4, (byteAt img (i + 3 * k + 2)).toNat ≠ 0xFF →
        (halfAt img (i + 3 * k)).toNat ≤ 1439 ∧ ∀ l < k, (byteAt img (i + 3 * l + 2)).toNat ≠ 0xFF ∧
          (halfAt img (i + 3 * l)).toNat < (halfAt img (i + 3 * k)).toNat := by
      have used {k : Nat} (hk : k < 4) (hu : (byteAt img (i + 3 * k + 2)).toNat ≠ 0xFF) :
          ∃ e : RowEntry, es[k]? = some (some e) ∧ e.minute = (halfAt img (i + 3 * k)).toNat := by
        have small : (byteAt img (i + 3 * k + 2)).toNat < 4 := not_le.1 fun h => slots hk ⟨h, hu⟩
        exact ⟨{ minute := (halfAt img (i + 3 * k)).toNat, slot := ⟨_, small⟩ },
          (entry k _).2 ⟨hk, entryOfImage_eq_some.2 ⟨hu, rfl, rfl⟩⟩, rfl⟩
      have fields {k : Nat} {e : RowEntry} (h : es[k]? = some (some e)) :
          k < 4 ∧ (byteAt img (i + 3 * k + 2)).toNat ≠ 0xFF ∧ e.minute = (halfAt img (i + 3 * k)).toNat := by
        obtain ⟨hk, hread⟩ := (entry k _).1 h
        obtain ⟨hu, -, hm⟩ := entryOfImage_eq_some.1 hread
        exact ⟨hk, hu, hm⟩
      constructor
      · intro h k hk hu
        obtain ⟨e, he, hm⟩ := used hk hu
        obtain ⟨hmin, hasc⟩ := h k e he
        refine ⟨hm ▸ hmin, fun l hl => ?_⟩
        obtain ⟨d, hd, hlt⟩ := hasc l hl
        obtain ⟨-, hul, hml⟩ := fields hd
        exact ⟨hul, hml ▸ hm ▸ hlt⟩
      · intro h k e he
        obtain ⟨hk, hu, hm⟩ := fields he
        obtain ⟨hmin, hasc⟩ := h k hk hu
        refine ⟨hm ▸ hmin, fun j hj => ?_⟩
        obtain ⟨huj, hlt⟩ := hasc j hj
        obtain ⟨d, hd, hmd⟩ := used (hj.trans hk) huj
        exact ⟨d, hd, hmd ▸ hm ▸ hlt⟩
    rw [valid, ascend]
    constructor
    · intro h
      by_contra hno
      push Not at hno
      exact h fun k hk hu => (hno k hk).2 hu
    · rintro ⟨k, hk, hbad⟩ h
      rcases hbad with hbad | ⟨hu, hbad⟩
      · exact slots hk hbad
      · obtain ⟨hmin, hasc⟩ := h k hk hu
        rcases hbad with hm | ⟨l, hl, hul | hle⟩
        · exact absurd hmin (not_le.2 hm)
        · exact (hasc l hl).1 hul
        · exact absurd (hasc l hl).2 (not_lt.2 hle)

/-! ## The body -/

/-- A map with two places of present points that hold one line, read from the bytes (R2). -/
theorem linesDistinct_of_image {img : List Byte} {points : Vector (Option PointRec) 32}
    (h : ∀ k : Fin 32, pointOfImage img (8 + 5 * k.val) = some points[k]) :
    ¬ linesDistinct points ↔
      ∃ n m k l, n < 32 ∧ m < 32 ∧ 1 ≤ k ∧ k ≤ 3 ∧ 1 ≤ l ∧ l ≤ 3 ∧ (n ≠ m ∨ k ≠ l) ∧
        (byteAt img (8 + 5 * n)).toNat % 2 = 1 ∧ (byteAt img (8 + 5 * m)).toNat % 2 = 1 ∧
        (byteAt img (8 + 5 * n + k)).toNat = (byteAt img (8 + 5 * m + l)).toNat := by
  have line {n : Fin 32} {r : PointRec} (hr : points[n] = some r) (k : Nat) (h1 : 1 ≤ k) (h3 : k ≤ 3) :
      lineOfByte (byteAt img (8 + 5 * n.val + k)) = some (lineAt r k) :=
    lineOfByte_of_point ((h n).trans (congrArg some hr)) k h1 h3
  rw [linesDistinct_iff]
  constructor
  · intro hno
    push Not at hno
    obtain ⟨n, m, k, l, r, q, hk1, hk3, hl1, hl3, hne, hr, hq, heq⟩ := hno
    refine ⟨n, m, k, l, n.isLt, m.isLt, hk1, hk3, hl1, hl3, hne.imp (fun h e => h (Fin.ext e)) id,
      (point_present_iff (h n)).2 ⟨r, hr⟩, (point_present_iff (h m)).2 ⟨q, hq⟩, ?_⟩
    rw [lineOfByte_inj (line hr k hk1 hk3) (heq ▸ line hq l hl1 hl3)]
  · rintro ⟨n, m, k, l, hn, hm, hk1, hk3, hl1, hl3, hne, hpn, hpm, heq⟩ hall
    obtain ⟨r, hr⟩ := (point_present_iff (h ⟨n, hn⟩)).1 hpn
    obtain ⟨q, hq⟩ := (point_present_iff (h ⟨m, hm⟩)).1 hpm
    refine hall ⟨n, hn⟩ ⟨m, hm⟩ k l r q hk1 hk3 hl1 hl3 (hne.imp (fun h e => h (congrArg Fin.val e)) id) hr hq ?_
    have same := line hq l hl1 hl3
    rw [← BitVec.eq_of_toNat_eq heq, line hr k hk1 hk3] at same
    exact Option.some.inj same

theorem configOfBody_eq_none {img : List Byte} :
    configOfBody img = none ↔
      (∃ k : Fin 32, pointOfImage img (8 + 5 * k.val) = none) ∨ (∃ k : Fin 4, interlockOfImage img (168 + k.val) = none) ∨
        settingsOfImage img 172 = none ∨ settingsOfImage img 180 = none ∨
        (∃ k : Fin 4, slotOfImage img (188 + 156 * k.val) = none) ∨
        (∃ k : Fin 4, slotOfImage img (812 + 156 * k.val) = none) ∨
        (∃ k : Fin 12, rowOfImage img (1436 + 12 * k.val) = none) ∨
        (∃ k : Fin 12, rowOfImage img (1580 + 12 * k.val) = none) ∨
        (∃ k : Fin 32, 7 < (byteAt img (1724 + k.val)).toNat) ∨ baseValid (byteAt img 4).toNat = false ∨
        ((byteAt img 5).toNat < 4 ∨ 64 < (byteAt img 5).toNat ∨ (byteAt img 5).toNat % 4 ≠ 0) ∨
        ∃ points : Vector (Option PointRec) 32,
          (∀ k : Fin 32, pointOfImage img (8 + 5 * k.val) = some points[k]) ∧ ¬ linesDistinct points := by
  unfold configOfBody
  cases hp : allPresent 32 fun k => pointOfImage img (8 + 5 * k.val) with
  | none => exact iff_of_true rfl (.inl (allPresent_eq_none.1 hp))
  | some points =>
    have present := allPresent_eq_some.1 hp
    have all : ¬ ∃ k : Fin 32, pointOfImage img (8 + 5 * k.val) = none := fun ⟨k, hk⟩ => by
      rw [present k] at hk
      cases hk
    have lines : (∃ ps : Vector (Option PointRec) 32,
        (∀ k : Fin 32, pointOfImage img (8 + 5 * k.val) = some ps[k]) ∧ ¬ linesDistinct ps) ↔ ¬ linesDistinct points := by
      refine ⟨fun ⟨ps, hps, hno⟩ => ?_, fun hno => ⟨points, present, hno⟩⟩
      obtain rfl : ps = points := Option.some.inj ((allPresent_eq_some.2 hps).symm.trans hp)
      exact hno
    rw [or_iff_right all, lines, ← siteMapValid_iff, Bool.not_eq_true]
    refine (bind_eq_none_of_const fun interlocks => bind_eq_none_of_const fun setA => bind_eq_none_of_const fun setB =>
      bind_eq_none_of_const fun patA => bind_eq_none_of_const fun patB => bind_eq_none_of_const fun rowsA =>
      bind_eq_none_of_const fun rowsB => bind_eq_none_of_const fun routes => keepIf_eq_none).trans ?_
    simp only [allPresent_eq_none, portSetOfCode_eq_none, Bool.and_eq_false_iff, within_eq_false, beq_eq_false_iff_ne,
      or_assoc, ne_eq]

/-- A bad point, or two lines that are the same: the line rule counts once every point is read. -/
theorem points_or_lines_iff {img : List Byte} :
    ((∃ k : Fin 32, pointOfImage img (8 + 5 * k.val) = none) ∨
        ∃ points : Vector (Option PointRec) 32,
          (∀ k : Fin 32, pointOfImage img (8 + 5 * k.val) = some points[k]) ∧ ¬ linesDistinct points) ↔
      (∃ k : Fin 32, pointOfImage img (8 + 5 * k.val) = none) ∨
        ∃ n m k l, n < 32 ∧ m < 32 ∧ 1 ≤ k ∧ k ≤ 3 ∧ 1 ≤ l ∧ l ≤ 3 ∧ (n ≠ m ∨ k ≠ l) ∧
          (byteAt img (8 + 5 * n)).toNat % 2 = 1 ∧ (byteAt img (8 + 5 * m)).toNat % 2 = 1 ∧
          (byteAt img (8 + 5 * n + k)).toNat = (byteAt img (8 + 5 * m + l)).toNat := by
  cases hp : allPresent 32 fun k => pointOfImage img (8 + 5 * k.val) with
  | none => exact iff_of_true (.inl (allPresent_eq_none.1 hp)) (.inl (allPresent_eq_none.1 hp))
  | some points =>
    have present := allPresent_eq_some.1 hp
    refine or_congr_right ⟨?_, fun clash => ⟨points, present, (linesDistinct_of_image present).2 clash⟩⟩
    rintro ⟨ps, hps, hno⟩
    exact (linesDistinct_of_image hps).1 hno

theorem baseValid_eq_false {base : Nat} :
    baseValid base = false ↔ base < 0x08 ∨ 0x70 < base ∨ 0x50 ≤ base ∧ base ≤ 0x57 := by
  rw [← Bool.not_eq_true, baseValid_iff]
  omega

theorem configOf_eq_none {img : List Byte} :
    configOf img = none ↔
      (byteAt img 0).toNat ≠ 0x54 ∨ (byteAt img 1).toNat ≠ 0x4C ∨ (byteAt img 2).toNat ≠ 1 ∨ (halfAt img 6).toNat ≠ 1758 ∨
        (crc16 (img.take 1756)).toNat ≠ (halfAt img 1756).toNat ∨ configOfBody img = none := by
  have code (i n : Nat) (hn : n < 256) : byteAt img i = BitVec.ofNat 8 n ↔ (byteAt img i).toNat = n := by
    rw [← BitVec.toNat_inj, BitVec.toNat_ofNat, Nat.mod_eq_of_lt hn]
  have sound : (headerValid img && crc16 (img.take 1756) == halfAt img 1756) = true ↔
      (byteAt img 0).toNat = 0x54 ∧ (byteAt img 1).toNat = 0x4C ∧ (byteAt img 2).toNat = 1 ∧ (halfAt img 6).toNat = 1758 ∧
        (crc16 (img.take 1756)).toNat = (halfAt img 1756).toNat := by
    rw [← code 0 0x54 (by decide), ← code 1 0x4C (by decide), ← code 2 1 (by decide), BitVec.toNat_inj]
    simp only [headerValid, Bool.and_eq_true, beq_iff_eq, and_assoc, imageLength]
    rfl
  unfold configOf
  by_cases h : (headerValid img && crc16 (img.take 1756) == halfAt img 1756) = true
  · rw [if_pos h]
    obtain ⟨h0, h1, h2, h6, hcrc⟩ := sound.1 h
    simp only [h0, h1, h2, h6, hcrc, ne_eq, not_true_eq_false, false_or]
  · rw [if_neg h]
    refine iff_of_true rfl ?_
    by_contra hno
    simp only [not_or, ne_eq, not_not] at hno
    obtain ⟨h0, h1, h2, h6, hcrc, -⟩ := hno
    exact h (sound.2 ⟨h0, h1, h2, h6, hcrc⟩)

/-- An image is invalid where its header, its CRC, its base or interval, or a part of it, is. -/
theorem configOf_eq_none_by_part {img : List Byte} :
    configOf img = none ↔
      (byteAt img 0).toNat ≠ 0x54 ∨ (byteAt img 1).toNat ≠ 0x4C ∨ (byteAt img 2).toNat ≠ 1 ∨ (halfAt img 6).toNat ≠ 1758 ∨
        (crc16 (img.take 1756)).toNat ≠ (halfAt img 1756).toNat ∨
        ((byteAt img 4).toNat < 0x08 ∨ 0x70 < (byteAt img 4).toNat ∨
          0x50 ≤ (byteAt img 4).toNat ∧ (byteAt img 4).toNat ≤ 0x57) ∨
        ((byteAt img 5).toNat < 4 ∨ 64 < (byteAt img 5).toNat ∨ (byteAt img 5).toNat % 4 ≠ 0) ∨
        (∃ n p, n < 32 ∧ p = 8 + 5 * n ∧ pointOfImage img p = none) ∨
        (∃ n m k l, n < 32 ∧ m < 32 ∧ 1 ≤ k ∧ k ≤ 3 ∧ 1 ≤ l ∧ l ≤ 3 ∧ (n ≠ m ∨ k ≠ l) ∧
          (byteAt img (8 + 5 * n)).toNat % 2 = 1 ∧ (byteAt img (8 + 5 * m)).toNat % 2 = 1 ∧
          (byteAt img (8 + 5 * n + k)).toNat = (byteAt img (8 + 5 * m + l)).toNat) ∨
        (∃ n, n < 4 ∧ interlockOfImage img (168 + n) = none) ∨
        (∃ p, (p = 172 ∨ p = 180) ∧ settingsOfImage img p = none) ∨
        (∃ n p, n < 8 ∧ p = 188 + 156 * n ∧ slotOfImage img p = none) ∨
        (∃ n p, n < 24 ∧ p = 1436 + 12 * n ∧ rowOfImage img p = none) ∨
        ∃ n, n < 32 ∧ 7 < (byteAt img (1724 + n)).toNat := by
  have lines := points_or_lines_iff (img := img)
  have settings : (∃ p, (p = 172 ∨ p = 180) ∧ settingsOfImage img p = none) ↔
      settingsOfImage img 172 = none ∨ settingsOfImage img 180 = none := by simp
  have slots : (∃ n p, n < 8 ∧ p = 188 + 156 * n ∧ slotOfImage img p = none) ↔
      (∃ k : Fin 4, slotOfImage img (188 + 156 * k.val) = none) ∨
        ∃ k : Fin 4, slotOfImage img (812 + 156 * k.val) = none :=
    (exists_places_iff (N := 4) (a := 188) (d := 156) (q := fun p => slotOfImage img p = none)).symm
  have rows : (∃ n p, n < 24 ∧ p = 1436 + 12 * n ∧ rowOfImage img p = none) ↔
      (∃ k : Fin 12, rowOfImage img (1436 + 12 * k.val) = none) ∨
        ∃ k : Fin 12, rowOfImage img (1580 + 12 * k.val) = none :=
    (exists_places_iff (N := 12) (a := 1436) (d := 12) (q := fun p => rowOfImage img p = none)).symm
  rw [exists_place_iff (q := fun p => pointOfImage img p = none)] at lines
  rw [configOf_eq_none, configOfBody_eq_none, baseValid_eq_false, settings, slots, rows,
    exists_place_iff (q := fun p => pointOfImage img p = none),
    exists_fin_iff (q := fun n => interlockOfImage img (168 + n) = none),
    exists_fin_iff (q := fun n => 7 < (byteAt img (1724 + n)).toNat)]
  generalize (∃ n p, n < 32 ∧ p = 8 + 5 * n ∧ pointOfImage img p = none) = points at lines ⊢
  generalize (∃ points : Vector (Option PointRec) 32, _) = rule at lines ⊢
  generalize (∃ n m k l, n < 32 ∧ _) = clash at lines ⊢
  by_cases bad : points
  · simp only [bad, true_or, or_true]
  · rw [or_iff_right bad, or_iff_right bad] at lines
    rw [lines, or_iff_right bad, or_iff_right bad]
    exact iff_of_eq (by ac_rfl)

end Sys2Proof.Machine

namespace Sys2Proof.Proofs

open Sys2Proof.Machine

/-- Settles O56: an image is invalid exactly where one of its parts is, and each part by the bytes its reader takes. -/
theorem invalidImagesAreRefused : Obligations.InvalidImagesAreRefused := by
  intro img byte half hbyte hhalf
  obtain rfl : byte = fun i => (byteAt img i).toNat := funext hbyte
  obtain rfl : half = fun i => (halfAt img i).toNat := funext fun i => (hhalf i).trans (toNat_halfAt img i).symm
  rw [configOf_eq_none_by_part]
  simp only [pointOfImage_eq_none, interlockOfImage_eq_none, settingsOfImage_eq_none, slotOfImage_eq_none,
    towerOfImage_eq_none, rowOfImage_eq_none]

end Sys2Proof.Proofs
end

section
/-! PROOFS. The image the part builds (O55): its layout, its CRC, and that every part of a sound configuration is read back
from the place where it stands. -/

namespace Sys2Proof.Machine

/-! ## Bytes at a place of an image -/

/-- An image holds the bytes from place `i` on. -/
def holdsAt (img : List Byte) (i : Nat) (bs : List Byte) : Prop := bs <+: img.drop i

theorem holdsAt_append {img : List Byte} {i : Nat} {as bs : List Byte} :
    holdsAt img i (as ++ bs) ↔ holdsAt img i as ∧ holdsAt img (i + as.length) bs := by
  unfold holdsAt
  constructor
  · rintro ⟨rest, h⟩
    refine ⟨⟨bs ++ rest, by rw [← List.append_assoc, h]⟩, rest, ?_⟩
    rw [← List.drop_drop, ← h, List.append_assoc, List.drop_left]
  · rintro ⟨⟨rest, h⟩, tail⟩
    rw [← List.drop_drop, ← h, List.drop_left] at tail
    rw [← h]
    exact List.prefix_append_right_inj as |>.2 tail

theorem byteAt_of_holdsAt {img : List Byte} {i : Nat} {bs : List Byte} (h : holdsAt img i bs) {k : Nat}
    (hk : k < bs.length) : byteAt img (i + k) = bs[k] := by
  obtain ⟨rest, h⟩ := h
  have read := congrArg (·[k]?) h
  simp only [List.getElem?_append_left hk, List.getElem?_drop, List.getElem?_eq_getElem hk] at read
  rw [byteAt, ← read]
  rfl

theorem byteAt_eq_ofNat {img : List Byte} {i n : Nat} (h : holdsAt img i (u8 n)) : byteAt img i = BitVec.ofNat 8 n :=
  byteAt_of_holdsAt h (k := 0) Nat.zero_lt_one

theorem byteAt_of_u8 {img : List Byte} {i n : Nat} (h : holdsAt img i (u8 n)) (hn : n < 256) : (byteAt img i).toNat = n := by
  rw [byteAt_eq_ofNat h]
  exact Nat.mod_eq_of_lt hn

theorem halfAt_of_halfBytes {img : List Byte} {i : Nat} {w : Half} (h : holdsAt img i (halfBytes w)) : halfAt img i = w := by
  have hi : byteAt img i = hiByte w := byteAt_of_holdsAt h (k := 0) Nat.zero_lt_two
  have lo : byteAt img (i + 1) = loByte w := byteAt_of_holdsAt h (k := 1) Nat.one_lt_two
  rw [halfAt, hi, lo, halfOf_hi_lo]

theorem halfAt_of_u16 {img : List Byte} {i n : Nat} (h : holdsAt img i (u16 n)) (hn : n < 65536) :
    (halfAt img i).toNat = n := by
  rw [halfAt_of_halfBytes h]
  exact Nat.mod_eq_of_lt hn

theorem halfAt_of_i16 {img : List Byte} {i : Nat} {z : Int} (h : holdsAt img i (i16 z)) (low : -32768 ≤ z) (high : z < 32768) :
    (halfAt img i).toInt = z := by
  rw [halfAt_of_halfBytes h, BitVec.toInt_ofInt, Int.bmod_eq_of_le (by omega) (by omega)]

/-- Members of one length each stand at equal distances. -/
theorem holdsAt_flatMap {α : Type} {f : α → List Byte} {n : Nat} {img : List Byte} {l : List α} {i : Nat}
    (hn : ∀ a ∈ l, (f a).length = n) (h : holdsAt img i (l.flatMap f)) (k : Nat) (hk : k < l.length) :
    holdsAt img (i + n * k) (f l[k]) := by
  induction l generalizing i k with
  | nil => exact absurd hk (Nat.not_lt_zero k)
  | cons a l ih =>
    rw [List.flatMap_cons, holdsAt_append, hn a (List.mem_cons_self ..)] at h
    obtain ⟨first, rest⟩ := h
    cases k with
    | zero => exact first
    | succ k =>
      have next := ih (fun b hb => hn b (List.mem_cons_of_mem a hb)) rest k (Nat.lt_of_succ_lt_succ hk)
      rwa [Nat.mul_succ, Nat.add_comm (n * k), ← Nat.add_assoc]

theorem holdsAt_vector {α : Type} {f : α → List Byte} {m n : Nat} {img : List Byte} {v : Vector α m} {i : Nat}
    (hn : ∀ a ∈ v.toList, (f a).length = n) (h : holdsAt img i (v.toList.flatMap f)) (k : Fin m) :
    holdsAt img (i + n * k.val) (f v[k]) := by
  have place := holdsAt_flatMap hn h k.val (by simp)
  rwa [Vector.getElem_toList] at place

/-! ## Points -/

theorem length_pointImage (o : Option PointRec) : (pointImage o).length = 5 := by cases o <;> rfl

theorem lineOfByte_of_lineByte {img : List Byte} {i : Nat} {l : Line} (h : holdsAt img i [lineByte l]) :
    lineOfByte (byteAt img i) = some l := by
  have he := l.exp.isLt
  have hl := l.line.isLt
  rw [lineOfByte_eq_some, byteAt_of_u8 h (by omega)]
  omega

theorem pointOfImage_of_holdsAt {img : List Byte} {i : Nat} {o : Option PointRec}
    (sound : ∀ r, o = some r → 50 ≤ r.transit ∧ r.transit ≤ 2000 ∧ r.transit % 10 = 0) (h : holdsAt img i (pointImage o)) :
    pointOfImage img i = some o := by
  cases o with
  | none =>
    have flags := byteAt_of_holdsAt h (k := 0) (by decide)
    rw [Nat.add_zero] at flags
    refine pointOfImage_of_absent ?_
    rw [flags]
    decide
  | some r =>
    obtain ⟨low, high, step⟩ := sound r rfl
    have hs := r.stage.isLt
    have hm : maskCode r.hot ≤ 3 := by cases r.hot <;> decide
    have split : pointImage (some r) = u8 (1 + 2 * r.stage.val + 8 * maskCode r.hot) ++ [lineByte r.drive] ++
      [lineByte r.sense1] ++ [lineByte r.sense2] ++ u8 (r.transit / 10) := rfl
    simp only [split, holdsAt_append, List.length_append, length_u8, List.length_singleton] at h
    obtain ⟨⟨⟨⟨flags, drive⟩, sense1⟩, sense2⟩, transit⟩ := h
    have flags := byteAt_of_u8 flags (by omega)
    have transit := byteAt_of_u8 transit (by omega)
    have stage : indexOf 4 (bits (byteAt img i) 1 2) = some r.stage := by
      rw [indexOf_eq_some, bits_toNat _ _ 2 (by decide), flags]
      omega
    have hot : maskOfCode (bits (byteAt img i) 3 2) = some r.hot := by
      rw [maskOfCode_eq_some, bits_toNat _ _ 2 (by decide), flags]
      omega
    have limit : within 5 200 (r.transit / 10) = true := by
      rw [within_iff]
      omega
    rw [pointOfImage_of_present (by omega), stage, hot, lineOfByte_of_lineByte drive, lineOfByte_of_lineByte sense1,
      lineOfByte_of_lineByte sense2, transit]
    simp only [Option.bind_some, limit, keepIf, if_true, Nat.div_mul_cancel (Nat.dvd_of_mod_eq_zero step)]

/-! ## Interlocks, settings, routes -/

theorem length_interlockImage (o : Option InterlockSettings) : (interlockImage o).length = 1 := by cases o <;> rfl

theorem interlockOfImage_of_holdsAt {img : List Byte} {i : Nat} {o : Option InterlockSettings}
    (h : holdsAt img i (interlockImage o)) : interlockOfImage img i = some o := by
  have byte : byteAt img i = (interlockImage o)[0]'(by rw [length_interlockImage]; decide) :=
    byteAt_of_holdsAt h (k := 0) (by rw [length_interlockImage]; decide)
  cases o with
  | none =>
    unfold interlockOfImage
    rw [byte]
    rfl
  | some c =>
    obtain ⟨mask, motion, latched, active⟩ := c
    unfold interlockOfImage
    rw [byte]
    cases mask <;> cases motion <;> cases latched <;> cases active <;> rfl

theorem length_settingsImage (c : ServiceSettings) : (settingsImage c).length = 8 := rfl

theorem settingsOfImage_of_holdsAt {img : List Byte} {i : Nat} {c : ServiceSettings} (sound : settingsSound c)
    (h : holdsAt img i (settingsImage c)) : settingsOfImage img i = some c := by
  obtain ⟨slow, shigh, sstep, mlow, mhigh, mstep, stlow, sthigh, rlow, rhigh⟩ := sound
  simp only [settingsImage, holdsAt_append, List.length_append, length_u8] at h
  obtain ⟨⟨⟨⟨⟨⟨mode, conf⟩, settle⟩, mute⟩, stale⟩, baud⟩, minRef⟩ := h
  have mode : modeOfCode (byteAt img i) = some c.initialMode := by
    rw [byteAt_eq_ofNat mode]
    cases c.initialMode <;> rfl
  have conf : muteConfirmOfCode (byteAt img (i + 1)) = some c.muteConfirm := by
    rw [byteAt_eq_ofNat conf]
    cases c.muteConfirm <;> rfl
  have baud : baudOfCode (byteAt img (i + 5)) = some c.baud := by
    rw [byteAt_eq_ofNat baud]
    cases c.baud <;> rfl
  have settle := byteAt_of_u8 settle (by omega)
  have mute := byteAt_of_u8 mute (by omega)
  have stale := byteAt_of_u8 stale (by omega)
  have minRef := halfAt_of_u16 minRef (by omega)
  have range : (within 5 100 (c.settle / 10) && within 1 50 (c.muteTimeout / 100) && within 2 60 c.stale &&
      within 1 65535 c.minRef) = true := by
    simp only [Bool.and_eq_true, within_iff]
    omega
  unfold settingsOfImage
  rw [mode, conf, baud, settle, mute, stale, minRef]
  simp only [bind, Option.bind_some, range, keepIf, if_true, Nat.div_mul_cancel (Nat.dvd_of_mod_eq_zero sstep),
    Nat.div_mul_cancel (Nat.dvd_of_mod_eq_zero mstep)]

theorem portSetCode_le (p : PortSet) : portSetCode p ≤ 7 := by
  obtain ⟨a, b, c⟩ := p
  cases a <;> cases b <;> cases c <;> decide

theorem portSetOfCode_of_holdsAt {img : List Byte} {i : Nat} {p : PortSet} (h : holdsAt img i (u8 (portSetCode p))) :
    portSetOfCode (byteAt img i) = some p :=
  portSetOfCode_eq_some (byteAt_of_u8 h (by have := portSetCode_le p; omega))

/-! ## Pattern slots -/

theorem length_towerImage (o : Option TowerEntry) : (towerImage o).length = 9 := by cases o <;> rfl

theorem length_mapByte (o : Option Pos) : (mapByte o).length = 1 := by cases o <;> rfl

theorem enforcementCode_le (e : Enforcement) : enforcementCode e ≤ 2 := by cases e <;> decide

theorem towerOfImage_of_holdsAt {img : List Byte} {i : Nat} {o : Option TowerEntry}
    (sound : ∀ t, o = some t → 1 ≤ t.ratio ∧ t.ratio ≤ 20000 ∧ -1800 ≤ t.phase ∧ t.phase ≤ 1799 ∧ 1 ≤ t.ratioTol ∧
      t.ratioTol ≤ 500 ∧ 1 ≤ t.phaseTol ∧ t.phaseTol ≤ 900) (h : holdsAt img i (towerImage o)) :
    towerOfImage img i = some o := by
  cases o with
  | none =>
    have flags : byteAt img i = 0 := byteAt_of_holdsAt h (k := 0) (by decide)
    rw [towerOfImage, flags]
    rfl
  | some t =>
    obtain ⟨rlow, rhigh, plow, phigh, rtlow, rthigh, ptlow, pthigh⟩ := sound t rfl
    have hre := enforcementCode_le t.ratioEnf
    have hpe := enforcementCode_le t.phaseEnf
    simp only [towerImage, towerFlags, holdsAt_append, List.length_append, length_u8, length_u16, length_i16] at h
    obtain ⟨⟨⟨⟨flags, ratio⟩, phase⟩, ratioTol⟩, phaseTol⟩ := h
    have flags := byteAt_of_u8 flags (by omega)
    have ratio := halfAt_of_u16 ratio (by omega)
    have phase := halfAt_of_i16 phase (by omega) (by omega)
    have ratioTol := halfAt_of_u16 ratioTol (by omega)
    have phaseTol := halfAt_of_u16 phaseTol (by omega)
    have present : (byteAt img i).getLsbD 0 = true := by
      rw [getLsbD_zero_iff]
      omega
    have ratioEnf : enforcementOfCode (bits (byteAt img i) 1 2) = some t.ratioEnf := by
      rw [enforcementOfCode_eq_some, bits_toNat _ _ 2 (by decide), flags]
      omega
    have phaseEnf : enforcementOfCode (bits (byteAt img i) 3 2) = some t.phaseEnf := by
      rw [enforcementOfCode_eq_some, bits_toNat _ _ 2 (by decide), flags]
      omega
    have range : towerInRange t = true := by
      simp only [towerInRange, Bool.and_eq_true, within_iff, decide_eq_true_eq]
      omega
    rw [towerOfImage, towerOf, present, ratioEnf, phaseEnf, ratio, phase, ratioTol, phaseTol]
    simp only [Bool.not_true, Bool.false_eq_true, if_false, bind, Option.bind_some, range, keepIf, if_true]

theorem mapOfByte_of_holdsAt {img : List Byte} {i : Nat} {o : Option Pos} (h : holdsAt img i (mapByte o)) :
    mapOfByte (byteAt img i) = some o := by
  rcases o with _ | _ | _
  all_goals
    rw [byteAt_eq_ofNat h]
    rfl

theorem length_slotImage (o : Option Pattern) : (slotImage o).length = 156 := by
  cases o with
  | none => rfl
  | some p =>
    simp only [slotImage, List.length_append, List.length_singleton, Vector.length_toList, length_u8, length_u16,
      length_flatMap_of length_towerImage, length_flatMap_of length_mapByte]

theorem slotOfImage_of_holdsAt {img : List Byte} {i : Nat} {o : Option Pattern} (sound : ∀ p, o = some p → patternSound p)
    (h : holdsAt img i (slotImage o)) : slotOfImage img i = some o := by
  cases o with
  | none =>
    have mark : byteAt img i = 0 :=
      (byteAt_of_holdsAt h (k := 0) (by rw [length_slotImage]; omega)).trans (List.getElem_replicate _)
    rw [slotOfImage, if_pos mark]
  | some p =>
    obtain ⟨hlabel, powlow, powhigh, cutlow, cuthigh, winlow, winhigh, perlow, perhigh, htowers⟩ := sound p rfl
    have href := p.refTower.isLt
    simp only [slotImage, holdsAt_append, List.length_append, List.length_singleton, Vector.length_toList, length_u8,
      length_u16, length_flatMap_of length_towerImage] at h
    obtain ⟨⟨⟨⟨⟨⟨⟨⟨⟨mark, label⟩, power⟩, cutback⟩, ref⟩, window⟩, persistence⟩, policy⟩, towers⟩, map⟩ := h
    have mark : byteAt img i = 1 := byteAt_of_holdsAt mark (k := 0) Nat.zero_lt_one
    have label (k : Fin 8) : labelChar (byteAt img (i + 1 + k.val)) = some p.label[k] := by
      rw [byteAt_of_holdsAt label (by simp), Vector.getElem_toList]
      exact labelChar_eq_some.2 ⟨hlabel k, rfl⟩
    have power := halfAt_of_u16 power (by omega)
    have cutback := byteAt_of_u8 cutback (by omega)
    have ref : indexOf 12 (byteAt img (i + 12)) = some p.refTower := indexOf_eq_some.2 (byteAt_of_u8 ref (by omega))
    have window := byteAt_of_u8 window (by omega)
    have persistence := byteAt_of_u8 persistence (by omega)
    have policy : policyOfCode (byteAt img (i + 15)) = some p.policy := by
      rw [byteAt_eq_ofNat policy]
      cases p.policy <;> rfl
    have towers (k : Fin 12) : towerOfImage img (i + 16 + 9 * k.val) = some p.towers[k] :=
      towerOfImage_of_holdsAt (htowers k) (holdsAt_vector (fun t _ => length_towerImage t) towers k)
    have map (k : Fin 32) : mapOfByte (byteAt img (i + 124 + k.val)) = some p.map[k] := by
      have place := holdsAt_vector (fun o _ => length_mapByte o) map k
      rw [Nat.one_mul] at place
      exact mapOfByte_of_holdsAt place
    have range : (within 1 10000 p.power && within 10 90 p.cutback && within 2 120 p.window && within 1 15 p.persistence) =
        true := by
      simp only [Bool.and_eq_true, within_iff]
      omega
    rw [slotOfImage, if_neg (by rw [mark]; decide), if_neg (not_not.2 mark), allPresent_eq_some.2 label,
      allPresent_eq_some.2 towers, allPresent_eq_some.2 map, ref, policy, power, cutback, window, persistence]
    simp only [bind, Option.bind_some, range, keepIf, if_true]

/-! ## Month rows -/

/-- The three bytes of an entry of a row, unused ones among them. -/
def entryImage : Option RowEntry → List Byte
  | some e => u16 e.minute ++ u8 e.slot.val
  | none => u16 0 ++ u8 0xFF

theorem length_entryImage (o : Option RowEntry) : (entryImage o).length = 3 := by cases o <;> rfl

/-- The four entries of a row place: the used ones, and unused ones behind them (R193). -/
def rowEntries (row : List RowEntry) : List (Option RowEntry) := row.map some ++ List.replicate (4 - row.length) none

/-- The unused entries of a row, three bytes each. -/
theorem unusedEntries_eq (n : Nat) :
    ((List.range n).flatMap fun _ => u16 0 ++ u8 0xFF) = (List.replicate n [0, 0, 0xFF]).flatten := by
  rw [List.flatMap_def, List.map_const', List.length_range]
  rfl

theorem rowImage_eq (row : List RowEntry) : rowImage row = (rowEntries row).flatMap entryImage := by
  rw [rowImage, unusedEntries_eq, rowEntries, List.flatMap_append, List.flatMap_map, List.flatMap_def (l := List.replicate _ _),
    List.map_replicate]
  rfl

theorem length_rowEntries {row : List RowEntry} (h : row.length ≤ 4) : (rowEntries row).length = 4 := by
  simp only [rowEntries, List.length_append, List.length_map, List.length_replicate]
  omega

theorem length_rowImage {row : List RowEntry} (h : row.length ≤ 4) : (rowImage row).length = 12 := by
  rw [rowImage_eq, length_flatMap_of length_entryImage, length_rowEntries h]

theorem entryOfImage_of_holdsAt {img : List Byte} {i : Nat} {o : Option RowEntry}
    (sound : ∀ e, o = some e → e.minute ≤ 1439) (h : holdsAt img i (entryImage o)) : entryOfImage img i = some o := by
  cases o with
  | none =>
    obtain ⟨-, slot⟩ := holdsAt_append.1 h
    rw [entryOfImage]
    exact if_pos (byteAt_eq_ofNat slot)
  | some e =>
    obtain ⟨minute, slot⟩ := holdsAt_append.1 h
    have range := sound e rfl
    have hs := e.slot.isLt
    have slot : (byteAt img (i + 2)).toNat = e.slot.val := byteAt_of_u8 slot (by omega)
    exact entryOfImage_eq_some.2 ⟨by omega, slot, (halfAt_of_u16 minute (by omega)).symm⟩

theorem rowOfImage_of_holdsAt {img : List Byte} {i : Nat} {row : List RowEntry} (sound : rowSound row)
    (h : holdsAt img i (rowImage row)) : rowOfImage img i = some row := by
  have four := length_rowEntries sound.1
  have minutes : ∀ o ∈ rowEntries row, ∀ e, o = some e → e.minute ≤ 1439 := by
    rintro _ ho e rfl
    refine sound.2.1 e ?_
    simpa [rowEntries] using ho
  rw [rowImage_eq] at h
  have entries : ((List.range 4).mapM fun k => entryOfImage img (i + 3 * k)) = some (rowEntries row) := by
    rw [mapM_eq_some]
    refine List.ext_getElem (by simp [four]) fun k hk hk' => ?_
    rw [List.getElem_map, List.getElem_map, List.getElem_range]
    have hk : k < (rowEntries row).length := by simpa using hk'
    exact entryOfImage_of_holdsAt (minutes _ (List.getElem_mem hk)) (holdsAt_flatMap (fun o _ => length_entryImage o) h k hk)
  rw [rowOfImage, entries]
  simp only [bind, Option.bind_some, usedFirst_eq_some.2 ⟨_, rfl⟩, rowEntries, (rowValid_iff row).2 sound, keepIf, if_true]

/-! ## The image -/

theorem length_headerImage (c : ConfigRam) : (headerImage c).length = 8 := rfl

theorem length_rows {rows : Vector (List RowEntry) 12} (h : ∀ m : Fin 12, rowSound rows[m]) :
    ∀ row ∈ rows.toList, (rowImage row).length = 12 := by
  intro row hrow
  obtain ⟨k, hk, rfl⟩ := List.getElem_of_mem hrow
  rw [Vector.getElem_toList]
  exact length_rowImage (h ⟨k, by simpa using hk⟩).1

theorem length_flatMap_rows {rows : Vector (List RowEntry) 12} (h : ∀ m : Fin 12, rowSound rows[m]) :
    (rows.toList.flatMap rowImage).length = 144 := by
  rw [List.length_flatMap, List.map_congr_left (length_rows h)]
  simp

theorem length_imageBody {c : ConfigRam} (h : configSound c) : (imageBody c).length = 1756 := by
  obtain ⟨-, -, -, -, -, -, rows⟩ := h
  have rowsA : ∀ m : Fin 12, rowSound c.rows.a[m] := rows .a
  have rowsB : ∀ m : Fin 12, rowSound c.rows.b[m] := rows .b
  simp only [imageBody, List.length_append, length_headerImage, length_flatMap_of length_pointImage,
    length_flatMap_of length_interlockImage, length_flatMap_of length_slotImage, length_settingsImage,
    length_flatMap_rows rowsA, length_flatMap_rows rowsB, length_flatMap_of fun p => length_u8 (portSetCode p),
    Vector.length_toList]

/-- The header's bytes, one by one. -/
theorem header_of_holdsAt {img : List Byte} {c : ConfigRam} (h : holdsAt img 0 (headerImage c)) :
    byteAt img 0 = 0x54 ∧ byteAt img 1 = 0x4C ∧ byteAt img 2 = 1 ∧
      byteAt img 3 = BitVec.ofNat 8 (timebaseCode c.timebase + 2 * speedCode c.speed) ∧ holdsAt img 4 (u8 c.base) ∧
      holdsAt img 5 (u8 c.debounce) ∧ halfAt img 6 = 1758 := by
  simp only [headerImage, holdsAt_append, List.length_append, List.length_cons, List.length_nil, length_u8] at h
  obtain ⟨⟨⟨⟨mark, flags⟩, base⟩, debounce⟩, length⟩ := h
  exact ⟨byteAt_of_holdsAt mark (k := 0) (by decide), byteAt_of_holdsAt mark (k := 1) (by decide),
    byteAt_of_holdsAt mark (k := 2) (by decide), byteAt_eq_ofNat flags, base, debounce, halfAt_of_halfBytes length⟩

/-- The bus speed and the timebase, back from the header's flags. -/
theorem flags_of_header (timebase : Timebase) (speed : BusSpeed) :
    (if (BitVec.ofNat 8 (timebaseCode timebase + 2 * speedCode speed)).getLsbD 1 then BusSpeed.khz400 else .khz100) = speed ∧
      (if (BitVec.ofNat 8 (timebaseCode timebase + 2 * speedCode speed)).getLsbD 0 then Timebase.tickIn else .internal) =
        timebase := by
  cases timebase <;> cases speed <;> exact ⟨rfl, rfl⟩

/-- The configuration read back from the bytes of its body. -/
theorem configOfBody_of_holdsAt {img : List Byte} {c : ConfigRam} (sound : configSound c) (h : holdsAt img 0 (imageBody c)) :
    configOfBody img = some c := by
  obtain ⟨lines, transits, ⟨blow, bhigh, beeprom⟩, ⟨dlow, dhigh, dstep⟩, settings, patterns, rows⟩ := sound
  have soundA : ∀ m : Fin 12, rowSound c.rows.a[m] := rows .a
  have soundB : ∀ m : Fin 12, rowSound c.rows.b[m] := rows .b
  simp only [imageBody, holdsAt_append, List.length_append, length_headerImage, length_flatMap_of length_pointImage,
    length_flatMap_of length_interlockImage, length_flatMap_of length_slotImage, length_settingsImage,
    length_flatMap_rows soundA, length_flatMap_rows soundB, Vector.length_toList] at h
  obtain ⟨⟨⟨⟨⟨⟨⟨⟨⟨header, points⟩, interlocks⟩, setA⟩, setB⟩, patA⟩, patB⟩, rowsA⟩, rowsB⟩, routes⟩ := h
  obtain ⟨-, -, -, flags, base, debounce, -⟩ := header_of_holdsAt header
  have base := byteAt_of_u8 base (by omega)
  have debounce := byteAt_of_u8 debounce (by omega)
  obtain ⟨speed, timebase⟩ := flags_of_header c.timebase c.speed
  refine configOfBody_eq_some.2 ⟨c.points, c.interlocks, c.settings.a, c.settings.b, c.patterns.a, c.patterns.b, c.rows.a,
    c.rows.b, c.routes, fun k => ?_, fun k => ?_, ?_, ?_, fun k => ?_, fun k => ?_, fun k => ?_, fun k => ?_, fun k => ?_,
    ?_, ?_, ?_, siteMapValid_iff.2 lines, ?_⟩
  · exact pointOfImage_of_holdsAt (transits k) (holdsAt_vector (fun o _ => length_pointImage o) points k)
  · have place := holdsAt_vector (fun o _ => length_interlockImage o) interlocks k
    rw [Nat.one_mul] at place
    exact interlockOfImage_of_holdsAt place
  · exact settingsOfImage_of_holdsAt (settings .a) setA
  · exact settingsOfImage_of_holdsAt (settings .b) setB
  · exact slotOfImage_of_holdsAt (patterns .a k) (holdsAt_vector (fun o _ => length_slotImage o) patA k)
  · exact slotOfImage_of_holdsAt (patterns .b k) (holdsAt_vector (fun o _ => length_slotImage o) patB k)
  · exact rowOfImage_of_holdsAt (soundA k) (holdsAt_vector (length_rows soundA) rowsA k)
  · exact rowOfImage_of_holdsAt (soundB k) (holdsAt_vector (length_rows soundB) rowsB k)
  · have place := holdsAt_vector (fun p _ => length_u8 (portSetCode p)) routes k
    rw [Nat.one_mul] at place
    exact portSetOfCode_of_holdsAt place
  · rw [base]
    exact (baseValid_iff _).2 ⟨blow, bhigh, beeprom⟩
  · rw [debounce]
    exact ⟨dlow, dhigh⟩
  · rw [debounce]
    exact dstep
  · rw [base, debounce, flags, speed, timebase]

/-- What an image's first 1758 bytes are: the body and its CRC. -/
theorem imageOf_eq (c : ConfigRam) : imageOf c = imageBody c ++ halfBytes (crc16 (imageBody c)) ++ [0xFF, 0xFF] := rfl

theorem take_imageOf {c : ConfigRam} (h : configSound c) :
    (imageOf c).take 1758 = imageBody c ++ halfBytes (crc16 (imageBody c)) :=
  List.take_left' (by rw [List.length_append, length_imageBody h, length_halfBytes])

theorem headerImage_prefix (c : ConfigRam) : headerImage c <+: imageBody c := by
  simp only [imageBody, List.append_assoc]
  exact List.prefix_append _ _

/-- An image that holds a sound configuration's body and its CRC is valid, and holds the configuration. -/
theorem configOf_of_holdsAt {img : List Byte} {c : ConfigRam} (sound : configSound c) (body : holdsAt img 0 (imageBody c))
    (crc : holdsAt img 1756 (halfBytes (crc16 (imageBody c)))) : configOf img = some c := by
  have front : img.take 1756 = imageBody c := by
    have prefix_ := List.prefix_iff_eq_take.1 body
    rw [length_imageBody sound, List.drop_zero] at prefix_
    exact prefix_.symm
  obtain ⟨h0, h1, h2, -, -, -, h6⟩ := header_of_holdsAt ((headerImage_prefix c).trans body)
  have header : headerValid img = true := by
    rw [headerValid, h0, h1, h2, h6]
    rfl
  rw [configOf, header, front, halfAt_of_halfBytes crc, Bool.true_and, if_pos (beq_self_eq_true _),
    configOfBody_of_holdsAt sound body]

theorem configOf_imageOf {c : ConfigRam} (sound : configSound c) : configOf ((imageOf c).take 1758) = some c := by
  have whole : holdsAt (imageBody c ++ halfBytes (crc16 (imageBody c))) 0
      (imageBody c ++ halfBytes (crc16 (imageBody c))) := List.prefix_rfl
  obtain ⟨body, crc⟩ := holdsAt_append.1 whole
  rw [length_imageBody sound, Nat.zero_add] at crc
  rw [take_imageOf sound]
  exact configOf_of_holdsAt sound body crc

/-! ## The CRC -/

theorem crcBit_eq {step : Half → Bool → Half}
    (h : ∀ crc bit, step crc bit = if crc.getLsbD 15 = bit then crc <<< 1 else (crc <<< 1) ^^^ 0x1021) : step = crcBit := by
  funext crc bit
  rw [h, crcBit]
  cases crc.getLsbD 15 <;> cases bit <;> rfl

theorem crc16_concat (bs : List Byte) (b : Byte) : crc16 (bs ++ [b]) = crcByte (crc16 bs) b := List.foldl_concat ..

/-- The body with the two services' parts together, as 11.4 lays it out. -/
theorem imageBody_eq (c : ConfigRam) :
    imageBody c =
      headerImage c ++ c.points.toList.flatMap pointImage ++ c.interlocks.toList.flatMap interlockImage ++
        [c.settings.a, c.settings.b].flatMap settingsImage ++
        (c.patterns.a.toList ++ c.patterns.b.toList).flatMap slotImage ++
        (c.rows.a.toList ++ c.rows.b.toList).flatMap rowImage ++ c.routes.toList.flatMap fun p => u8 (portSetCode p) := by
  simp only [imageBody, List.flatMap_append, List.flatMap_cons, List.flatMap_nil, List.append_nil, List.append_assoc]

theorem append_congr {α : Type} {a b c d : List α} (h : a = b) (k : c = d) : a ++ c = b ++ d := by rw [h, k]

end Sys2Proof.Machine

namespace Sys2Proof.Proofs

open Sys2Proof.Machine

/-- Settles O55: the layout part by part, and each part read back from the place where it stands. -/
theorem imageHoldsTheConfiguration : Obligations.ImageHoldsTheConfiguration := by
  refine ⟨⟨by decide +kernel, fun c sound => ⟨?_, ?_, ?_, ?_, ?_⟩⟩, fun step hstep => ⟨rfl, fun bs b => ?_⟩,
    fun c line body hline hbody => ?_, fun c => configOf_imageOf⟩
  · rw [imageOf_eq, List.length_append, List.length_append, length_imageBody sound]
    rfl
  · rfl
  · rfl
  · have body : (imageOf c).take 1756 = imageBody c := by
      rw [imageOf_eq, List.append_assoc, List.take_left' (length_imageBody sound)]
    rw [body, imageOf_eq, List.append_assoc, List.drop_left' (length_imageBody sound)]
    rfl
  · rw [imageOf_eq, List.drop_left' (by rw [List.length_append, length_imageBody sound, length_halfBytes])]
  · rw [crcBit_eq hstep, crc16_concat]
    rfl
  · suffices same : body = imageBody c by
      rw [same, imageOf_eq]
      rfl
    rw [hbody, imageBody_eq]
    refine append_congr (append_congr (append_congr (append_congr (append_congr (append_congr ?_ ?_) ?_) ?_) ?_) ?_) rfl
    · rw [headerImage]
      cases c.timebase <;> cases c.speed <;> rfl
    · refine congrArg (c.points.toList.flatMap ·) (funext fun o => ?_)
      cases o with
      | none => rfl
      | some r =>
        simp only [hline, pointImage, lineByte, Nat.mul_comm 16]
        rfl
    · refine congrArg (c.interlocks.toList.flatMap ·) (funext fun o => ?_)
      cases o with
      | none => rfl
      | some i =>
        obtain ⟨mask, motion, latched, active⟩ := i
        cases motion <;> cases latched <;> cases active <;> rfl
    · refine congrArg ([c.settings.a, c.settings.b].flatMap ·) (funext fun v => ?_)
      rw [settingsImage]
      cases v.initialMode <;> cases v.muteConfirm <;> cases v.baud <;> rfl
    · refine congrArg ((c.patterns.a.toList ++ c.patterns.b.toList).flatMap ·) (funext fun o => ?_)
      cases o with
      | none => rfl
      | some p =>
        refine append_congr (append_congr rfl ?_) ?_
        · refine congrArg (p.towers.toList.flatMap ·) (funext fun t => ?_)
          cases t <;> rfl
        · refine congrArg (p.map.toList.flatMap ·) (funext fun pos => ?_)
          cases pos <;> rfl
    · refine congrArg ((c.rows.a.toList ++ c.rows.b.toList).flatMap ·) (funext fun row => ?_)
      rw [rowImage, unusedEntries_eq]

end Sys2Proof.Proofs
end
